-- ==== Sys2Proof/Word.lean ====
section
/-! DEFINITION. The byte, the one word type of this block: every multi-byte value is a list of bytes on a bus and a
number inside (R495). -/
namespace Sys2Proof

/-- Eight bits, as every bus, record and image of the block carries them. -/
abbrev Byte := BitVec 8

end Sys2Proof
end

