-- ==== Sys2Proof/Syntax.lean ====
section
/-! DEFINITION. The commands of the block with their operands: what arrives on a bus, a ball, a comparator or a
converter, and the block's own timers falling due. -/
namespace Sys2Proof

/-- The three lanes (R270). -/
inductive LaneId where
  | a | b | c
  deriving DecidableEq, Repr

/-- Where a write comes from. A lane delivers a VOTED_WRITE download to a node-ID,
of a client and sequence (R278, R397); the service
port delivers a WRITE datagram of a peer (its SVC_SESSION_PEER number) with a request identifier, a session counter
and, for an authenticated write, the 16 bytes of its tag (R513). -/
inductive Origin where
  | lane (l : LaneId) (node : Fin 128) (client : Fin 512) (seq : Fin 65536)
  | svc (peer req counter : Nat) (tag : List Byte)
  deriving DecidableEq, Repr

/-- A general write: a VOTED_WRITE download, a USDO download to another object, a command RPDO, or a service WRITE of
any object (R278, R498, R514). The key is 256 times the index plus the sub-index. -/
inductive WriteReq where
  | voted (l : LaneId) (node : Fin 128) (client : Fin 512) (seq : Fin 65536) (key : Fin 16777216) (data : List Byte)
  | download (l : LaneId) (node : Fin 128) (key : Fin 16777216) (data : List Byte)
  | rpdo (l : LaneId) (num : Fin 16) (client : Fin 512) (seq : Fin 65536) (data : List Byte)
  | malformed (l : LaneId)
  | segment (l : LaneId) (node : Fin 128) (key : Fin 16777216) (data : List Byte) (last : Bool)
  | svc (peer req counter : Nat) (tag : List Byte) (key : Fin 16777216) (offset : Nat) (data : List Byte)
  deriving DecidableEq, Repr

/-- An excursion over a band threshold: the device-time stamp of its crossing in edge units of 312.5 ps, and how long
it lasted in ns (R85, R136). -/
structure Excursion where
  at' : Nat
  ns : Nat
  deriving DecidableEq, Repr

/-- An instant at which a comparator of a channel changes: the channel, and the edge unit of 312.5 ps within the tick
(R85). -/
structure Crossing where
  ch : Fin 96
  sub : Fin 32
  deriving DecidableEq, Repr

/-- The member that a request of the master is for, and the sequence of the frame (R397). -/
structure Asked where
  pos : Fin 16
  seq : Nat
  deriving DecidableEq, Repr

/-- The start of a glowworm frame: its port, and whether the core has completed the actions of the frame (R46, R47). -/
structure GwStart where
  port : Fin 8
  complete : Bool
  deriving DecidableEq, Repr

/-- A slot of the matrix: the column currents sampled in it, in uA, and whether the core will have completed the actions
of the next frame when this one ends, as far as is known in this slot (R46, R260). -/
structure MxSlot where
  currents : List Nat
  ready : Bool
  deriving DecidableEq, Repr

/-- What the front end delivers of one pulse: the time from the on-edge to the BAND lower crossing in edge units of
312.5 ps; the excursions below and above the band; mean and peak of the current samples; the drain sample as
the divider gives it, in uV, with its stamp; the lowest and the present rail reading; how long the current stayed above OPEN_LO
while the gate was low, in ns; and the conduction fraction of the switching cycles as a ratio (R136, R138, R144,
R169). -/
structure PulseEv where
  rise : Option Nat
  below : List Excursion
  above : List Excursion
  iMean : Nat
  iPeak : Nat
  drain : Option (Nat × Nat)
  railMin : Nat
  railNow : Nat
  gateLowNs : Nat
  condNum : Nat
  condDen : Nat
  deriving DecidableEq, Repr

/-- What the firefly front end delivers of one optical window of a channel: the demodulated amplitude in nA, whether the
input passed 1 mA, whether the joint solution was ill-conditioned, the window's mean conduction current, and for a colour lamp the twelve amplitudes of filters 1 to 3
against channels red, green, blue, white, filter by filter (R160, R161, R163, R229). -/
structure OpticalEv where
  na : Nat
  overload : Bool
  illConditioned : Bool
  iMean : Nat
  colour : List Int
  deriving DecidableEq, Repr

/-- A RING_TIME frame at its reception: port, sequence, source position, the master-halted flag, the departure stamp,
the residence correction in units of 312.5 ps, the ring time of the next insertion window and the hop count. -/
structure RingTime where
  port : Fin 2
  seq : Nat
  src : Fin 16
  halted : Bool
  stamp : Nat
  corr : Int
  window : Nat
  hops : Nat
  deriving DecidableEq, Repr

/-- A COMMAND frame of the master: the position it is for, the sequence of the member's COMMAND frames, whether it carries the first and the
last fragment, the client, the destination node-ID, the object and the value bytes it carries; or an NMT command that the
master forwards (R397). -/
structure RingCommand where
  dst : Fin 16
  seq : Nat
  first : Bool
  last : Bool
  nmt : Option Byte
  client : Fin 512
  node : Fin 128
  key : Fin 16777216
  data : List Byte
  deriving DecidableEq, Repr

/-- A STATUS frame of a member. -/
structure RingStatus where
  pos : Fin 16
  seq : Nat
  data : List Byte
  deriving DecidableEq, Repr

/-- A JOIN frame (Table 11.6): position, sequence, hop count, serial, variant, RING_SIZE, the first bytes of the two
digests, and for each channel PF_POWER_NOM, PF_LEVEL_MIN and whether it belongs to a signal group. -/
structure RingJoin where
  pos : Fin 16
  seq : Nat
  hops : Nat
  serial : Nat
  variant : Nat
  size : Nat
  active : List Byte
  staged : List Byte
  channels : List (Nat × Nat × Nat)
  deriving DecidableEq, Repr

/-- What a termite slice found: whether the block was granted within 5 us and the sense path offered an interval,
whether the item passed, the failing row and bit of a memory test, how many rows failed, and for a slice that carried
a link burst its path and index and the errors counted (R464, R467 to R470, R477). -/
structure SliceResult where
  granted : Bool
  offered : Bool
  ok : Bool
  row : Nat
  bit : Nat
  rows : Nat
  burst : Option (Nat × Nat × Nat)
  deriving DecidableEq, Repr

/-- What came back on a glowworm return line: a number of bits with their value, first bit most significant, and the
delay in ns from the first rising edge of the check word sent to the first one returned; or no edge at all (R254). -/
inductive GwReturn where
  | word (bits value delayNs : Nat)
  | nothing
  deriving DecidableEq, Repr


/-- The commands the block takes, one constructor per row of the table of operations and events. -/
inductive Instr where
  /-- RESET_N_LOW (R409): A low pulse on RESET_N of at least 10 µs resets the device, and every output takes its reset level. -/
  | resetNLow (ticks : Nat)
  /-- RESET_RELEASE (R409): The later of supplies in range for 1 ms and RESET_N rising releases reset and starts kindling phase 1. -/
  | resetRelease (straps : Fin 16) (masterLow : Bool)
  /-- KINDLE_CLOCKS_LOCKED (R42): Every reference-derived cricket reaches lock, which ends kindling phase 1. -/
  | kindleClocksLocked
  /-- MASK_ROM_BOOT (R454): The mask ROM reads the fuse rows, selects a firmware slot or the loader, and starts the stoker. -/
  | maskRomBoot
  /-- EMBER_RECOVERY_DONE (R325): Ember recovery completes, abandoned erases are redone and RECORD values are rebuilt, which ends kindling phase 3. -/
  | emberRecoveryDone (us : Nat) (discarded : Nat) (uncorrectable : List Nat) (corrected : Nat)
  /-- KINDLED (R412): Kindling phase 4 completes: SAFE0_N is deasserted, the lanes leave standby and the boot-up heartbeat and boot-table entry are made. -/
  | kindled (dies : List Bool) (rails : List Nat)
  /-- KINDLE_TIMEOUT (R414): KINDLE_TIMEOUT_MS expires after KINDLED and ends kindling. -/
  | kindleTimeout
  /-- SUPPLY_BELOW_RANGE (R410): A main supply stays below its range for 10 µs and a power-fail bank starts. -/
  | supplyBelowRange (supply : Fin 4) (mv : Nat)
  /-- SUPPLY_ABOVE_RANGE (R410): A main supply stays above its range and the device enters HALT-SAFE with cause 0x0008. -/
  | supplyAboveRange (supply : Fin 4) (mv : Nat)
  /-- VKEEP_LOW (R410): VKEEP falls below its limit; the supply flag is set, or the cicada state is lost while VIO is absent. -/
  | vkeepLow (vioPresent : Bool) (mv : Nat)
  /-- HOLD_N_FALL (R421): HOLD_N stays low for 200 ns and a power-fail bank starts in the sequence of Table 9.5. -/
  | holdNFall
  /-- VHOLD_TRIP (R421): VHOLD_MV stays below HOLD_TRIP_MV for 10 µs and a power-fail bank starts. -/
  | vholdTrip (mv : Nat)
  /-- HOLDUP_LOW_WARN (R422): VHOLD_MV stays below HOLD_WARN_MV for 1 s and HOLDUP_LOW is raised. -/
  | holdupLowWarn (mv : Nat)
  /-- HOLDUP_LOW_CLEAR (R422): VHOLD_MV stays above the warning level plus 2 % for 10 s and HOLDUP_LOW clears. -/
  | holdupLowClear (mv : Nat)
  /-- BANKED_RESTART (R331): After a power-fail bank, HOLD_N high and supplies in range for 100 ms restart kindling from mask ROM. -/
  | bankedRestart
  /-- CRICKET_LOCK_LOSS (R43): A reference-derived cricket loses lock after KINDLED and the device enters HALT-SAFE with cause 0x0001. -/
  | cricketLockLoss (k : Fin 40)
  /-- TEMPO_WINDOW_CLOSE (R33): A 1 ms tempo window closes; the tempo index is judged, work is shed or restored, and HALT-SAFE follows on low tempo. -/
  | tempoWindowClose (events : Nat) (demand : Nat) (mandatory : Nat)
  /-- WATCHDOG_TOKEN_TIMEOUT (R48): A supervision or stoker token is missing too long, so the watchdog asserts SAFE1_N and forces the gates and ISO outputs. -/
  | watchdogTokenTimeout (supervision : Bool)
  /-- WATCHDOG_REF_WINDOW (R49): A watchdog window of 2000 K37 periods ends and the reference count is judged against its limits. -/
  | watchdogRefWindow (count : Nat)
  /-- GROUP_FRAME_BOUNDARY (R118): A group's frame boundary applies every change granted before it: levels, aspects, modes, configuration, retries and isolators. -/
  | groupFrameBoundary (g : Fin 24) (complete : Bool) (means : List (Option Nat))
  /-- BUCK_PEAK_CROSSING (R67): The current crosses BAND upper (I_pk) in a BUCK cycle and the gate turns off for the adapted off-time. -/
  | buckPeakCrossing (x : Crossing)
  /-- BUCK_OFF_TIME_EXPIRY (R67): The BUCK off-time ends inside an on-interval and a new switching cycle starts. -/
  | buckOffTimeExpiry (ch : Fin 96) (sample : Nat)
  /-- BUCK_PEAK_TIMEOUT (R69): A BUCK cycle fails to reach I_pk within 40 µs, ends, and is reported short of peak. -/
  | buckPeakTimeout (ch : Fin 96)
  /-- SHORT_HI_CROSSING (R75): A SHORT_HI crossing starts soft-off within 300 ns and raises or counts the short conditions. -/
  | shortHiCrossing (x : Crossing)
  /-- SOFT_OFF_COMPLETE (R75): The gate falls below 1.0 V in SOFT_OFF, is held low at full strength, and the channel enters LATCHED_DARK. -/
  | softOffComplete (ch : Fin 96)
  /-- SOFT_OFF_TIMEOUT (R81): Soft-off exceeds its time limit, the driver sinks at full strength, and the channel enters LATCHED_DARK. -/
  | softOffTimeout (ch : Fin 96)
  /-- LATCH_RETRY_TIMER (R77): 100 ms have passed since a channel latched, so a retry becomes due at a lit frame boundary. -/
  | latchRetryTimer (ch : Fin 96)
  /-- RETRY_PERIOD_CLEAN (R77): 10 s in LIT without a short return the retry count to 0 and clear RAMP_SHORT or SHORT. -/
  | retryPeriodClean (ch : Fin 96)
  /-- EVIDENCE_CLOSE (R130): A pulse's evidence closes and it is evaluated for the lit verdict. -/
  | evidenceClose (ch : Fin 96) (ev : PulseEv)
  /-- DC_E_INTERVAL_END (R131): An E-interval of a DC channel ends and is evaluated as a pulse. -/
  | dcEIntervalEnd (ch : Fin 96) (ev : PulseEv)
  /-- DARK_OPEN_LO_CROSSING (R147): Current above OPEN_LO on a commanded-dark channel starts the lit-when-dark debounce. -/
  | darkOpenLoCrossing (x : Crossing)
  /-- DARK_DRAIN_SAMPLE (R147): A 50 µs drain sample of a dark channel is taken and judged for drain grounding. -/
  | darkDrainSample (ch : Fin 96) (uv : Nat) (rail : Nat)
  /-- LIT_WHEN_DARK_DEBOUNCE (R150): A lit-when-dark failure persists for SUP_LIT_DEB_US, so LIT_FAULT is raised and the group isolator is opened. -/
  | litWhenDarkDebounce (ch : Fin 96)
  /-- ISOLATION_VERIFY (R96): 20 ms after a fault isolation the drains are checked and GRP_ISO_VERIFY is set. -/
  | isolationVerify (g : Fin 24) (drains : List Nat)
  /-- PROBE_DUE (R155): A probe pulse of a dark channel falls due and is fired unless it is suppressed. -/
  | probeDue (ch : Fin 96)
  /-- PROBE_END (R156): A probe ends at its OPEN_LO crossing or after 3 µs and passes or fails, updating continuity. -/
  | probeEnd (ch : Fin 96) (crossed : Bool)
  /-- WARMING_PULSE_JUDGE (R157): A warming pulse ends, is judged for continuity, and its width is regulated. -/
  | warmingPulseJudge (ch : Fin 96) (crossed : Bool) (mean : Nat)
  /-- OPTICAL_WINDOW_CLOSE (R163): An optical window closes, yields its optical state, and is fused with the electrical evidence. -/
  | opticalWindowClose (ch : Fin 96) (ev : OpticalEv)
  /-- LIFE_UPDATE_SECOND (R214): Every second, equivalent hours, conduction time and rate are accumulated for each lit channel. -/
  | lifeUpdateSecond
  /-- DERATING_UPDATE (R223): Every 100 ms the derating factor is recomputed, and DERATED_AT_FLOOR is judged. -/
  | deratingUpdate
  /-- RECALIBRATION_DAY (R221): At the end of 24 h of powered time, LIFE_CAL_PM is updated from the measured flux. -/
  | recalibrationDay
  /-- NTC_CONVERSION (R98): The 10 ms thermistor conversion gives the group temperature or an open or short status. -/
  | ntcConversion (g : Fin 24) (ohm : Nat)
  /-- KGND_MEASUREMENT (R97): KGNDnn is measured against GND every 10 ms. -/
  | kgndMeasurement (g : Fin 24) (mv : Int)
  /-- RAIL_DIP_DEBOUNCE (R425): A rail stays out of its declared range for RAIL_DIP_US and RAIL_DIP is raised. -/
  | railDipDebounce (rail : Fin 8) (mv : Nat)
  /-- RAIL_DIP_CLEAR (R425): A rail stays within its range for 10 ms and RAIL_DIP clears. -/
  | railDipClear (rail : Fin 8) (mv : Nat)
  /-- HO_RAIL0_BELOW (R430): RAIL0 falls below HO_THRESH_MV in CONVERTER and qualification starts. -/
  | hoRail0Below (mv : Nat)
  /-- HO_RAIL0_RETURN (R430): RAIL0 returns before 2 ms in QUALIFYING and handover returns to CONVERTER. -/
  | hoRail0Return (mv : Nat)
  /-- HO_QUALIFY_EXPIRY (R430): RAIL0 stays low for 2 ms; HANDOVER rises, or CUT_OFF is entered if the battery is cut off. -/
  | hoQualifyExpiry
  /-- HO_HANDOVER_DWELL (R430): 50 ms after HANDOVER rose, the state becomes ON_BATTERY. -/
  | hoHandoverDwell
  /-- HO_RETURN_DUE (R430): The return dwell has passed and RAIL0 has been stable for 1 s, so HANDOVER falls and CONVERTER is entered. -/
  | hoReturnDue
  /-- HO_CUTOFF_RECOVER (R430): RAIL0 stable for 1 s in CUT_OFF returns emergency channels to their commanded state. -/
  | hoCutoffRecover
  /-- BATTERY_CUTOFF (R431): The battery voltage stays below BAT_V_CUTOFF for 1 s and the battery is cut off. -/
  | batteryCutoff (mv : Nat)
  /-- BATTERY_CUTOFF_END (R431): The battery voltage stays at or above BAT_V_EMPTY_LOADED for 10 s with HANDOVER low and cut-off ends. -/
  | batteryCutoffEnd (mv : Nat)
  /-- BATTERY_REST_POINT (R427): A rest point is reached and the state of charge is set from BAT_REST_TABLE. -/
  | batteryRestPoint (mv : Nat)
  /-- AUTONOMY_UPDATE (R433): Every second the autonomy factor and the emergency levels are recomputed. -/
  | autonomyUpdate
  /-- WAKE_EDGE (R420): A rising WAKE edge while dormant is stamped in WAKE_STAMP. -/
  | wakeEdge
  /-- LANE_HEARTBEAT_RX (R287): A heartbeat from LN_TCMS_NODE arrives and updates the lane state. -/
  | laneHeartbeatRx (lane : LaneId) (node : Fin 128) (nmt : Byte)
  /-- LANE_TIME_RX (R291): A TIME frame arrives and is accepted when a second alive lane agrees. -/
  | laneTimeRx (lane : LaneId) (trainUs : Nat)
  /-- LANE_SYNC_RX (R292): A SYNC frame arrives, acts on its first reception, and triggers synchronous TPDOs. -/
  | laneSyncRx (lane : LaneId) (counter : Option (Fin 241))
  /-- NMT_START_REMOTE_NODE (R290): A voted NMT start command sets the NMT state to operational. -/
  | nmtStartRemoteNode (lane : LaneId) (node : Fin 128)
  /-- NMT_STOP_REMOTE_NODE (R273): A voted NMT stop command stops PDOs and USDO on all lanes while lamp control continues. -/
  | nmtStopRemoteNode (lane : LaneId) (node : Fin 128)
  /-- NMT_ENTER_PRE_OPERATIONAL (R273): A voted NMT command sets the NMT state to pre-operational. -/
  | nmtEnterPreOperational (lane : LaneId) (node : Fin 128)
  /-- NMT_RESET_NODE (R273): A voted NMT reset-node command is executed as reset communication. -/
  | nmtResetNode (lane : LaneId) (node : Fin 128)
  /-- NMT_RESET_COMMUNICATION (R273): A voted NMT command resets the communication state of the node. -/
  | nmtResetCommunication (lane : LaneId) (node : Fin 128)
  /-- USDO_UPLOAD (R277): A USDO upload is answered on its lane from the current value, without voting. -/
  | usdoUpload (lane : LaneId) (node : Fin 128) (key : Fin 16777216)
  /-- USDO_SEGMENT_TIMEOUT (R499): A segmented USDO transfer idle for 1 s is aborted. -/
  | usdoSegmentTimeout (lane : LaneId)
  /-- VOTE_WINDOW_CLOSE (R283): A vote window closes without execution, raising VOTE_DISAGREE and aborting the arrived lanes. -/
  | voteWindowClose (client : Fin 513) (seq : Fin 65536)
  /-- LANE_SILENT_TIMEOUT (R288): No heartbeat for LANE_SILENT_MS raises LANE_SILENT. -/
  | laneSilentTimeout (lane : LaneId)
  /-- LANE_TIMEOUT (R288): No heartbeat for LANE_TIMEOUT_MS excludes the lane with cause 1. -/
  | laneTimeout (lane : LaneId)
  /-- LANE_READMIT (R288): Heartbeats without a gap for LANE_READMIT_MS readmit an excluded lane. -/
  | laneReadmit (lane : LaneId)
  /-- LANE_BUS_OFF (R274): A lane enters bus-off and is excluded with cause 3. -/
  | laneBusOff (lane : LaneId)
  /-- LANE_BUS_OFF_RECOVERED (R274): A lane recovers from bus-off and becomes EXCLUDED pending readmission. -/
  | laneBusOffRecovered (lane : LaneId)
  /-- EMCY_WINDOW (R276): A 2 ms EMCY window opens, and one waiting report or merge summary is sent per lane. -/
  | emcyWindow (lane : LaneId)
  /-- HEARTBEAT_PERIOD (R502): The heartbeat period expires and heartbeats are sent on every lane, including proxied members. -/
  | heartbeatPeriod (lane : LaneId)
  /-- TPDO_EVENT_TIMER (R501): A TPDO's event time or inhibit time expires and the TPDO is sent. -/
  | tpdoEventTimer (pdo : Fin 16)
  /-- STATUS_PDO_SEND (R503): The status PDO is sent on a change or at TPDO_EVENT_MS. -/
  | statusPdoSend
  /-- VOTE_DISAGREE_CLEAR (R284): 1 s without a further disagreement clears VOTE_DISAGREE. -/
  | voteDisagreeClear (source : Fin 65536)
  /-- CLAIM_CONFLICT_CLEAR (R296): 1 s after its last raise, CLAIM_CONFLICT clears. -/
  | claimConflictClear (client : Fin 512)
  /-- SAFE_ASPECT_DELAY (R199): The safe-aspect delay expires after command-side or master silence, and the signal group enters its safe aspect. -/
  | safeAspectDelay (sg : Fin 32)
  /-- HOLD_OFF_EXPIRY (R171): A reporting source's 10 ms hold-off ends and any difference is reported as raises, clears or a set report. -/
  | holdOffExpiry (source : Fin 65536)
  /-- COALESCING_WINDOW_CLOSE (R171): A 10 ms coalescing window closes and held raises are reported as group or block summaries. -/
  | coalescingWindowClose (code : Fin 65536)
  /-- DIM_LEVEL (R295): A voted write commands a channel's level, subject to claims, holder rank and budget. -/
  | dimLevel (o : Origin) (ch : Fin 96) (level : Fin 65536)
  /-- SG_REQUEST (R181): A voted request for an aspect of a signal group is granted for the next boundary or sent as a ring commit. -/
  | sgRequest (o : Origin) (sg : Fin 32) (aspect : Fin 256)
  /-- PE_CH_BIND (R245): A voted write binds or unbinds a channel to a pattern engine. -/
  | peChBind (o : Origin) (ch : Fin 96) (engine : Fin 256)
  /-- PE_START (R247): PE_CONTROL := 1 starts an engine at sample 0 of PE_START_SEG at the next boundary. -/
  | peStart (o : Origin) (e : Fin 16)
  /-- PE_STOP (R247): PE_CONTROL := 2 stops an engine and sets its taps to 0 at the next boundary. -/
  | peStop (o : Origin) (e : Fin 16)
  /-- PE_JUMP_SEG (R248): A jump request is latched in the current sample and takes effect at its closing boundary. -/
  | peJumpSeg (o : Origin) (e : Fin 16) (seg : Fin 256)
  /-- GW_DATA (R256): A write changes the glowworm back buffer from byte 0. -/
  | gwData (o : Origin) (port : Fin 8) (data : List Byte)
  /-- GW_SWAP (R256): GW_SWAP := 1 copies the back buffer to the front at the next frame start. -/
  | gwSwap (o : Origin) (port : Fin 8)
  /-- MX_ROW (R262): A write changes one row of the matrix back buffer. -/
  | mxRow (o : Origin) (row : Fin 16) (data : List Byte)
  /-- MX_SWAP (R262): MX_SWAP := 1 copies the matrix back buffer to the front at the next frame start. -/
  | mxSwap (o : Origin)
  /-- SUP_CLEAR (R170): An authorised write clears the selected latched or active channel conditions at the next frame boundary. -/
  | supClear (o : Origin) (ch : Fin 96) (bits : Fin 65536)
  /-- LIFE_RESET (R233): Writing 0x01 starts a new lamp epoch and commits it as a record of its own. -/
  | lifeReset (o : Origin) (ch : Fin 96)
  /-- CL_BUDGET_NOW_MW (R298): A SAFETY client sets a client's live budget and the yield factor is recomputed. -/
  | clBudgetNowMw (o : Origin) (client : Fin 512) (mw : Fin 4294967296)
  /-- CL_RETAIN (R312): A client writes its retained variables, dirtying pages for the next bank. -/
  | clRetain (o : Origin) (client : Fin 512) (data : List Byte)
  /-- FENCE_ISSUE (R306): A member issues fence k of a group, holding its later commands until the fence completes. -/
  | fenceIssue (o : Origin) (group : Fin 256) (k : Fin 16777216)
  /-- FENCE_TIMEOUT (R305): A fence not completed within FG_TIMEOUT_MS is completed by timeout and FENCE_TIMEOUT is raised. -/
  | fenceTimeout (f : Fin 32)
  /-- TK_FENCE (R308): A task fence latches the input image, grants the output image and queues the image TPDO. -/
  | tkFence (o : Origin) (cls : Fin 8) (cycle : Fin 4294967296)
  /-- CAP_TRIGGER (R347): A manual trigger starts a capture, or is counted as missed. -/
  | capTrigger (o : Origin)
  /-- CAP_FREEZE (R349): A capture's segments are frozen against erasure, within the 25 % quota. -/
  | capFreeze (o : Origin) (num : Fin 4294967296)
  /-- CAP_UNFREEZE (R349): A frozen capture is released to be reclaimed in log order. -/
  | capUnfreeze (o : Origin) (num : Fin 4294967296)
  /-- CFG_STAGE_OPEN (R401): CFG_STAGE_CONTROL := 1 erases the staged half and copies the active configuration into it. -/
  | cfgStageOpen (o : Origin)
  /-- CFG_STAGE_COMPLETE (R401): CFG_STAGE_CONTROL := 2 starts the staging checks and the staged digest. -/
  | cfgStageComplete (o : Origin)
  /-- CFG_STAGE_DISCARD (R401): CFG_STAGE_CONTROL := 3 erases the staged half. -/
  | cfgStageDiscard (o : Origin)
  /-- STAGED_WRITE (R401): An RWS write changes the staged value and returns the half to OPEN. -/
  | stagedWrite (o : Origin) (key : Fin 16777216) (data : List Byte)
  /-- STAGE_OPEN_DONE (R401): The erase and copy of OPENING complete and the half becomes OPEN. -/
  | stageOpenDone
  /-- STAGING_CHECKS_DONE (R100): The staging checks end, so the half becomes READY with its digest or REFUSED with the first failure. -/
  | stagingChecksDone
  /-- CFG_ACTIVATE (R402): ACTIVATE is judged by its checks and schedules a switch or a revert, or raises DIGEST_MISMATCH. -/
  | cfgActivate (o : Origin) (data : List Byte)
  /-- ACTIVATION_INSTANT (R403): The activation instant is reached, and the configuration switches at each object's next frame boundary. -/
  | activationInstant
  /-- CFG_CONFIRM (R404): CONFIRM of the active epoch erases the previous half. -/
  | cfgConfirm (o : Origin) (epoch : Fin 4294967296)
  /-- CAL_NOW (R419): A voted write sets the calendar and CAL_VALID. -/
  | calNow (o : Origin) (seconds : Fin 4294967296)
  /-- CICADA_ENTER (R418): Writing 0x01 banks the device, writes the cicada state and holds it banked. -/
  | cicadaEnter (o : Origin)
  /-- ERR_FIELD_COUNT (R501): Writing 0 empties the error field. -/
  | errFieldCount (o : Origin) (value : Fin 256)
  /-- LC_REQUEST_PROVISION (R442): A transition request to PROVISION burns the intent row, performs its steps, burns the done row and resets. -/
  | lcRequestProvision (o : Origin) (serialLow : Fin 4294967296)
  /-- LC_REQUEST_SERVICE (R442): A transition request to SERVICE burns the intent row, performs its steps, burns the done row and resets. -/
  | lcRequestService (o : Origin) (serialLow : Fin 4294967296)
  /-- LC_REQUEST_RETIRED (R442): A transition request to RETIRED burns the intent row, revokes the keys, burns the done row and resets. -/
  | lcRequestRetired (o : Origin) (serialLow : Fin 4294967296)
  /-- LC_MAINT_ENTER (R440): LC_MAINT_CONTROL := 1 in a session changes SERVICE to MAINTENANCE. -/
  | lcMaintEnter (o : Origin)
  /-- LC_MAINT_LEAVE (R440): LC_MAINT_CONTROL := 0 returns MAINTENANCE to SERVICE. -/
  | lcMaintLeave (o : Origin)
  /-- MAINT_LIMIT_EXPIRY (R440): LC_MAINT_LIMIT_MIN without a session returns the device to SERVICE. -/
  | maintLimitExpiry
  /-- KEY_INSTALL (R446): In PROVISION, a maintenance key is burned into the lowest blank key slot. -/
  | keyInstall (o : Origin) (data : List Byte)
  /-- FW_UPD_OPEN (R451): FW_UPD_CONTROL := 1 erases the inactive slot for an update. -/
  | fwUpdOpen (o : Origin)
  /-- FW_ERASE_DONE (R451): The slot erase completes and the update enters RECEIVING. -/
  | fwEraseDone
  /-- FW_UPD_VERIFY (R451): FW_UPD_CONTROL := 2 starts verification of the received image. -/
  | fwUpdVerify (o : Origin)
  /-- FW_VERIFY_DONE (R450): Verification ends with VERIFIED, or with REFUSED and FIRMWARE_REJECTED. -/
  | fwVerifyDone
  /-- FW_UPD_ACTIVATE (R453): FW_UPD_CONTROL := 3 writes TRIAL, banks and resets. -/
  | fwUpdActivate (o : Origin)
  /-- FW_UPD_ABANDON (R451): FW_UPD_CONTROL := 4 abandons the update. -/
  | fwUpdAbandon (o : Origin)
  /-- FW_CONFIRM (R456): Confirmation writes CONFIRMED, burns the security counter, revokes key 0 if flagged, and erases the held format. -/
  | fwConfirm (o : Origin) (version : Fin 4294967296)
  /-- PROBATION_EXPIRY (R455): The probation window closes unconfirmed, and the image is rejected with cause 7 and the device resets. -/
  | probationExpiry
  /-- REPLAY_ENTER (R361): REPLAY_CONTROL := 1 in MAINTENANCE resets the device into REPLAY. -/
  | replayEnter (o : Origin)
  /-- REPLAY_START (R364): REPLAY_CONTROL := 2 restarts the core in the recorded firmware and runs from the anchor. -/
  | replayStart (o : Origin)
  /-- REPLAY_DISCARD (R365): REPLAY_CONTROL := 3 discards the extract. -/
  | replayDiscard (o : Origin)
  /-- REPLAY_INPUT (R357): The replay advances to the next recorded input and processes it, comparing the records produced. -/
  | replayInput
  /-- XB_BUILD (R358): Writing XB_BUILD starts building an extract anchored at XB_RESET_COUNT. -/
  | xbBuild (o : Origin)
  /-- XB_BUILD_DONE (R360): The extract build completes, setting XB_STATE ready or refused. -/
  | xbBuildDone
  /-- TT_ENGINE_ENTER (R474): TT_ENGINE_CONTROL := 1 enters the test state. -/
  | ttEngineEnter (o : Origin)
  /-- TT_ENGINE_RUN (R474): TT_ENGINE_CONTROL := 2 runs every test non-transparently. -/
  | ttEngineRun (o : Origin)
  /-- TEST_ENGINE_DONE (R474): The full test run ends and TT_ENGINE_RESULT is set. -/
  | testEngineDone (failed : Fin 8192) (item : Nat)
  /-- LK_START (R476): LK_CONTROL := 1 starts a link check in the test state. -/
  | lkStart (o : Origin)
  /-- LK_STOP (R476): LK_CONTROL := 2 stops a link check. -/
  | lkStop (o : Origin)
  /-- LINK_CHECK_DURATION_END (R476): LK_DURATION_MS expires and the link check ends. -/
  | linkCheckDurationEnd (bits : Nat) (errors : Nat)
  /-- WRITE_REGISTER (R498): A write to any other object is checked and applied under its access code. -/
  | writeRegister (w : WriteReq)
  /-- SVC_READ (R516): A READ datagram returns an object's active or staged value. -/
  | svcRead (peer : Nat) (req : Nat) (key : Fin 16777216) (stagedHalf : Bool) (offset : Nat) (length : Nat)
  /-- AUTH_CHALLENGE (R447): A challenge request is answered with a nonce, unless it is refused under lockout. -/
  | authChallenge (peer : Nat) (req : Nat)
  /-- AUTH_RESPONSE (R447): A host response is checked; on a match a session opens, otherwise the failure lockout grows. -/
  | authResponse (peer : Nat) (req : Nat) (hostNonce : List Byte) (response : List Byte)
  /-- SESSION_CLOSE (R447): The host closes its authenticated session. -/
  | sessionClose (peer : Nat) (req : Nat) (counter : Nat) (tag : List Byte)
  /-- AUTH_IDLE_EXPIRY (R447): AUTH_IDLE_S without a valid datagram ends the session. -/
  | authIdleExpiry
  /-- AUTH_LOCKOUT_EXPIRY (R448): The lockout time ends and challenges are accepted again. -/
  | authLockoutExpiry
  /-- JOURNAL_INFO (R514): The device returns the journal's head, oldest, boot and last sealed segment numbers. -/
  | journalInfo (peer : Nat) (req : Nat)
  /-- SEGMENT_READ (R514): The device returns bytes of a journal segment as programmed. -/
  | segmentRead (peer : Nat) (req : Nat) (seg : Nat) (offset : Nat) (length : Nat)
  /-- EXTRACT_READ (R514): The device returns bytes of a ready extract. -/
  | extractRead (peer : Nat) (req : Nat) (offset : Nat) (length : Nat)
  /-- EXTRACT_LOAD (R518): An extract part is written into the journal dies in offset order. -/
  | extractLoad (peer : Nat) (req : Nat) (counter : Nat) (tag : List Byte) (offset : Nat) (data : List Byte)
  /-- EXTRACT_LOAD_FINAL (R363): The part with the last flag ends loading and the extract is verified. -/
  | extractLoadFinal (peer : Nat) (req : Nat) (counter : Nat) (tag : List Byte) (offset : Nat) (data : List Byte)
  /-- FW_BLOCK (R518): A firmware block part is received, and a complete block is CRC-checked and programmed. -/
  | fwBlock (peer : Nat) (req : Nat) (counter : Nat) (tag : List Byte) (block : Nat) (part : Nat) (crc : Nat) (data : List Byte)
  /-- ARP_REQUEST (R511): An ARP request for the port's address is answered. -/
  | arpRequest (peer : Nat) (target : Nat)
  /-- ICMP_ECHO (R511): An ICMP echo request is answered. -/
  | icmpEcho (peer : Nat) (target : Nat) (data : List Byte)
  /-- PERIODIC_BANK_DUE (R327): BANK_INTERVAL_MIN has passed and a periodic bank starts. -/
  | periodicBankDue
  /-- EARLY_BANK_DUE (R327): 24 dirty retained pages and 5 min since the last bank start an early bank. -/
  | earlyBankDue
  /-- BANK_END (R329): A bank completes with BANK_END committed. -/
  | bankEnd (bytes : Nat) (us : Nat)
  /-- EMBER_COMPACTION (R319): With fewer than 8 erased sectors ahead, a checkpoint is written forward and the oldest sectors are erased. -/
  | emberCompaction
  /-- PATROL_START (R334): The patrol starts after 30 days of powered time or after a long dormancy. -/
  | patrolStart
  /-- PATROL_COMPLETE (R333): The patrol has read every sector and refreshed those that needed it. -/
  | patrolComplete (worst : Nat) (refreshed : List Nat)
  /-- JOURNAL_RECOVERY_DONE (R338): Journal recovery after KINDLED completes and any unsealed segment is sealed truncated. -/
  | journalRecoveryDone (head : Nat)
  /-- SEGMENT_SEAL (R343): A full segment, or one whose capture ends, is sealed with its SHA-256 and chained. -/
  | segmentSeal
  /-- JOURNAL_ERASE_BATCH (R337): A die erases a batch of 64 blocks under one ERASE_INTENT to keep its reserve. -/
  | journalEraseBatch (die : Fin 7) (block : Nat) (failed : List Nat)
  /-- OVERRUN_RECORD (R344): Space returns in the event buffer and one OVERRUN record with the count is written. -/
  | overrunRecord
  /-- JOURNAL_OVERRUN_CLEAR (R344): 10 s after the last lost record, JOURNAL_OVERRUN clears. -/
  | journalOverrunClear
  /-- CAPTURE_SRAM_FULL (R348): The SRAM fills while the rate exceeds the drain, so decimation begins and CAPTURE_DECIMATED is raised. -/
  | captureSramFull
  /-- CAPTURE_POST_END (R347): CAP_POST_MS after the trigger, the capture ends. -/
  | capturePostEnd
  /-- CAPTURE_DRAIN_DONE (R348): The capture drain completes and CAPTURE_DECIMATED clears. -/
  | captureDrainDone (rate : Nat) (segs : Nat)
  /-- VIRESQUE_PACKET_FAIL (R398): A failed journal packet is resent, and the link is retrained after three failures. -/
  | viresquePacketFail (die : Fin 7)
  /-- RING_TIME_SEND (R388): Every 100 µs the master sends RING_TIME. -/
  | ringTimeSend
  /-- RING_TIME_RX (R389): A member receives RING_TIME and updates its ring time, its state and the insertion schedule. -/
  | ringTimeRx (r : RingTime)
  /-- DELAY_REQ_PERIOD (R388): Once per second per hop, DELAY_REQ is sent. -/
  | delayReqPeriod (port : Fin 2)
  /-- DELAY_REQ_RX (R388): A neighbour's DELAY_REQ is answered with DELAY_RESP. -/
  | delayReqRx (port : Fin 2) (pos : Fin 16) (seq : Nat)
  /-- DELAY_RESP_RX (R388): DELAY_RESP gives the hop delay in each direction. -/
  | delayRespRx (port : Fin 2) (seq : Nat) (t2 : Nat) (t3 : Nat)
  /-- TIME_MAP_RX (R391): A member takes the train-time mapping in ring time from TIME_MAP. -/
  | timeMapRx (seq : Nat) (train : Nat) (ringTime : Nat)
  /-- RING_COMMAND_RX (R395): A member receives a COMMAND frame or fragment and grants the whole command at M01 in sequence order. -/
  | ringCommandRx (f : RingCommand)
  /-- ASPECT_COMMIT_RX (R190): A ring aspect commit is scheduled for the first boundary at or after T. -/
  | aspectCommitRx (seq : Nat) (sg : Fin 32) (aspect : Fin 256) (t : Nat) (commitSeq : Nat)
  /-- COMMIT_REPEAT (R380): An ASPECT_COMMIT copy is sent again 10 µs after the previous one. -/
  | commitRepeat
  /-- FENCE_MARK_RX (R395): A member receives notice of a completed fence ahead of released commands. -/
  | fenceMarkRx (seq : Nat) (group : Fin 32) (k : Nat)
  /-- NAK_RX (R380): The master retransmits from the missing sequence. -/
  | nakRx (pos : Fin 16) (cls : Fin 256) (seq : Nat)
  /-- DICT_REQ_RX (R397): A member answers a proxied USDO request. -/
  | dictReqRx (req : Asked) (key : Fin 16777216) (write : Option (List Byte))
  /-- DICT_RESP_RX (R397): The master relays a member's USDO response on the lane. -/
  | dictRespRx (pos : Fin 16) (seq : Nat) (req : Nat) (status : Nat) (data : List Byte)
  /-- STATUS_SEND (R378): Every 100 ms a member sends STATUS to the master. -/
  | statusSend
  /-- STATUS_RX (R397): The master records a member's status for its proxied heartbeat. -/
  | statusRx (st : RingStatus)
  /-- CONDITION_FRAME_RX (R397): The master sends a member's condition report as EMCY under its node-ID. -/
  | conditionFrameRx (pos : Fin 16) (seq : Nat) (kind : Nat) (code : Nat) (source : Nat) (detail : Nat) (at' : Nat) (map : List Nat)
  /-- TELEMETRY_SEND (R378): Every 10 ms a member sends TELEMETRY. -/
  | telemetrySend
  /-- TELEMETRY_RX (R378): The master records a member's telemetry. -/
  | telemetryRx (pos : Fin 16) (seq : Nat) (data : List Byte)
  /-- INSERTION_WINDOW_START (R383): An insertion window starts and a LISTENING member opens its bypass and inserts. -/
  | insertionWindowStart
  /-- JOIN_RX (R384): The master admits or refuses a joining member. -/
  | joinRx (j : RingJoin)
  /-- JOIN_RETRY (R383): With no ADMIT within 5 ms, the member repeats JOIN. -/
  | joinRetry
  /-- ADMIT_RX (R383): A member is admitted, sets device time to ring time and becomes ACTIVE. -/
  | admitRx (seq : Nat) (pos : Fin 16) (ringTime : Nat)
  /-- JOIN_REFUSAL_RX (R383): A refused member closes its bypass and stays REFUSED until reset. -/
  | joinRefusalRx (pos : Fin 16) (reason : Nat)
  /-- RING_TIME_LOSS (R383): With no RING_TIME for 1 ms, ring time becomes invalid and the member is LOST. -/
  | ringTimeLoss
  /-- BYPASS_CHECK (R385): A declared position not admitted 100 ms after KINDLED, or silent for 1 ms, raises BYPASS_ACTIVE. -/
  | bypassCheck (silent : List Nat)
  /-- FOREIGN_RING_TIME (R386): A master sees another master's RING_TIME, and the one with the higher serial yields. -/
  | foreignRingTime (serial : Nat)
  /-- HOP_DOWN (R392): A hop is declared down and both ends wrap, raising RING_WRAP. -/
  | hopDown (port : Fin 2) (cause : Nat)
  /-- HOP_RESTORE (R394): A hop up for 1 s is restored, and both ends unwrap at the next RING_TIME. -/
  | hopRestore (port : Fin 2)
  /-- TEST_GRANT_SEND (R466): Every 1 s the master sends TEST_GRANT with each position's slice phase. -/
  | testGrantSend
  /-- TEST_GRANT_RX (R466): A member takes its slice phase from TEST_GRANT. -/
  | testGrantRx (seq : Nat) (pos : Fin 16)
  /-- TEST_GRANT_MISSING (R466): With no TEST_GRANT for 2 s, the member stops its termite slices. -/
  | testGrantMissing
  /-- SLICE_PHASE (R462): At the slice phase a termite slice requests its block and tests one item. -/
  | slicePhase (r : SliceResult)
  /-- SLICE_GRANT_TIMEOUT (R464): A block not granted within 5 µs defers the slice. -/
  | sliceGrantTimeout
  /-- FIN_RAW_EDGE (R487): A threshold crossing is stamped, journalled and opens a debounce window. -/
  | finRawEdge (k : Fin 32) (on : Bool)
  /-- FIN_DEBOUNCE_EXPIRY (R488): A debounce window closes without a further edge and the debounced state changes. -/
  | finDebounceExpiry (k : Fin 32)
  /-- FIN_BREAK_ENTER (R486): Current below FIN_BREAK_UA for FIN_BREAK_MS enters BREAK and raises OPEN. -/
  | finBreakEnter (k : Fin 32)
  /-- FIN_BREAK_EXIT (R486): Current restored for FIN_BREAK_MS leaves BREAK and clears OPEN. -/
  | finBreakExit (k : Fin 32)
  /-- GW_FRAME_START (R253): A glowworm frame starts and sends the front buffer and, in supervised timing, the check word. -/
  | gwFrameStart (start : GwStart)
  /-- GW_RETURN_JUDGE (R254): The return window closes and the frame is judged, raising OPEN or TYPE_MISMATCH after debounce. -/
  | gwReturnJudge (port : Fin 8) (ret : GwReturn)
  /-- MX_FRAME_START (R261): A matrix frame starts, free-running or at a qualifying MSYNC edge plus the offset. -/
  | mxFrameStart
  /-- MX_SLOT_START (R260): A matrix slot energises its row and columns and checks its indicators. -/
  | mxSlotStart (slot : MxSlot)
  /-- MSYNC_EDGE (R261): An MSYNC edge is qualified for locking. -/
  | msyncEdge (rising : Bool)
  /-- MSYNC_LOSS (R261): With no qualifying edge for twice the period, the matrix runs free. -/
  | msyncLoss
  /-- JTAG_EXTEST (R478): The EXTEST instruction is loaded into the TAP. -/
  | jtagExtest
  /-- JTAG_IDCODE (R478): The IDCODE instruction selects TT_IDCODE. -/
  | jtagIdcode
  /-- JTAG_SAMPLE_PRELOAD (R478): The SAMPLE/PRELOAD instruction is loaded into the TAP. -/
  | jtagSamplePreload
  /-- JTAG_CLAMP (R478): The CLAMP instruction is loaded into the TAP. -/
  | jtagClamp
  /-- JTAG_HIGHZ (R478): The HIGHZ instruction is loaded into the TAP. -/
  | jtagHighz
  /-- JTAG_EXTEST_PULSE (R478): The IEEE 1149.6 EXTEST_PULSE instruction is loaded into the TAP. -/
  | jtagExtestPulse
  /-- JTAG_EXTEST_TRAIN (R478): The IEEE 1149.6 EXTEST_TRAIN instruction is loaded into the TAP. -/
  | jtagExtestTrain
  /-- JTAG_BYPASS (R478): BYPASS, or any undecoded instruction, selects the bypass register. -/
  | jtagBypass
  /-- PULSE_ON_EDGE (R111): The group cricket places a channel's on-edge at boundary plus offset; the gate rises, BUCK cycling or warming begins and the inrush window opens. -/
  | pulseOnEdge (ch : Fin 96)
  /-- PULSE_OFF_EDGE (R70): At the placed off-edge the gate turns off wherever the switching cycle stands, and a pending sense-range switch takes place. -/
  | pulseOffEdge (ch : Fin 96)
  /-- INRUSH_WINDOW_END (R135): PF_INRUSH_TIME after the first on-edge, the BAND upper threshold returns from PF_INRUSH_MAX to its normal value. -/
  | inrushWindowEnd (ch : Fin 96)
  /-- DARK_OPEN_LO_FALL (R150): On a commanded-dark channel the current falls back below OPEN_LO, which interrupts the lit-when-dark debounce. -/
  | darkOpenLoFall (ch : Fin 96)
  /-- WATCHDOG_TOKEN (R48): The watchdog receives a supervision or stoker token, restarting its gap timer; after KINDLED with both tokens received, it deasserts SAFE1_N. -/
  | watchdogToken (supervision : Bool)
  /-- UNCORRECTABLE_SRAM_ERROR (R50): An uncorrectable SRAM error is detected, and the device enters HALT-SAFE with halt cause 0x0007 and the address. -/
  | uncorrectableSramError (address : Fin 4294967296)
  /-- INSERTION_WINDOW_END (R381): A 30 µs insertion window ends, and the master sends the COMMAND and ASPECT_COMMIT frames withheld during it, in voted order. -/
  | insertionWindowEnd
  /-- PRE_TRIGGER_WINDOW_FILLED (R347): After arming or after a capture, the SRAM again holds CAP_PRE_MS of samples, and CAP_STATE moves from filling to armed so triggers are taken. -/
  | preTriggerWindowFilled
  /-- BATTERY_SAMPLE (R426): At 1 kS/s the battery voltage and current are read, the charge count is updated, and the conflict rules of Table 12.7 are judged. -/
  | batterySample (mv : Nat) (ua : Int)
  /-- RAIL0_STABLE_CHANGE (R430): In HANDING_OVER, ON_BATTERY or CUT_OFF, RAIL0 crosses HO_THRESH_MV + HO_HYST_MV, which starts or restarts the stability timer. -/
  | rail0StableChange (stable : Bool)
  /-- HOP_LOCK_REGAINED (R394): A receiver on a down ring port regains lock and valid symbols, which starts the 1 s restore timer. -/
  | hopLockRegained (port : Fin 2)
  /-- FIN_UNKNOWN_END (R489): FIN_DEBOUNCE_US after KINDLED, or after an activation changed the input with no raw edge, the input leaves UNKNOWN and takes its raw state. -/
  | finUnknownEnd (k : Fin 32)
  /-- SLICE_END (R464): A termite slice ends, at most 50 µs after its phase, restores the row under test and releases its block at M13 to the waiting owner. -/
  | sliceEnd
  /-- TEST_LOGIC_RESET (R478): TRST_N low, or TESTEN low or a life-cycle state other than FACTORY or MAINTENANCE, forces the TAP into Test-Logic-Reset with TDO high impedance and IDCODE selected. -/
  | testLogicReset
  deriving DecidableEq, Repr

end Sys2Proof
end

