-- ==== Sys2Proof/Decode.lean ====
section
/-! DEFINITION. The command a word spells by the table's bits. No row of the table of operations and events gives any
bits, so no word spells a command. -/
namespace Sys2Proof

/-- None for every word: the table's rows have no bits. -/
def decodeTableWord (_nbits _w : Nat) : Option Instr := none

end Sys2Proof
end

