-- ==== Sys2Proof/Config.lean ====
section
/-! DEFINITION. What the spec leaves open, as constants without a value: no proof can see what they are. -/
namespace Sys2Proof.Config

/-- The value a counter shows once it passes the top of its type, of the key and the count; the spec states none
except for counters it calls wrapping (log entry 12). -/
opaque counterPast : Nat → Nat → Nat

/-- The n-th nonce the entropy source gives (R447; log entry 5). -/
opaque nonce : Nat → Nat

/-- The payload bytes of a journal record, of its type, fields and bytes; Table 9.7 names the fields and no layout
(log entry 7). -/
opaque recordPayload : Nat → List Int → List Byte → List Byte

/-- The fields and bytes a recorded payload of a type stands for (log entry 7). -/
opaque recordFields : Nat → List Byte → List Int × List Byte

/-- The arrival that a recorded LANE_FRAME or RING_FRAME payload stands for (log entry 7). -/
opaque recorded : Nat → List Byte → Option Instr

/-- A byte no rule gives, of the place and its position (log entry 9). -/
opaque openByte : Nat → Nat → Byte

/-- A number no rule gives, of the place and the operands (log entry 9). -/
opaque openNat : Nat → List Int → Nat

end Sys2Proof.Config
end

