-- ==== Sys2Proof/Machine/State.lean ====
section
/-! DEFINITION. The state of the block as plain data: the object dictionary (every object of the spec's tables that is
not computed from another home), the state the spec gives the block beside it, and the queue of waiting commands. -/
namespace Sys2Proof.Machine

/-- The value of a dictionary object: a number, or bytes for VSTRING, OSTRING and DOMAIN (R495). -/
inductive Val where
  | num (v : Int)
  | bytes (b : List Byte)
  deriving DecidableEq, Repr

/-- Objects by key, keys strictly rising, no entry equal to the object's default. -/
abbrev Store := List (Nat × Val)

/-- A sparse table: keys strictly rising, an absent key holds the default of its use. -/
abbrev Tab (α : Type) := List (Nat × α)

/-- OPERATING_STATE, 0x2001.01 (R56, R416). -/
inductive OpState where
  | kindling | kindled | operating | haltSafe | replay | loader
  deriving DecidableEq, Repr

/-- LC_STATE, 0x2500.02 (R438). -/
inductive LcState where
  | factory | provision | service | maintenance | replay | retired
  deriving DecidableEq, Repr

/-- A three-state logic output. -/
inductive Tri where
  | z | low | high
  deriving DecidableEq, Repr

/-- A gate driver: held low, driven high, or on the soft-off path (R80, R81). -/
inductive GateLevel where
  | low | high | soft
  deriving DecidableEq, Repr

/-- Output balls and the bypass (R80, R92, R205, R271, R375, R411, R430, R525, R533). `safe0` and `safe1` tell whether the output
is asserted, which is low. -/
structure Outs where
  gate : Tab GateLevel := []
  iso : Tab Tri := []
  safe0 : Bool := true
  safe1 : Bool := true
  stb : Tri := .high
  handover : Tri := .low
  /-- IRQ_N is driven low (R525) -/
  irq : Bool := false
  /-- SVC_PHYRST_N is driven low (R533) -/
  phyRst : Bool := true
  bypass : Bool := true
  gwOn : Bool := false
  mxRow : Option Nat := none
  mxCols : List Nat := []
  deriving DecidableEq, Repr

/-- Input balls and external conditions as last sampled (R371, R409, R421, R478, R524, R533). -/
structure Ins where
  resetN : Bool := true
  holdN : Bool := true
  masterLow : Bool := true
  straps : Nat := 0
  testen : Bool := false
  supplyOk : Bool := true
  jtag : Bool := false
  tapIr : Nat := 1
  deriving DecidableEq, Repr

/-- A frame, datagram or answer the block puts on a bus, in the order sent. -/
inductive Out where
  /-- A CAN FD frame on a lane: identifier and data (heartbeat, EMCY, TPDO). -/
  | can (lane id : Nat) (data : List Byte)
  /-- A USDO upload answer on a lane. -/
  | usdoData (lane key : Nat) (data : List Byte)
  /-- A USDO download answered done on a lane, for the client and sequence. -/
  | usdoOk (lane client seq : Nat)
  /-- A USDO transfer answered with an abort code on a lane. -/
  | usdoAbort (lane code : Nat)
  /-- A service datagram to a peer: opcode with bit 7 set, request identifier, status, payload. -/
  | svc (peer opcode req status : Nat) (payload : List Byte)
  /-- A ring frame: class, flags, source position, destination, sequence, payload. -/
  | ring (cls flags src dst seq : Nat) (payload : List Byte)
  /-- An ARP answer to a peer. -/
  | arp (peer : Nat)
  /-- An ICMP echo answer to a peer. -/
  | icmp (peer : Nat) (data : List Byte)
  /-- A glowworm frame of a port: the node data in order, the check word. -/
  | gw (port : Nat) (data : List Byte) (check : Nat)
  deriving DecidableEq, Repr

/-- An active condition (R507). -/
structure Cond where
  code : Nat
  source : Nat
  detail : Nat
  latched : Bool
  map : List Nat
  at' : Nat
  deriving DecidableEq, Repr

/-- A report into the condition queue, laid out on a lane as an EMCY frame (R171, R504). -/
structure Report where
  kind : Nat
  code : Nat
  source : Nat
  detail : Nat
  at' : Nat
  map : List Nat
  deriving DecidableEq, Repr

/-- One reporting source under rule 1 of R171. -/
structure SrcRep where
  reported : List Nat := []
  holdEnd : Option Nat := none
  /-- raises and clears not reported yet, with their instants -/
  changes : List (Nat × Bool × Nat) := []
  /-- details of the conditions cleared in the hold-off -/
  details : Tab Nat := []
  deriving DecidableEq, Repr

/-- The coalescing window of one condition code under rules 2 and 3 of R171. -/
structure CoalWin where
  win : Nat := 0
  first : Option Nat := none
  firstAt : Nat := 0
  /-- the sources of the raises held, with their instants -/
  held : List (Nat × Nat) := []
  deriving DecidableEq, Repr

/-- A condition-history entry (R510). -/
structure HistEntry where
  code : Nat
  source : Nat
  detail : Nat
  cal : Nat
  kind : Nat
  deriving DecidableEq, Repr

/-- Conditions and their reporting (R171, R276, R508, R510). -/
structure Reporting where
  conds : List Cond := []
  /-- the details for which a condition stands, each with its latch, by 65536 times the code plus the source -/
  stands : Tab (List (Nat × Bool)) := []
  errField : List Nat := []
  src : Tab SrcRep := []
  win : Tab CoalWin := []
  /-- reports waiting on a lane, each with the ring position it is sent for -/
  emcy : Tab (List (Nat × Report)) := []
  emcyWin : Tab Nat := []
  histWait : List HistEntry := []
  hist : List HistEntry := []
  deriving DecidableEq, Repr

/-- A journal record (R339). -/
structure JRec where
  ty : Nat
  fields : List Int
  data : List Byte
  at' : Nat
  deriving DecidableEq, Repr

/-- A sealed segment of the journal (R342). -/
structure Seg where
  num : Nat
  kind : Nat
  truncated : Bool
  /-- the frozen flag as programmed at sealing, and whether the segment is frozen now (R342, R349) -/
  flagged : Bool
  frozen : Bool
  resetCount : Nat
  first : Nat
  prev : List Byte
  body : List Byte
  train : Nat
  sig : List Byte
  deriving DecidableEq, Repr

/-- A run of grants at a mutex point (R36). -/
structure MutexRun where
  winner : Nat := 0
  count : Nat := 0
  deriving DecidableEq, Repr

/-- A capture of the directory (R349). -/
structure Capture where
  num : Nat
  trigAt : Nat
  first : Nat
  segs : Nat
  dec : Nat
  frozen : Bool
  deriving DecidableEq, Repr

/-- Journal and capture (R336 to R349). -/
structure Journal where
  buf : List JRec := []
  lost : Nat := 0
  lostFirst : Nat := 0
  lostLast : Nat := 0
  recovered : Bool := false
  segs : List Seg := []
  head : Nat := 0
  boot : Nat := 0
  lastSeal : List Byte := []
  runs : Tab MutexRun := []
  /-- the highest content of the event buffer -/
  peak : Nat := 0
  caps : List Capture := []
  capStart : Nat := 0
  /-- CAP_POST_MS and the capture rate as the capture in progress began with them -/
  capPost : Nat := 0
  capRate : Nat := 0
  freezeDue : Bool := false
  refillAt : Nat := 0
  /-- 64 KiB segments programmed on each die beside the whole MiB in its object -/
  prog : Tab Nat := []
  /-- the first segment of each boot, by RESET_COUNT -/
  firsts : Tab Nat := []
  /-- consecutive packet failures of each link -/
  fails : Tab Nat := []
  /-- the event records of the last 60 s, newest first: instant and bytes -/
  recent : List (Nat × Nat) := []
  /-- the fullest second of event records so far, in bytes -/
  ratePeak : Nat := 0
  deriving DecidableEq, Repr

/-- An Ember record as committed: type, sequence, the fields of its body, bytes of its body (R320). -/
structure EmbRec where
  ty : Nat
  seq : Nat
  fields : List Nat
  data : List Byte
  deriving DecidableEq, Repr

/-- A bank in progress (R327, R330). -/
structure Bank where
  num : Nat
  cause : Nat
  start : Nat
  pages : List Nat
  /-- the RECORD values it commits -/
  snap : Store
  /-- the history entries it commits, oldest first -/
  hist : List HistEntry
  /-- the BATTERY record it commits (R429) -/
  battery : List Nat
  deriving DecidableEq, Repr

/-- The Ember store beside the dictionary values it keeps (R318 to R334). -/
structure Ember where
  log : List EmbRec := []
  seqNext : Nat := 1
  bank : Option Bank := none
  fromCicada : Bool := false
  /-- retained pages changed since the last bank began -/
  dirty : List Nat := []
  lastBank : Option Nat := none
  checkpoint : Nat := 0
  /-- erases under way: 1 configuration half, 2 firmware slot -/
  intents : List Nat := []
  /-- a patrol is due after this reset (R334) -/
  patrolDue : Bool := false
  /-- the number of a power-fail bank that a supply loss cut short -/
  cutBank : Option Nat := none
  deriving DecidableEq, Repr

/-- A vote window (R281, R283). `client` 512 marks an NMT vote (R290). `body` is the executed body, `result` the abort
code of its execution or 0. -/
structure VoteWin where
  client : Nat
  seq : Nat
  opened : Nat
  arrivals : List (Nat × List Byte)
  body : Option (List Byte)
  result : Nat := 0
  deriving DecidableEq, Repr

/-- What the vote station keeps of a client, and its yield ramp (R280, R300). -/
structure Client where
  high : Option Nat := none
  /-- executed sequences in h - 63 to h, with the CRC-32C of the payload and the result -/
  done : List (Nat × Nat × Nat) := []
  pendingFences : List Nat := []
  y0 : Nat := 65536
  y1 : Nat := 65536
  t1 : Nat := 0
  claimAt : Nat := 0
  deriving DecidableEq, Repr

/-- A fence group beside its objects (R306). -/
structure Fence where
  issued : List Nat := []
  last : Nat := 0
  lastTimedOut : Bool := false
  late : Nat := 0
  deriving DecidableEq, Repr

/-- A command held by a fence or in an output image, in voted order (R304, R309). -/
structure Held where
  client : Nat
  /-- the writes of the command, by key -/
  writes : List (Nat × Val)
  task : Option Nat
  /-- the ring position it is for; the block's own writes have its own -/
  pos : Nat
  deriving DecidableEq, Repr

/-- A write granted at M12 and waiting for its frame boundary (R39, R119). -/
structure Grant where
  key : Nat
  val : Val
  client : Nat
  at' : Nat
  /-- it names its instant, and counts at a boundary on it (R118) -/
  named : Bool := false
  deriving DecidableEq, Repr

/-- A segmented USDO transfer open on a lane (R500). -/
structure Usdo where
  node : Nat
  key : Nat
  last : Nat
  data : List Byte
  deriving DecidableEq, Repr

/-- A lane beside its objects (R288, R291, R292, R500). -/
structure LaneSt where
  hbRun : Option Nat := none
  dissents : List Nat := []
  usdo : Option Usdo := none
  lastHbSent : Nat := 0
  deriving DecidableEq, Repr

/-- Voting, clients and lanes (R270 to R317). -/
structure Lanes where
  lane : Tab LaneSt := []
  wins : List VoteWin := []
  client : Tab Client := []
  fence : Tab Fence := []
  held : List Held := []
  taskAt : Tab Nat := []
  /-- an instant, and the lanes whose frames of it have been granted at M00 already (R37) -/
  intake : Nat × List Nat := (0, [])
  /-- TIME frames that await their second lane: lane, train time, stamp -/
  timeWait : List (Nat × Nat × Nat) := []
  /-- the last SYNC that acted: counter plus 1 or 0, lane, stamp -/
  sync : Option (Nat × Nat × Nat) := none
  /-- the sections of the input image at the last boundary of G00, and its instant -/
  inSnap : Option (Nat × List (List Byte)) := none
  syncCount : Tab Nat := []
  voteDisAt : Tab Nat := []
  kindledAt : Nat := 0
  fewSince : Option Nat := none
  nmt : Nat := 0x7F
  tpdoAt : Tab Nat := []
  tpdoLast : Tab (List Byte) := []
  tkQueue : Tab (List Byte) := []
  deriving DecidableEq, Repr

/-- The limits of a placed pulse, as in force at its on-edge (R132, R133, R134). -/
structure Limits where
  openLo : Nat := 0
  bandLo : Nat := 0
  bandHi : Nat := 0
  loPm : Nat := 0
  hiPm : Nat := 0
  shortHi : Nat := 0
  tRise : Nat := 0
  tValid : Nat := 0
  iTarget : Nat := 0
  buck : Bool := false
  profile : Nat := 0
  inrushMax : Nat := 0
  railReq : Nat := 0
  visible : Nat := 0
  drainLit : Nat := 0
  glitch : Nat := 0
  darkDeb : Nat := 1
  clearDeb : Nat := 1
  typeDeb : Nat := 8
  supLatch : Nat := 0
  vfMin : Nat := 0
  vfMax : Nat := 0
  diodeVf : Nat := 0
  ratio : Nat := 0
  rail : Nat := 0
  deriving DecidableEq, Repr

/-- A pulse, from its on-edge until its evidence closes. Its edges and instants are edge units of 312.5 ps. -/
structure PulseRec where
  onEdge : Nat := 0
  offEdge : Nat := 0
  limits : Limits := {}
  shortHi : Bool := false
  shortHiAt : Nat := 0
  settling : Bool := false
  /-- a pulse that continues a conduction has no rise item (R131) -/
  riseItem : Bool := true
  /-- an E-interval of DC conduction (R131) -/
  eInt : Bool := false
  inrush : Bool := false
  /-- the channel has been commanded dark since (R142) -/
  dark : Bool := false
  /-- GRP_FRAME_COUNT in the frame of its on-edge -/
  frame : Nat := 0
  /-- conduction with the gate low has been found after it (R144) -/
  lowSeen : Bool := false
  firstShort : Option Nat := none
  laterShort : Option Nat := none
  deriving DecidableEq, Repr

/-- A channel beside its objects (R63 to R77, R117, R125 to R171). Instants are ticks, durations of BUCK switching are
ps; edges, and the instants that are compared with them, are edge units of 312.5 ps. -/
structure Chan where
  /-- commanded lit at the last boundary -/
  lit : Bool := false
  /-- commanded dark with warming at the last boundary -/
  warm : Bool := false
  /-- conducting continuously -/
  dc : Bool := false
  /-- no on-edge is placed in this frame (DC just left) -/
  noOn : Bool := false
  /-- the last on-edge placed -/
  placed : Option Nat := none
  /-- the on-edge of the conduction in progress -/
  gateEdge : Nat := 0
  /-- an activation has set the channel OFF at this instant -/
  offAt : Option Nat := none
  /-- instant of the present latch -/
  latchAt : Nat := 0
  retryDue : Bool := false
  inRetry : Bool := false
  thirdLatched : Bool := false
  latchedBeforeIso : Bool := false
  latchCleared : Bool := false
  litSince : Nat := 0
  softAt : Nat := 0
  trim : Int := 0
  toff : Nat := 0
  cycle : Nat := 0
  cycleOpen : Bool := false
  cycleAt : Nat := 0
  gateOffAt : Nat := 0
  warmWidth : Nat := 0
  rangeInUse : Nat := 1
  rangeWait : Bool := false
  settleEnd : Nat := 0
  pulseOpen : Bool := false
  pulse : PulseRec := {}
  /-- pulses whose evidence has not closed, oldest first -/
  due : List PulseRec := []
  /-- the last pulse with its evidence closed, while the span with the gate low after it lasts (R144) -/
  lowPend : Option PulseRec := none
  /-- the instant from which conduction with the gate low counts -/
  lowFrom : Nat := 0
  inrushDue : Bool := false
  inrushOn : Bool := false
  inrushEnd : Nat := 0
  good : Nat := 0
  qual : Nat := 0
  gateLowRun : Nat := 0
  gateLowClean : Nat := 0
  /-- the OPEN_LO comparator stands above its threshold -/
  curHigh : Bool := false
  /-- its last crossing upwards -/
  curAt : Nat := 0
  /-- the first dark evidence of the current failure that stands -/
  curFrom : Option Nat := none
  /-- the first and the last drain sample of the grounding that stands -/
  drainAt : Option Nat := none
  drainLast : Nat := 0
  darkFrom : Nat := 0
  probeFails : Nat := 0
  warmFails : Nat := 0
  probeOpen : Bool := false
  probeAt : Nat := 0
  warmOpen : Bool := false
  suspendEnd : Nat := 0
  optAbsent : Nat := 0
  optPresent : Nat := 0
  /-- frame count and instant at which the present optical window began -/
  optSince : Nat := 0
  optAt : Nat := 0
  /-- frames of the window with both intervals of at least 5.0 us (R163) -/
  optFrames : Nat := 0
  /-- the highest current sample of a frame, and the frame -/
  peak : Nat := 0
  peakFrame : Nat := 0
  litCmdAt : Nat := 0
  typeOut : Nat := 0
  typeIn : Nat := 0
  /-- the outcome of the pulse before, as the journal numbers it; 1 is GOOD -/
  model : Nat := 1
  modelReason : Nat := 0
  runCount : Nat := 0
  runAt : Nat := 0
  startAt : Nat := 0
  deriving DecidableEq, Repr

/-- Life data of a channel beside its objects (R213 to R235). Conduction time is kept in edge units of 312.5 ps, the
fraction of equivalent time and the sum of the day's measured flux in units of 2^-64. -/
structure LifeSt where
  tLast : Option Int := none
  tInvalidAt : Option Nat := none
  tValidAt : Option Nat := none
  readings : List Int := []
  floorAt : Option Nat := none
  aboveFloorAt : Option Nat := none
  winSum : Nat := 0
  winCount : Nat := 0
  fracEq : Nat := 0
  fracLit : Nat := 0
  fracKnee : Nat := 0
  onTime : Nat := 0
  onCharge : Nat := 0
  /-- LIFE_RATE_PM in units of 10^-12 permille, once it has been formed since reset -/
  rate : Option Nat := none
  /-- a life reset, by the instant at which it counts as granted -/
  setOne : Option Nat := none
  /-- c, which LIFE_COMP_PM reports, and F, which LIFE_FACTOR_PM reports, as granted for the next boundary, in units of
  10^-12; an F granted at an instant still to come -/
  comp : Nat := 1000000000000
  fUse : Nat := 1000000000000
  fNext : Option (Nat × Nat) := none
  deriving DecidableEq, Repr

/-- A dimming group beside its objects (R92 to R96, R112 to R121). -/
structure Grp where
  next : Nat := 50000
  frameLen : Nat := 50000
  /-- the period of the grid that the frame in progress ends on (R120) -/
  gridPeriod : Nat := 50000
  /-- edge units by which the last boundary and the next one lie behind their ticks (R113) -/
  sub : Nat := 0
  nextSub : Nat := 0
  /-- the length by which the pulses of the frame are placed, S of a seam frame and Pe of another, in edge units, and the
  length of the frame before in ticks -/
  frameEdges : Nat := 1600000
  prevLen : Nat := 50000
  /-- the grid has moved since the last boundary (R120) -/
  moved : Bool := false
  isoOpenAt : Nat := 0
  isoVerify : Bool := false
  isoFault : Bool := false
  isoClosedAt : Nat := 0
  deriving DecidableEq, Repr

/-- A signal group beside its objects (R182, R190, R197). -/
structure SigGrp where
  /-- requests granted and not yet applied, each with the instant of its grant -/
  request : List (Nat × Nat) := []
  /-- the engines of the applied aspect -/
  engines : List Nat := []
  commits : List (Nat × Nat × Nat) := []
  /-- a safe-aspect entry that waits for its boundary: the cause, and the first instant at which it counts -/
  safe : Option (Nat × Nat) := none
  /-- the present silence has had its delay expire -/
  delayDone : Bool := false
  lastBoundary : Nat := 0
  deriving DecidableEq, Repr

/-- A pattern engine beside its objects (R242, R247, R248). A start, a stop and each jump hold the instant at which
they count as executed. -/
structure Pe where
  framesLeft : Nat := 0
  startAt : Option Nat := none
  stopAt : Option Nat := none
  jumps : List (Nat × Nat) := []
  lastAt : Option Nat := none
  /-- the boundary of the last jump taken -/
  jumpAt : Option Nat := none
  deriving DecidableEq, Repr

/-- A glowworm port beside its objects (R253 to R258). -/
structure Gw where
  front : List Byte := []
  swapAt : Option Nat := none
  seq : Nat := 0
  check : Nat := 0
  /-- the node data last sent -/
  last : List Byte := []
  noReturn : Nat := 0
  mismatch : Nat := 0
  good : Nat := 0
  awaiting : Bool := false
  deriving DecidableEq, Repr

/-- The desk matrix beside its objects (R260 to R265). -/
structure Mx where
  front : List (List Byte) := []
  swapAt : Option Nat := none
  edgeAt : Option Nat := none
  edgeRun : Nat := 0
  lostOnce : Bool := false
  startAt : Option Nat := none
  frameAt : Nat := 0
  frameOpen : Bool := false
  /-- whether the actions of the next frame of K33 will be complete when the frame in progress ends (R46) -/
  ready : Bool := true
  /-- rows, columns, nominal rate and period of the frame in progress -/
  rows : Nat := 0
  cols : Nat := 32
  hz : Nat := 0
  period : Nat := 0
  slot : Nat := 0
  probeCount : Nat := 0
  probeFrame : Bool := false
  openRun : Tab Nat := []
  shortRun : Tab Nat := []
  passRun : Tab Nat := []
  deriving DecidableEq, Repr

/-- A field input beside its objects (R484 to R490). -/
structure Fin' where
  rawOn : Bool := false
  /-- the debounced state; OFF while broken -/
  on : Bool := false
  broken : Bool := false
  unknown : Bool := true
  /-- UNKNOWN since an activation: a raw edge starts its span anew -/
  restart : Bool := false
  windowAt : Option Nat := none
  changeAt : Nat := 0
  deriving DecidableEq, Repr

/-- A port of the ring: 0 is W, 1 is E (R388, R392 to R394). -/
structure Hop where
  down : Bool := false
  lockAt : Option Nat := none
  unwrapDue : Bool := false
  reqAt : Option Nat := none
  reqSeq : Nat := 0
  deriving DecidableEq, Repr

/-- What the master knows of a position beside its objects (R384, R397). -/
structure Pos where
  hops : Nat := 0
  /-- admitted, and then silent -/
  gone : Bool := false
  /-- PF_POWER_NOM, PF_LEVEL_MIN and signal-group membership of its channels -/
  channels : List (Nat × Nat × Nat) := []
  /-- holder and commanded level of its channels, as the master granted them -/
  own : Tab (Nat × Nat) := []
  status : List Byte := []
  telemetry : List Byte := []
  deriving DecidableEq, Repr

/-- The ring (R370 to R398). -/
structure Ring where
  hop : Tab Hop := []
  pos : Tab Pos := []
  /-- frames that give way at M05 on this instant: requester and frame (R379) -/
  through : List (Nat × Out) := []
  txSeq : Tab Nat := []
  rxSeq : Tab Nat := []
  sentFrames : List (Nat × Nat × Nat × List Byte) := []
  /-- the fragments of a command of which the last has not arrived: its value so far -/
  frag : Option (List Byte) := none
  timeFrames : Nat := 0
  offset : Int := 0
  /-- the last RING_TIME sent or received -/
  lastTime : Nat := 0
  /-- the last valid ring frame of the master -/
  lastMaster : Nat := 0
  joinAt : Nat := 0
  statusAt : Nat := 0
  telemetryAt : Nat := 0
  /-- COMMAND and ASPECT_COMMIT frames withheld for an insertion window: class, destination, payload -/
  withheld : List (Nat × Nat × List Byte) := []
  /-- commits to send again: when, how often, their frame sequence, payload -/
  repeats : List (Nat × Nat × Nat × List Byte) := []
  /-- the hop count of the last RING_TIME received -/
  hops : Nat := 0
  /-- proxied uploads under way: request, lane, node, key -/
  asked : List (Nat × Nat × Nat × Nat) := []
  askSeq : Nat := 0
  yielded : Bool := false
  inserted : Bool := false
  trainMap : Option (Nat × Nat) := none
  grantAt : Option Nat := none
  grantSentAt : Nat := 0
  bypassMap : List Nat := []
  deriving DecidableEq, Repr

/-- A configuration switch in progress, or one waiting for its instant (R402, R403). -/
structure Switch where
  epoch : Nat
  digest : List Byte
  instant : Nat
  started : Bool
  passed : List Nat
  back : Bool
  deriving DecidableEq, Repr

/-- Configuration epochs beside their objects (R401 to R405, R457). -/
structure Cfg where
  switch : Option Switch := none
  formatHold : Bool := false
  /-- the format of the active configuration, and of the one held -/
  format : Nat := 1
  heldFormat : Nat := 1
  deriving DecidableEq, Repr

/-- The watchdog on K37, the tempo monitor and the frames of the crickets (R26, R33, R46 to R50, R205, R206). Watchdog instants are its own. -/
structure Guard where
  /-- the last tempo window that closed, by its millisecond of the block's clock -/
  window : Nat := 0
  good : Nat := 0
  low : Nat := 0
  supAt : Nat := 0
  stokerAt : Nat := 0
  supTok : Bool := false
  stokerTok : Bool := false
  /-- the token has come since KINDLED (R205) -/
  supIn : Bool := false
  stokerIn : Bool := false
  /-- consecutive underruns of the crickets that place frames (R47) -/
  under : Tab Nat := []
  tripped : Bool := false
  deriving DecidableEq, Repr

/-- Supplies, hold-up, battery, handover and the cicada domain beside their objects (R409 to R436). -/
structure Power where
  lifeSec : Nat := 0
  derateAt : Nat := 0
  calDay : Nat := 0
  ntcAt : Tab Nat := []
  kgndAt : Tab Nat := []
  inReset : Bool := false
  banked : Bool := false
  kindlingEnded : Bool := false
  /-- the instant at which kindling ended -/
  endedAt : Nat := 0
  /-- ticks of the calendar within its second -/
  calTick : Nat := 0
  wake : Bool := false
  keepLost : Bool := false
  restSince : Option Nat := none
  sampled : Nat := 0
  /-- the first battery reading since reset release -/
  firstSample : Option Nat := none
  /-- charge not yet in BAT_CHARGE_MAH, in nA ms -/
  chargeFrac : Int := 0
  rail0Low : Option Nat := none
  rail0Back : Option Nat := none
  autAt : Nat := 0
  /-- the autonomy factor before its last change, and the instant of that change -/
  autWas : Nat × Nat := (65536, 0)
  /-- bytes 0 to 18 of the cicada state of the last power-down (Table 12.6) -/
  cicada : Option (List Byte) := none
  /-- a supply above its range during a bank: HALT-SAFE follows the bank -/
  overAfter : Option Nat := none
  deriving DecidableEq, Repr

/-- A firmware slot (R449, R452): its programmed blocks, the parts of blocks being received, and its trailer. `base`
marks the release image that a part is delivered with (R543), whose bytes the spec does not give. -/
structure Slot where
  base : Bool := false
  blocks : Tab (List Byte) := []
  parts : Tab (List Byte) := []
  trial : Bool := false
  /-- the update count in the TRIAL unit -/
  trialNo : Nat := 0
  booted : Nat := 0
  confirmed : Nat := 0
  rejected : Nat := 0
  verified : Bool := false
  deriving DecidableEq, Repr

/-- Life cycle, keys, sessions and firmware beside their objects (R438 to R460, R517). -/
structure Admin where
  keys : Tab (List Byte) := []
  /-- session state held in the cicada domain: MAINTENANCE -/
  maint : Bool := false
  sessionKey : List Byte := []
  sessionOpen : Bool := false
  sessionPeer : Nat := 0
  lastCounter : Nat := 0
  lastTag : List Byte := []
  lastAnswer : Option Out := none
  lastSeen : Nat := 0
  nonce : Option (List Byte) := none
  fails : Nat := 0
  lockEnd : Option Nat := none
  /-- ticks of powered time in MAINTENANCE without an authenticated session -/
  maintRun : Nat := 0
  /-- the factory test lock, burned before delivery, and the lock of key installation (Table 13.2, R543) -/
  testLock : Bool := true
  keyLock : Bool := false
  slot : Tab Slot := [(0, { base := true, trial := true, confirmed := 1 })]
  deriving DecidableEq, Repr

/-- Termite, test engine and link checker beside their objects (R462 to R477). -/
structure SelfTest where
  /-- items done of the test in progress -/
  item : Nat := 0
  /-- what the item that failed showed, until its repeat -/
  failed : Option Nat := none
  sliceEnd : Option Nat := none
  /-- a slice whose block has not been granted yet, since its phase -/
  asking : Option Nat := none
  lastSlice : Nat := 0
  cycleAt : Nat := 0
  skipped : List Nat := []
  /-- the block under test: a path of Table 14.2 and its index -/
  hold : Option (Nat × Nat) := none
  lkAt : Nat := 0
  /-- rows, failing bits and conditions of repairs in this cycle -/
  repaired : List Nat := []
  /-- clean bursts since an error, by 256 times the path plus the index -/
  clean : Tab Nat := []
  deriving DecidableEq, Repr

/-- What a run of the replay shows replayed values of, as the block itself has it (R362). -/
structure Own where
  dict : Store
  staged : Store
  cfg : Cfg
  rep : Reporting
  deriving DecidableEq, Repr

/-- A recorded run of grants that a mutex point has to make in a run of the replay: winner, grants left, stamp, whether the
first has been made, and the segment and bytes of its record (R36, R367). -/
structure Expect where
  winner : Nat
  left : Nat
  at' : Nat
  met : Bool
  seg : Nat
  bytes : List Byte
  deriving DecidableEq, Repr

/-- Replay and extracts (R351 to R369). -/
structure Replay where
  /-- the extract loaded so far -/
  loaded : List Byte := []
  /-- the recorded events of the extract: segment, the record's bytes, the record -/
  inputs : List (Nat × List Byte × JRec) := []
  pos : Nat := 0
  /-- digests of the configuration images the extract carries -/
  images : List (List Byte) := []
  /-- a build is under way, and the extract built -/
  building : Bool := false
  built : List Byte := []
  /-- within a run: device time, operating state, and what else the run has of its own -/
  clock : Nat := 0
  op : OpState := .kindled
  power : Power := {}
  jnl : Journal := {}
  /-- the block computes a step of the run -/
  run : Bool := false
  made : List JRec := []
  /-- requests of the run that have not been granted yet, by mutex point: requester and instant -/
  asked : Tab (List (Nat × Nat)) := []
  /-- recorded runs of which grants are left, by mutex point, in recorded order -/
  expect : Tab (List Expect) := []
  /-- mutex points of which a recorded run has been met -/
  points : List Nat := []
  bootTable : List (List Byte) := []
  /-- the entry of this boot awaits a bank -/
  bootNew : Bool := false
  /-- the RECORD values rebuilt at each boot of the table -/
  bootImages : List Store := []
  /-- the block's own values while a run shows replayed ones -/
  own : Option Own := none
  deriving DecidableEq, Repr

/-- The block beside the queue of commands. -/
structure Dev where
  /-- device time, ticks of 10 ns (R16, R52, R53) -/
  now : Nat := 0
  /-- ticks of K36 since reset release, which no step of device time changes (R26, R53) -/
  ticks : Nat := 0
  op : OpState := .kindling
  lc : LcState := .provision
  /-- dictionary objects by key (R493) -/
  dict : Store := []
  /-- RECORD objects as of the last completed bank (R57, R321) -/
  banked : Store := []
  /-- the staged half of the configuration (R401) -/
  staged : Store := []
  /-- what the block has put on its buses, oldest first -/
  sent : List Out := []
  /-- digests under way at M04: r of a requester's message in progress, r + 4 of one that waits for its turn (R38) -/
  digests : List Nat := []
  /-- requests at M12 that wait for the boundary of their group: group and requester (R119) -/
  asks : List (Nat × Nat) := []
  /-- the requests other waiting commands make at mutex points at this instant, while a command runs (log entry 13) -/
  waiters : List (Nat × Nat) := []
  /-- the model's own counter of free values drawn (log entry 5) -/
  freeCount : Nat := 0
  outs : Outs := {}
  ins : Ins := {}
  rep : Reporting := {}
  jnl : Journal := {}
  ember : Ember := {}
  lanes : Lanes := {}
  grants : List Grant := []
  chan : Tab Chan := []
  life : Tab LifeSt := []
  grp : Tab Grp := []
  sg : Tab SigGrp := []
  silentEntered : List Nat := []
  pe : Tab Pe := []
  gw : Tab Gw := []
  mx : Mx := {}
  fin : Tab Fin' := []
  ring : Ring := {}
  cfg : Cfg := {}
  guard : Guard := {}
  power : Power := {}
  admin : Admin := {}
  test : SelfTest := {}
  replay : Replay := {}
  deriving DecidableEq, Repr

/-- The state: the block and the commands waiting for it, first in, first out. -/
structure State where
  dev : Dev := {}
  pending : List Instr := []
  deriving DecidableEq, Repr

/-- Reasons for a fault. Every command of the table has an effect the spec gives, so no meaning of this model ends in
a fault. -/
inductive Fault where
  /-- Raised by no command; it keeps the type inhabited. Safe: it is never answered. -/
  | never
  deriving DecidableEq, Repr

/-- Reasons for a refusal. -/
inductive Refusal where
  /-- A command of the table without a meaning, by its mnemonic. Safe: the model stops where the block goes on. -/
  | notModelled (mnemonic : String)
  deriving DecidableEq, Repr

/-- The block at reset release with its supplies in range: device time 0, KINDLING, every object at its default and no
command waiting (R52, R409, R411, R416). -/
def State.reset : State := {}

end Sys2Proof.Machine
end

