-- ==== Sys2Proof/Machine/ObjKeys.lean ====
section
/-! DEFINITION. The key of every dictionary object, by the name its table gives it (tables of every chapter, R493).
A key is 256 times the index plus the sub-index, the number CFG_STAGE_FAIL_INDEX uses for an object (Table 11.14).
An object that stands once per instance takes the instance's number; one that fills a run of sub-indices takes
the offset in the run as its last number. -/
namespace Sys2Proof.Machine.Obj

/-- ID_HIGHEST_SUB, U8, RO, FUSE (R56). -/
abbrev ID_HIGHEST_SUB : Nat := 256 * 0x2000 + 0x00
/-- PART_NAME, VSTRING, RO, FUSE (R56). -/
abbrev PART_NAME : Nat := 256 * 0x2000 + 0x01
/-- SERIAL_NUMBER, U64, RO, FUSE (R56). -/
abbrev SERIAL_NUMBER : Nat := 256 * 0x2000 + 0x02
/-- CONTROL_DIE_REV, U16, RO, FUSE (R56). -/
abbrev CONTROL_DIE_REV : Nat := 256 * 0x2000 + 0x03
/-- MASK_ROM_VERSION, U32, RO, FUSE (R56). -/
abbrev MASK_ROM_VERSION : Nat := 256 * 0x2000 + 0x04
/-- LOT_CODE, U32, RO, FUSE (R56). -/
abbrev LOT_CODE : Nat := 256 * 0x2000 + 0x05
/-- MANUFACTURE_DAY, U32, RO, FUSE (R56). -/
abbrev MANUFACTURE_DAY : Nat := 256 * 0x2000 + 0x06
/-- REF_SOURCE, U8, RO, FUSE (R56). -/
abbrev REF_SOURCE : Nat := 256 * 0x2000 + 0x07
/-- STAT_HIGHEST_SUB, U8, RO, MAYFLY (R56). -/
abbrev STAT_HIGHEST_SUB : Nat := 256 * 0x2001 + 0x00
/-- OPERATING_STATE, U8, RO, MAYFLY (R56). -/
abbrev OPERATING_STATE : Nat := 256 * 0x2001 + 0x01
/-- HALT_CAUSE, U16, RO, MAYFLY (R56). -/
abbrev HALT_CAUSE : Nat := 256 * 0x2001 + 0x02
/-- HALT_DETAIL, U32, RO, MAYFLY (R56). -/
abbrev HALT_DETAIL : Nat := 256 * 0x2001 + 0x03
/-- RESET_CAUSE, U8, RO, MAYFLY (R56). -/
abbrev RESET_CAUSE : Nat := 256 * 0x2001 + 0x04
/-- RESET_COUNT, U32, RO, RECORD (R56). -/
abbrev RESET_COUNT : Nat := 256 * 0x2001 + 0x05
/-- POWERED_TIME_S, U64, RO, RECORD (R56). -/
abbrev POWERED_TIME_S : Nat := 256 * 0x2001 + 0x06
/-- TEMPO_HIGHEST_SUB, U8, RO, MAYFLY (R56). -/
abbrev TEMPO_HIGHEST_SUB : Nat := 256 * 0x2002 + 0x00
/-- TEMPO_INDEX, U16, RO, MAYFLY (R56). -/
abbrev TEMPO_INDEX : Nat := 256 * 0x2002 + 0x01
/-- TEMPO_MIN, U16, RO, MAYFLY (R56). -/
abbrev TEMPO_MIN : Nat := 256 * 0x2002 + 0x02
/-- TEMPO_MAX, U16, RO, MAYFLY (R56). -/
abbrev TEMPO_MAX : Nat := 256 * 0x2002 + 0x03
/-- TEMPO_MIN_LIFE, U16, RO, RECORD (R56). -/
abbrev TEMPO_MIN_LIFE : Nat := 256 * 0x2002 + 0x04
/-- TEMPO_LOW_TIME_MS, U32, RO, RECORD (R56). -/
abbrev TEMPO_LOW_TIME_MS : Nat := 256 * 0x2002 + 0x05
/-- SHED_STATE, U8, RO, MAYFLY (R56). -/
abbrev SHED_STATE : Nat := 256 * 0x2002 + 0x06
/-- DEMAND_INDEX, U16, RO, MAYFLY (R56). -/
abbrev DEMAND_INDEX : Nat := 256 * 0x2002 + 0x07
/-- MANDATORY_DEMAND, U16, RO, MAYFLY (R56). -/
abbrev MANDATORY_DEMAND : Nat := 256 * 0x2002 + 0x08
/-- SHED_COUNT, U32, RO, RECORD (R56). -/
abbrev SHED_COUNT : Nat := 256 * 0x2002 + 0x09
/-- MUTEX_HIGHEST_SUB, U8, RO, MAYFLY (R56). -/
abbrev MUTEX_HIGHEST_SUB : Nat := 256 * 0x2003 + 0x00
/-- MUTEX_CONTESTED_M00–M13, U32, RO, MAYFLY (R56). -/
abbrev MUTEX_CONTESTED (i : Nat) : Nat := 256 * 0x2003 + 0x01 + i
/-- CRK_HIGHEST_SUB, U8, RO, MAYFLY (R56). -/
abbrev CRK_HIGHEST_SUB (n : Nat) : Nat := 256 * (0x2010 + n) + 0x00
/-- CRK_LOCK_STATE, U8, RO, MAYFLY (R56). -/
abbrev CRK_LOCK_STATE (n : Nat) : Nat := 256 * (0x2010 + n) + 0x01
/-- CRK_PHASE_ERR, I16, RO, MAYFLY (R56). -/
abbrev CRK_PHASE_ERR (n : Nat) : Nat := 256 * (0x2010 + n) + 0x02
/-- CRK_SYNC_COUNT, U32, RO, MAYFLY (R56). -/
abbrev CRK_SYNC_COUNT (n : Nat) : Nat := 256 * (0x2010 + n) + 0x03
/-- CRK_TIE_COUNT, U32, RO, MAYFLY (R56). -/
abbrev CRK_TIE_COUNT (n : Nat) : Nat := 256 * (0x2010 + n) + 0x04
/-- CRK_UNDERRUN_COUNT, U32, RO, RECORD (R56). -/
abbrev CRK_UNDERRUN_COUNT (n : Nat) : Nat := 256 * (0x2010 + n) + 0x05
/-- CRK_LOCK_LOSS_COUNT, U32, RO, RECORD (R56). -/
abbrev CRK_LOCK_LOSS_COUNT (n : Nat) : Nat := 256 * (0x2010 + n) + 0x06
/-- TIME_HIGHEST_SUB, U8, RO, MAYFLY (R56). -/
abbrev TIME_HIGHEST_SUB : Nat := 256 * 0x2040 + 0x00
/-- DEVICE_TIME, TIME64, RO, MAYFLY (R56). -/
abbrev DEVICE_TIME : Nat := 256 * 0x2040 + 0x01
/-- TRAIN_TIME_NOW, U64, RO, MAYFLY (R56). -/
abbrev TRAIN_TIME_NOW : Nat := 256 * 0x2040 + 0x02
/-- TIME_RX_TRAIN, U64, RO, MAYFLY (R56). -/
abbrev TIME_RX_TRAIN : Nat := 256 * 0x2040 + 0x03
/-- TIME_RX_STAMP, TIME64, RO, MAYFLY (R56). -/
abbrev TIME_RX_STAMP : Nat := 256 * 0x2040 + 0x04
/-- TIME_STEP_COUNT, U32, RO, MAYFLY (R56). -/
abbrev TIME_STEP_COUNT : Nat := 256 * 0x2040 + 0x05
/-- WDG_HIGHEST_SUB, U8, RO, MAYFLY (R56). -/
abbrev WDG_HIGHEST_SUB : Nat := 256 * 0x2041 + 0x00
/-- WDG_SUP_GAP_MAX, U32, RO, MAYFLY (R56). -/
abbrev WDG_SUP_GAP_MAX : Nat := 256 * 0x2041 + 0x01
/-- WDG_STOKER_GAP_MAX, U32, RO, MAYFLY (R56). -/
abbrev WDG_STOKER_GAP_MAX : Nat := 256 * 0x2041 + 0x02
/-- WDG_REF_COUNT, U16, RO, MAYFLY (R56). -/
abbrev WDG_REF_COUNT : Nat := 256 * 0x2041 + 0x03
/-- PF_HIGHEST_SUB, U8, RO, MAYFLY (R99). -/
abbrev PF_HIGHEST_SUB (n : Nat) : Nat := 256 * (0x2800 + n) + 0x00
/-- PF_NAME, VSTRING, RWS, EMBER (R99). -/
abbrev PF_NAME (n : Nat) : Nat := 256 * (0x2800 + n) + 0x01
/-- PF_CLASS, U8, RWS, EMBER (R99). -/
abbrev PF_CLASS (n : Nat) : Nat := 256 * (0x2800 + n) + 0x02
/-- PF_TECH, U8, RWS, EMBER (R99). -/
abbrev PF_TECH (n : Nat) : Nat := 256 * (0x2800 + n) + 0x03
/-- PF_MODES, U8, RWS, EMBER (R99). -/
abbrev PF_MODES (n : Nat) : Nat := 256 * (0x2800 + n) + 0x04
/-- PF_I_NOM, U32, RWS, EMBER (R99). -/
abbrev PF_I_NOM (n : Nat) : Nat := 256 * (0x2800 + n) + 0x05
/-- PF_RIPPLE_PM, U16, RWS, EMBER (R99). -/
abbrev PF_RIPPLE_PM (n : Nat) : Nat := 256 * (0x2800 + n) + 0x06
/-- PF_VF_MIN, U32, RWS, EMBER (R99). -/
abbrev PF_VF_MIN (n : Nat) : Nat := 256 * (0x2800 + n) + 0x07
/-- PF_VF_MAX, U32, RWS, EMBER (R99). -/
abbrev PF_VF_MAX (n : Nat) : Nat := 256 * (0x2800 + n) + 0x08
/-- PF_RAIL_REQ, U32, RWS, EMBER (R99). -/
abbrev PF_RAIL_REQ (n : Nat) : Nat := 256 * (0x2800 + n) + 0x09
/-- PF_VISIBLE_PM, U16, RWS, EMBER (R99). -/
abbrev PF_VISIBLE_PM (n : Nat) : Nat := 256 * (0x2800 + n) + 0x0A
/-- PF_INRUSH_MAX, U32, RWS, EMBER (R99). -/
abbrev PF_INRUSH_MAX (n : Nat) : Nat := 256 * (0x2800 + n) + 0x0B
/-- PF_INRUSH_TIME, U32, RWS, EMBER (R99). -/
abbrev PF_INRUSH_TIME (n : Nat) : Nat := 256 * (0x2800 + n) + 0x0C
/-- PF_PROBE_ALLOWED, BOOL, RWS, EMBER (R99). -/
abbrev PF_PROBE_ALLOWED (n : Nat) : Nat := 256 * (0x2800 + n) + 0x0D
/-- PF_WARM_CURRENT, U32, RWS, EMBER (R99). -/
abbrev PF_WARM_CURRENT (n : Nat) : Nat := 256 * (0x2800 + n) + 0x0E
/-- PF_LEVEL_MIN, U16, RWS, EMBER (R99). -/
abbrev PF_LEVEL_MIN (n : Nat) : Nat := 256 * (0x2800 + n) + 0x0F
/-- PF_POWER_NOM, U32, RWS, EMBER (R99). -/
abbrev PF_POWER_NOM (n : Nat) : Nat := 256 * (0x2800 + n) + 0x10
/-- CFG_HIGHEST_SUB, U8, RO, MAYFLY (R105). -/
abbrev CH_CFG_HIGHEST_SUB (n : Nat) : Nat := 256 * (0x3000 + 16 * n) + 0x00
/-- CH_MODE, U8, RWS, EMBER (R105). -/
abbrev CH_MODE (n : Nat) : Nat := 256 * (0x3000 + 16 * n) + 0x01
/-- CH_PROFILE, U8, RWS, EMBER (R105). -/
abbrev CH_PROFILE (n : Nat) : Nat := 256 * (0x3000 + 16 * n) + 0x02
/-- CH_RAIL, U8, RWS, EMBER (R105). -/
abbrev CH_RAIL (n : Nat) : Nat := 256 * (0x3000 + 16 * n) + 0x03
/-- CH_SHUNT, U32, RWS, EMBER (R105). -/
abbrev CH_SHUNT (n : Nat) : Nat := 256 * (0x3000 + 16 * n) + 0x04
/-- CH_SENSE_RANGE, U8, RWS, EMBER (R105). -/
abbrev CH_SENSE_RANGE (n : Nat) : Nat := 256 * (0x3000 + 16 * n) + 0x05
/-- CH_GATE_STRENGTH, U8, RWS, EMBER (R105). -/
abbrev CH_GATE_STRENGTH (n : Nat) : Nat := 256 * (0x3000 + 16 * n) + 0x06
/-- CH_GATE_RAMP, U8, RWS, EMBER (R105). -/
abbrev CH_GATE_RAMP (n : Nat) : Nat := 256 * (0x3000 + 16 * n) + 0x07
/-- CH_FET_QG, U32, RWS, EMBER (R105). -/
abbrev CH_FET_QG (n : Nat) : Nat := 256 * (0x3000 + 16 * n) + 0x08
/-- CH_L_NOM, U32, RWS, EMBER (R105). -/
abbrev CH_L_NOM (n : Nat) : Nat := 256 * (0x3000 + 16 * n) + 0x09
/-- CH_L_TOL_PM, U16, RWS, EMBER (R105). -/
abbrev CH_L_TOL_PM (n : Nat) : Nat := 256 * (0x3000 + 16 * n) + 0x0A
/-- CH_DIODE_VF, U16, RWS, EMBER (R105). -/
abbrev CH_DIODE_VF (n : Nat) : Nat := 256 * (0x3000 + 16 * n) + 0x0B
/-- CH_DRAIN_RATIO, U32, RWS, EMBER (R105). -/
abbrev CH_DRAIN_RATIO (n : Nat) : Nat := 256 * (0x3000 + 16 * n) + 0x0C
/-- CH_NAME, VSTRING, RWS, EMBER (R105). -/
abbrev CH_NAME (n : Nat) : Nat := 256 * (0x3000 + 16 * n) + 0x0D
/-- DRV_HIGHEST_SUB, U8, RO, MAYFLY (R106). -/
abbrev DRV_HIGHEST_SUB (n : Nat) : Nat := 256 * (0x3001 + 16 * n) + 0x00
/-- DRV_STATE, U8, RO, MAYFLY (R106). -/
abbrev DRV_STATE (n : Nat) : Nat := 256 * (0x3001 + 16 * n) + 0x01
/-- DRV_LEVEL_APPLIED, U16, RO, MAYFLY (R106). -/
abbrev DRV_LEVEL_APPLIED (n : Nat) : Nat := 256 * (0x3001 + 16 * n) + 0x02
/-- DRV_I_TARGET, U32, RO, MAYFLY (R106). -/
abbrev DRV_I_TARGET (n : Nat) : Nat := 256 * (0x3001 + 16 * n) + 0x03
/-- DRV_I_MEAN, U32, RO, MAYFLY (R106). -/
abbrev DRV_I_MEAN (n : Nat) : Nat := 256 * (0x3001 + 16 * n) + 0x04
/-- DRV_I_PEAK, U32, RO, MAYFLY (R106). -/
abbrev DRV_I_PEAK (n : Nat) : Nat := 256 * (0x3001 + 16 * n) + 0x05
/-- DRV_V_DRAIN_LIT, U32, RO, MAYFLY (R106). -/
abbrev DRV_V_DRAIN_LIT (n : Nat) : Nat := 256 * (0x3001 + 16 * n) + 0x06
/-- DRV_V_DRAIN_DARK, U32, RO, MAYFLY (R106). -/
abbrev DRV_V_DRAIN_DARK (n : Nat) : Nat := 256 * (0x3001 + 16 * n) + 0x07
/-- DRV_FSW_HZ, U32, RO, MAYFLY (R106). -/
abbrev DRV_FSW_HZ (n : Nat) : Nat := 256 * (0x3001 + 16 * n) + 0x08
/-- DRV_FSW_MAX_HZ, U32, RO, MAYFLY (R106). -/
abbrev DRV_FSW_MAX_HZ (n : Nat) : Nat := 256 * (0x3001 + 16 * n) + 0x09
/-- DRV_GATE_POWER_UW, U32, RO, MAYFLY (R106). -/
abbrev DRV_GATE_POWER_UW (n : Nat) : Nat := 256 * (0x3001 + 16 * n) + 0x0A
/-- DRV_LATCH_CAUSE, U8, RO, MAYFLY (R106). -/
abbrev DRV_LATCH_CAUSE (n : Nat) : Nat := 256 * (0x3001 + 16 * n) + 0x0B
/-- DRV_RETRY_USED, U8, RO, MAYFLY (R106). -/
abbrev DRV_RETRY_USED (n : Nat) : Nat := 256 * (0x3001 + 16 * n) + 0x0C
/-- DRV_WARM_DUTY, U16, RO, MAYFLY (R106). -/
abbrev DRV_WARM_DUTY (n : Nat) : Nat := 256 * (0x3001 + 16 * n) + 0x0D
/-- DRV_GATE_CYCLES, U64, RO, RECORD (R106). -/
abbrev DRV_GATE_CYCLES (n : Nat) : Nat := 256 * (0x3001 + 16 * n) + 0x0E
/-- DRV_SOFTOFF_COUNT, U32, RO, RECORD (R106). -/
abbrev DRV_SOFTOFF_COUNT (n : Nat) : Nat := 256 * (0x3001 + 16 * n) + 0x0F
/-- GRP_ISO_USE, U8, RWS, EMBER (R107). -/
abbrev GRP_ISO_USE (n : Nat) : Nat := 256 * (0x2900 + n) + 0x20
/-- GRP_ISO_STATE, U8, RO, MAYFLY (R107). -/
abbrev GRP_ISO_STATE (n : Nat) : Nat := 256 * (0x2900 + n) + 0x21
/-- GRP_ISO_CAUSE, U8, RO, MAYFLY (R107). -/
abbrev GRP_ISO_CAUSE (n : Nat) : Nat := 256 * (0x2900 + n) + 0x22
/-- GRP_ISO_VERIFY, U8, RO, MAYFLY (R107). -/
abbrev GRP_ISO_VERIFY (n : Nat) : Nat := 256 * (0x2900 + n) + 0x23
/-- GRP_ISO_OPEN_COUNT, U32, RO, RECORD (R107). -/
abbrev GRP_ISO_OPEN_COUNT (n : Nat) : Nat := 256 * (0x2900 + n) + 0x24
/-- GRP_NTC_USE, U8, RWS, EMBER (R107). -/
abbrev GRP_NTC_USE (n : Nat) : Nat := 256 * (0x2900 + n) + 0x25
/-- GRP_NTC_RES25, U32, RWS, EMBER (R107). -/
abbrev GRP_NTC_RES25 (n : Nat) : Nat := 256 * (0x2900 + n) + 0x26
/-- GRP_NTC_BETA, U16, RWS, EMBER (R107). -/
abbrev GRP_NTC_BETA (n : Nat) : Nat := 256 * (0x2900 + n) + 0x27
/-- GRP_NTC_TEMP, I16, RO, MAYFLY (R107). -/
abbrev GRP_NTC_TEMP (n : Nat) : Nat := 256 * (0x2900 + n) + 0x28
/-- GRP_NTC_STATUS, U8, RO, MAYFLY (R107). -/
abbrev GRP_NTC_STATUS (n : Nat) : Nat := 256 * (0x2900 + n) + 0x29
/-- GRP_KGND_MV, I16, RO, MAYFLY (R107). -/
abbrev GRP_KGND_MV (n : Nat) : Nat := 256 * (0x2900 + n) + 0x2A
/-- GRP_GATE_POWER, U32, RO, MAYFLY (R107). -/
abbrev GRP_GATE_POWER (n : Nat) : Nat := 256 * (0x2900 + n) + 0x2B
/-- GRP_GATE_POWER_DEV, U32, RO, MAYFLY (R107). -/
abbrev GRP_GATE_POWER_DEV (n : Nat) : Nat := 256 * (0x2900 + n) + 0x2C
/-- GRP_HIGHEST_SUB, U8, RO, MAYFLY (R127). -/
abbrev GRP_HIGHEST_SUB (n : Nat) : Nat := 256 * (0x2900 + n) + 0x00
/-- GRP_PWM_HZ, U32, RWS, EMBER (R127). -/
abbrev GRP_PWM_HZ (n : Nat) : Nat := 256 * (0x2900 + n) + 0x01
/-- GRP_PWM_BITS, U8, RWS, EMBER (R127). -/
abbrev GRP_PWM_BITS (n : Nat) : Nat := 256 * (0x2900 + n) + 0x02
/-- GRP_PHASE_MODE, U8, RWS, EMBER (R127). -/
abbrev GRP_PHASE_MODE (n : Nat) : Nat := 256 * (0x2900 + n) + 0x03
/-- GRP_LOCK_SET, U8, RWS, EMBER (R127). -/
abbrev GRP_LOCK_SET (n : Nat) : Nat := 256 * (0x2900 + n) + 0x04
/-- GRP_RING_LOCK, BOOL, RWS, EMBER (R127). -/
abbrev GRP_RING_LOCK (n : Nat) : Nat := 256 * (0x2900 + n) + 0x05
/-- GRP_PERIOD_TICKS, U32, RO, MAYFLY (R127). -/
abbrev GRP_PERIOD_TICKS (n : Nat) : Nat := 256 * (0x2900 + n) + 0x06
/-- GRP_PERIOD_EDGES, U32, RO, MAYFLY (R127). -/
abbrev GRP_PERIOD_EDGES (n : Nat) : Nat := 256 * (0x2900 + n) + 0x07
/-- GRP_BITS_MAX, U8, RO, MAYFLY (R127). -/
abbrev GRP_BITS_MAX (n : Nat) : Nat := 256 * (0x2900 + n) + 0x08
/-- GRP_FRAME_COUNT, U64, RO, MAYFLY (R127). -/
abbrev GRP_FRAME_COUNT (n : Nat) : Nat := 256 * (0x2900 + n) + 0x09
/-- GRP_LAST_BOUNDARY, TIME64, RO, MAYFLY (R127). -/
abbrev GRP_LAST_BOUNDARY (n : Nat) : Nat := 256 * (0x2900 + n) + 0x0A
/-- GRP_SEAM_COUNT, U32, RO, MAYFLY (R127). -/
abbrev GRP_SEAM_COUNT (n : Nat) : Nat := 256 * (0x2900 + n) + 0x0B
/-- GRP_RING_ERR_NS, I16, RO, MAYFLY (R127). -/
abbrev GRP_RING_ERR_NS (n : Nat) : Nat := 256 * (0x2900 + n) + 0x0C
/-- DIM_HIGHEST_SUB, U8, RO, MAYFLY (R128). -/
abbrev DIM_HIGHEST_SUB (n : Nat) : Nat := 256 * (0x3002 + 16 * n) + 0x00
/-- DIM_LEVEL, U16, RW, MAYFLY (R128). -/
abbrev DIM_LEVEL (n : Nat) : Nat := 256 * (0x3002 + 16 * n) + 0x01
/-- DIM_OFFSET, U16, RWS, EMBER (R128). -/
abbrev DIM_OFFSET (n : Nat) : Nat := 256 * (0x3002 + 16 * n) + 0x02
/-- DIM_OFFSET_APPLIED, U16, RO, MAYFLY (R128). -/
abbrev DIM_OFFSET_APPLIED (n : Nat) : Nat := 256 * (0x3002 + 16 * n) + 0x03
/-- DIM_DUTY_APPLIED, U16, RO, MAYFLY (R128). -/
abbrev DIM_DUTY_APPLIED (n : Nat) : Nat := 256 * (0x3002 + 16 * n) + 0x04
/-- DIM_ON_EDGES, U32, RO, MAYFLY (R128). -/
abbrev DIM_ON_EDGES (n : Nat) : Nat := 256 * (0x3002 + 16 * n) + 0x05
/-- DIM_SOURCE, U8, RO, MAYFLY (R128). -/
abbrev DIM_SOURCE (n : Nat) : Nat := 256 * (0x3002 + 16 * n) + 0x06
/-- SUP_BAND_LO_PM, U16, RWS, EMBER (R174). -/
abbrev SUP_BAND_LO_PM (n : Nat) : Nat := 256 * (0x2800 + n) + 0x20
/-- SUP_BAND_HI_PM, U16, RWS, EMBER (R174). -/
abbrev SUP_BAND_HI_PM (n : Nat) : Nat := 256 * (0x2800 + n) + 0x21
/-- SUP_OPEN_LO_PM, U16, RWS, EMBER (R174). -/
abbrev SUP_OPEN_LO_PM (n : Nat) : Nat := 256 * (0x2800 + n) + 0x22
/-- SUP_SHORT_PM, U16, RWS, EMBER (R174). -/
abbrev SUP_SHORT_PM (n : Nat) : Nat := 256 * (0x2800 + n) + 0x23
/-- SUP_RISE_NS, U32, RWS, EMBER (R174). -/
abbrev SUP_RISE_NS (n : Nat) : Nat := 256 * (0x2800 + n) + 0x24
/-- SUP_GLITCH_NS, U16, RWS, EMBER (R174). -/
abbrev SUP_GLITCH_NS (n : Nat) : Nat := 256 * (0x2800 + n) + 0x25
/-- SUP_DRAIN_LIT_MV, U32, RWS, EMBER (R174). -/
abbrev SUP_DRAIN_LIT_MV (n : Nat) : Nat := 256 * (0x2800 + n) + 0x26
/-- SUP_DARK_DEB, U8, RWS, EMBER (R174). -/
abbrev SUP_DARK_DEB (n : Nat) : Nat := 256 * (0x2800 + n) + 0x27
/-- SUP_CLEAR_DEB, U8, RWS, EMBER (R174). -/
abbrev SUP_CLEAR_DEB (n : Nat) : Nat := 256 * (0x2800 + n) + 0x28
/-- SUP_LATCH, U8, RWS, EMBER (R174). -/
abbrev SUP_LATCH (n : Nat) : Nat := 256 * (0x2800 + n) + 0x29
/-- SUP_LIT_DEB_US, U16, RWS, EMBER (R174). -/
abbrev SUP_LIT_DEB_US (n : Nat) : Nat := 256 * (0x2800 + n) + 0x2A
/-- SUP_DARK_DRAIN_PM, U16, RWS, EMBER (R174). -/
abbrev SUP_DARK_DRAIN_PM (n : Nat) : Nat := 256 * (0x2800 + n) + 0x2B
/-- SUP_PROBE_HZ, U8, RWS, EMBER (R174). -/
abbrev SUP_PROBE_HZ (n : Nat) : Nat := 256 * (0x2800 + n) + 0x2C
/-- SUP_PROBE_DEB, U8, RWS, EMBER (R174). -/
abbrev SUP_PROBE_DEB (n : Nat) : Nat := 256 * (0x2800 + n) + 0x2D
/-- SUP_LATENCY_MAX_US, U32, RWS, EMBER (R174). -/
abbrev SUP_LATENCY_MAX_US (n : Nat) : Nat := 256 * (0x2800 + n) + 0x2E
/-- SUP_OPT_MIN_PM, U16, RWS, EMBER (R174). -/
abbrev SUP_OPT_MIN_PM (n : Nat) : Nat := 256 * (0x2800 + n) + 0x2F
/-- SUP_OPT_FRAMES, U16, RWS, EMBER (R174). -/
abbrev SUP_OPT_FRAMES (n : Nat) : Nat := 256 * (0x2800 + n) + 0x30
/-- SUP_OPT_DEB, U8, RWS, EMBER (R174). -/
abbrev SUP_OPT_DEB (n : Nat) : Nat := 256 * (0x2800 + n) + 0x31
/-- SUP_TYPE_DEB, U16, RWS, EMBER (R174). -/
abbrev SUP_TYPE_DEB (n : Nat) : Nat := 256 * (0x2800 + n) + 0x32
/-- SCF_HIGHEST_SUB, U8, RO, MAYFLY (R175). -/
abbrev SCF_HIGHEST_SUB (n : Nat) : Nat := 256 * (0x3003 + 16 * n) + 0x00
/-- SUP_FF_INPUT, U8, RWS, EMBER (R175). -/
abbrev SUP_FF_INPUT (n : Nat) : Nat := 256 * (0x3003 + 16 * n) + 0x01
/-- SUP_OPT_AUTH, BOOL, RWS, EMBER (R175). -/
abbrev SUP_OPT_AUTH (n : Nat) : Nat := 256 * (0x3003 + 16 * n) + 0x02
/-- SUP_OPT_REF_NA, U32, RWS, EMBER (R175). -/
abbrev SUP_OPT_REF_NA (n : Nat) : Nat := 256 * (0x3003 + 16 * n) + 0x03
/-- SST_HIGHEST_SUB, U8, RO, MAYFLY (R176). -/
abbrev SST_HIGHEST_SUB (n : Nat) : Nat := 256 * (0x3004 + 16 * n) + 0x00
/-- SUP_OBSERVED, U8, RO, MAYFLY (R176). -/
abbrev SUP_OBSERVED (n : Nat) : Nat := 256 * (0x3004 + 16 * n) + 0x01
/-- SUP_CONTINUITY, U8, RO, MAYFLY (R176). -/
abbrev SUP_CONTINUITY (n : Nat) : Nat := 256 * (0x3004 + 16 * n) + 0x02
/-- SUP_ACTIVE, U16, RO, MAYFLY (R176). -/
abbrev SUP_ACTIVE (n : Nat) : Nat := 256 * (0x3004 + 16 * n) + 0x03
/-- SUP_LATCHED, U16, RO, MAYFLY (R176). -/
abbrev SUP_LATCHED (n : Nat) : Nat := 256 * (0x3004 + 16 * n) + 0x04
/-- SUP_LAST_REASON, U8, RO, MAYFLY (R176). -/
abbrev SUP_LAST_REASON (n : Nat) : Nat := 256 * (0x3004 + 16 * n) + 0x05
/-- SUP_DEV_COUNT, U8, RO, MAYFLY (R176). -/
abbrev SUP_DEV_COUNT (n : Nat) : Nat := 256 * (0x3004 + 16 * n) + 0x06
/-- SUP_GOOD_COUNT, U16, RO, MAYFLY (R176). -/
abbrev SUP_GOOD_COUNT (n : Nat) : Nat := 256 * (0x3004 + 16 * n) + 0x07
/-- SUP_LAST_EVAL, TIME64, RO, MAYFLY (R176). -/
abbrev SUP_LAST_EVAL (n : Nat) : Nat := 256 * (0x3004 + 16 * n) + 0x08
/-- SUP_RISE_EDGES, U32, RO, MAYFLY (R176). -/
abbrev SUP_RISE_EDGES (n : Nat) : Nat := 256 * (0x3004 + 16 * n) + 0x09
/-- SUP_LAMP_MV, U32, RO, MAYFLY (R176). -/
abbrev SUP_LAMP_MV (n : Nat) : Nat := 256 * (0x3004 + 16 * n) + 0x0A
/-- SUP_OPT_NA, U32, RO, MAYFLY (R176). -/
abbrev SUP_OPT_NA (n : Nat) : Nat := 256 * (0x3004 + 16 * n) + 0x0B
/-- SUP_OPT_STATE, U8, RO, MAYFLY (R176). -/
abbrev SUP_OPT_STATE (n : Nat) : Nat := 256 * (0x3004 + 16 * n) + 0x0C
/-- SUP_ONSET, TIME64, RO, MAYFLY (R176). -/
abbrev SUP_ONSET (n : Nat) : Nat := 256 * (0x3004 + 16 * n) + 0x0D
/-- SUP_VERDICT_TIME, TIME64, RO, MAYFLY (R176). -/
abbrev SUP_VERDICT_TIME (n : Nat) : Nat := 256 * (0x3004 + 16 * n) + 0x0E
/-- SUP_CLEAR, U16, WO, MAYFLY (R176). -/
abbrev SUP_CLEAR (n : Nat) : Nat := 256 * (0x3004 + 16 * n) + 0x0F
/-- SUP_PROBE_FAILS, U32, RO, RECORD (R176). -/
abbrev SUP_PROBE_FAILS (n : Nat) : Nat := 256 * (0x3004 + 16 * n) + 0x10
/-- SUP_DARK_FAULTS, U32, RO, RECORD (R176). -/
abbrev SUP_DARK_FAULTS (n : Nat) : Nat := 256 * (0x3004 + 16 * n) + 0x11
/-- SUP_LIT_FAULTS, U32, RO, RECORD (R176). -/
abbrev SUP_LIT_FAULTS (n : Nat) : Nat := 256 * (0x3004 + 16 * n) + 0x12
/-- SG_HIGHEST_SUB, U8, RO, MAYFLY (R210). -/
abbrev SG_HIGHEST_SUB (n : Nat) : Nat := 256 * (0x3800 + n) + 0x00
/-- SG_CHANNELS, OSTRING, RWS, EMBER (R210). -/
abbrev SG_CHANNELS (n : Nat) : Nat := 256 * (0x3800 + n) + 0x01
/-- SG_NAME, VSTRING, RWS, EMBER (R210). -/
abbrev SG_NAME (n : Nat) : Nat := 256 * (0x3800 + n) + 0x02
/-- SG_RING, BOOL, RWS, EMBER (R210). -/
abbrev SG_RING (n : Nat) : Nat := 256 * (0x3800 + n) + 0x03
/-- SG_SAFE_ASPECT, U8, RWS, EMBER (R210). -/
abbrev SG_SAFE_ASPECT (n : Nat) : Nat := 256 * (0x3800 + n) + 0x04
/-- SG_SAFE_DELAY_MS, U16, RWS, EMBER (R210). -/
abbrev SG_SAFE_DELAY_MS (n : Nat) : Nat := 256 * (0x3800 + n) + 0x05
/-- SG_RING_LEAD_US, U16, RWS, EMBER (R210). -/
abbrev SG_RING_LEAD_US (n : Nat) : Nat := 256 * (0x3800 + n) + 0x06
/-- SG_EXCLUDE, OSTRING, RWS, EMBER (R210). -/
abbrev SG_EXCLUDE (n : Nat) : Nat := 256 * (0x3800 + n) + 0x07
/-- SG_REQUEST, U8, RW, MAYFLY (R210). -/
abbrev SG_REQUEST (n : Nat) : Nat := 256 * (0x3800 + n) + 0x08
/-- SG_ASPECT_APPLIED, U8, RO, MAYFLY (R210). -/
abbrev SG_ASPECT_APPLIED (n : Nat) : Nat := 256 * (0x3800 + n) + 0x09
/-- SG_STATE, U8, RO, MAYFLY (R210). -/
abbrev SG_STATE (n : Nat) : Nat := 256 * (0x3800 + n) + 0x0A
/-- SG_SAFE_CAUSE, U8, RO, MAYFLY (R210). -/
abbrev SG_SAFE_CAUSE (n : Nat) : Nat := 256 * (0x3800 + n) + 0x0B
/-- SG_PROVEN, U8, RO, MAYFLY (R210). -/
abbrev SG_PROVEN (n : Nat) : Nat := 256 * (0x3800 + n) + 0x0C
/-- SG_LAST_CHANGE, TIME64, RO, MAYFLY (R210). -/
abbrev SG_LAST_CHANGE (n : Nat) : Nat := 256 * (0x3800 + n) + 0x0D
/-- SG_PENDING, U8, RO, MAYFLY (R210). -/
abbrev SG_PENDING (n : Nat) : Nat := 256 * (0x3800 + n) + 0x0E
/-- SG_COMMIT_INSTANT, TIME64, RO, MAYFLY (R210). -/
abbrev SG_COMMIT_INSTANT (n : Nat) : Nat := 256 * (0x3800 + n) + 0x0F
/-- SG_COMMIT_SEQ, U32, RO, MAYFLY (R210). -/
abbrev SG_COMMIT_SEQ (n : Nat) : Nat := 256 * (0x3800 + n) + 0x10
/-- SG_COMMIT_LATE, U32, RO, MAYFLY (R210). -/
abbrev SG_COMMIT_LATE (n : Nat) : Nat := 256 * (0x3800 + n) + 0x11
/-- SG_SUPERSEDED, U32, RO, MAYFLY (R210). -/
abbrev SG_SUPERSEDED (n : Nat) : Nat := 256 * (0x3800 + n) + 0x12
/-- SG_CHANGE_COUNT, U32, RO, RECORD (R210). -/
abbrev SG_CHANGE_COUNT (n : Nat) : Nat := 256 * (0x3800 + n) + 0x13
/-- SG_SAFE_COUNT, U32, RO, RECORD (R210). -/
abbrev SG_SAFE_COUNT (n : Nat) : Nat := 256 * (0x3800 + n) + 0x14
/-- AS_HIGHEST_SUB, U8, RO, MAYFLY (R211). -/
abbrev AS_HIGHEST_SUB (n : Nat) : Nat := 256 * (0x3900 + n) + 0x00
/-- AS_SG, U8, RWS, EMBER (R211). -/
abbrev AS_SG (n : Nat) : Nat := 256 * (0x3900 + n) + 0x01
/-- AS_NAME, VSTRING, RWS, EMBER (R211). -/
abbrev AS_NAME (n : Nat) : Nat := 256 * (0x3900 + n) + 0x02
/-- AS_TARGET_00–AS_TARGET_31, U32, RWS, EMBER (R211). -/
abbrev AS_TARGET (n : Nat) (i : Nat) : Nat := 256 * (0x3900 + n) + 0x10 + i
/-- LF_ALPHA_PPB_H, U32, RWS, EMBER (R237). -/
abbrev LF_ALPHA_PPB_H (n : Nat) : Nat := 256 * (0x2800 + n) + 0x40
/-- LF_T_REF, I16, RWS, EMBER (R237). -/
abbrev LF_T_REF (n : Nat) : Nat := 256 * (0x2800 + n) + 0x41
/-- LF_EA_MEV, U16, RWS, EMBER (R237). -/
abbrev LF_EA_MEV (n : Nat) : Nat := 256 * (0x2800 + n) + 0x42
/-- LF_I_EXP, U16, RWS, EMBER (R237). -/
abbrev LF_I_EXP (n : Nat) : Nat := 256 * (0x2800 + n) + 0x43
/-- LF_HEADROOM_PM, U16, RWS, EMBER (R237). -/
abbrev LF_HEADROOM_PM (n : Nat) : Nat := 256 * (0x2800 + n) + 0x44
/-- LF_RATED_H, U32, RWS, EMBER (R237). -/
abbrev LF_RATED_H (n : Nat) : Nat := 256 * (0x2800 + n) + 0x45
/-- LF_NTC_OFFSET, I16, RWS, EMBER (R237). -/
abbrev LF_NTC_OFFSET (n : Nat) : Nat := 256 * (0x2800 + n) + 0x46
/-- LF_T_ASSUMED, I16, RWS, EMBER (R237). -/
abbrev LF_T_ASSUMED (n : Nat) : Nat := 256 * (0x2800 + n) + 0x47
/-- LF_KNEE, I16, RWS, EMBER (R237). -/
abbrev LF_KNEE (n : Nat) : Nat := 256 * (0x2800 + n) + 0x48
/-- LF_DERATE_SLOPE, U16, RWS, EMBER (R237). -/
abbrev LF_DERATE_SLOPE (n : Nat) : Nat := 256 * (0x2800 + n) + 0x49
/-- LF_DERATE_FLOOR_PM, U16, RWS, EMBER (R237). -/
abbrev LF_DERATE_FLOOR_PM (n : Nat) : Nat := 256 * (0x2800 + n) + 0x4A
/-- LF_CAL_ENABLE, BOOL, RWS, EMBER (R237). -/
abbrev LF_CAL_ENABLE (n : Nat) : Nat := 256 * (0x2800 + n) + 0x4B
/-- LF_COLOUR, BOOL, RWS, EMBER (R237). -/
abbrev LF_COLOUR (n : Nat) : Nat := 256 * (0x2800 + n) + 0x50
/-- LF_COL_X, U16, RWS, EMBER (R237). -/
abbrev LF_COL_X (n : Nat) : Nat := 256 * (0x2800 + n) + 0x51
/-- LF_COL_Y, U16, RWS, EMBER (R237). -/
abbrev LF_COL_Y (n : Nat) : Nat := 256 * (0x2800 + n) + 0x52
/-- LF_COL_TOL, U16, RWS, EMBER (R237). -/
abbrev LF_COL_TOL (n : Nat) : Nat := 256 * (0x2800 + n) + 0x53
/-- LF_COL_MATRIX, OSTRING, RWS, EMBER (R237). -/
abbrev LF_COL_MATRIX (n : Nat) : Nat := 256 * (0x2800 + n) + 0x54
/-- LF_COL_Q_MIN_PM, U16, RWS, EMBER (R237). -/
abbrev LF_COL_Q_MIN_PM (n : Nat) : Nat := 256 * (0x2800 + n) + 0x55
/-- LF_COL_Q_MAX_PM, U16, RWS, EMBER (R237). -/
abbrev LF_COL_Q_MAX_PM (n : Nat) : Nat := 256 * (0x2800 + n) + 0x56
/-- LIFE_HIGHEST_SUB, U8, RO, MAYFLY (R238). -/
abbrev LIFE_HIGHEST_SUB (n : Nat) : Nat := 256 * (0x3005 + 16 * n) + 0x00
/-- LIFE_EQ_MS, U64, RO, RECORD (R238). -/
abbrev LIFE_EQ_MS (n : Nat) : Nat := 256 * (0x3005 + 16 * n) + 0x01
/-- LIFE_LIT_MS, U64, RO, RECORD (R238). -/
abbrev LIFE_LIT_MS (n : Nat) : Nat := 256 * (0x3005 + 16 * n) + 0x02
/-- LIFE_LAMP_EPOCH, U32, RO, RECORD (R238). -/
abbrev LIFE_LAMP_EPOCH (n : Nat) : Nat := 256 * (0x3005 + 16 * n) + 0x03
/-- LIFE_INSTALL_DAY, U32, RO, RECORD (R238). -/
abbrev LIFE_INSTALL_DAY (n : Nat) : Nat := 256 * (0x3005 + 16 * n) + 0x04
/-- LIFE_CAL_PM, U16, RO, RECORD (R238). -/
abbrev LIFE_CAL_PM (n : Nat) : Nat := 256 * (0x3005 + 16 * n) + 0x05
/-- LIFE_CAL_COUNT, U32, RO, RECORD (R238). -/
abbrev LIFE_CAL_COUNT (n : Nat) : Nat := 256 * (0x3005 + 16 * n) + 0x06
/-- LIFE_FLUX_PM, U16, RO, MAYFLY (R238). -/
abbrev LIFE_FLUX_PM (n : Nat) : Nat := 256 * (0x3005 + 16 * n) + 0x07
/-- LIFE_COMP_PM, U16, RO, MAYFLY (R238). -/
abbrev LIFE_COMP_PM (n : Nat) : Nat := 256 * (0x3005 + 16 * n) + 0x08
/-- LIFE_HEADROOM_LEFT_PM, U16, RO, MAYFLY (R238). -/
abbrev LIFE_HEADROOM_LEFT_PM (n : Nat) : Nat := 256 * (0x3005 + 16 * n) + 0x09
/-- LIFE_HOURS_LEFT, U32, RO, MAYFLY (R238). -/
abbrev LIFE_HOURS_LEFT (n : Nat) : Nat := 256 * (0x3005 + 16 * n) + 0x0A
/-- LIFE_DERATE_PM, U16, RO, MAYFLY (R238). -/
abbrev LIFE_DERATE_PM (n : Nat) : Nat := 256 * (0x3005 + 16 * n) + 0x0B
/-- LIFE_FACTOR_PM, U16, RO, MAYFLY (R238). -/
abbrev LIFE_FACTOR_PM (n : Nat) : Nat := 256 * (0x3005 + 16 * n) + 0x0C
/-- LIFE_T_LAMP, I16, RO, MAYFLY (R238). -/
abbrev LIFE_T_LAMP (n : Nat) : Nat := 256 * (0x3005 + 16 * n) + 0x0D
/-- LIFE_T_MAX, I16, RO, RECORD (R238). -/
abbrev LIFE_T_MAX (n : Nat) : Nat := 256 * (0x3005 + 16 * n) + 0x0E
/-- LIFE_ABOVE_KNEE_MS, U64, RO, RECORD (R238). -/
abbrev LIFE_ABOVE_KNEE_MS (n : Nat) : Nat := 256 * (0x3005 + 16 * n) + 0x0F
/-- LIFE_COL_Q_PM, U16, RO, RECORD (R238). -/
abbrev LIFE_COL_Q_PM (n : Nat) : Nat := 256 * (0x3005 + 16 * n) + 0x10
/-- LIFE_COL_X, U16, RO, MAYFLY (R238). -/
abbrev LIFE_COL_X (n : Nat) : Nat := 256 * (0x3005 + 16 * n) + 0x11
/-- LIFE_COL_Y, U16, RO, MAYFLY (R238). -/
abbrev LIFE_COL_Y (n : Nat) : Nat := 256 * (0x3005 + 16 * n) + 0x12
/-- LIFE_COL_STATE, U8, RO, MAYFLY (R238). -/
abbrev LIFE_COL_STATE (n : Nat) : Nat := 256 * (0x3005 + 16 * n) + 0x13
/-- LIFE_RESET, U8, WO, MAYFLY (R238). -/
abbrev LIFE_RESET (n : Nat) : Nat := 256 * (0x3005 + 16 * n) + 0x14
/-- LIFE_RATE_PM, U16, RO, RECORD (R238). -/
abbrev LIFE_RATE_PM (n : Nat) : Nat := 256 * (0x3005 + 16 * n) + 0x15
/-- PE_HIGHEST_SUB, U8, RO, MAYFLY (R269). -/
abbrev PE_HIGHEST_SUB (n : Nat) : Nat := 256 * (0x2700 + n) + 0x00
/-- PE_REF_GROUP, U8, RWS, EMBER (R269). -/
abbrev PE_REF_GROUP (n : Nat) : Nat := 256 * (0x2700 + n) + 0x01
/-- PE_SAMPLE_FRAMES, U16, RWS, EMBER (R269). -/
abbrev PE_SAMPLE_FRAMES (n : Nat) : Nat := 256 * (0x2700 + n) + 0x02
/-- PE_START_SEG, U8, RWS, EMBER (R269). -/
abbrev PE_START_SEG (n : Nat) : Nat := 256 * (0x2700 + n) + 0x03
/-- PE_OWNER, U16, RWS, EMBER (R269). -/
abbrev PE_OWNER (n : Nat) : Nat := 256 * (0x2700 + n) + 0x04
/-- PE_CONTROL, U8, WO, MAYFLY (R269). -/
abbrev PE_CONTROL (n : Nat) : Nat := 256 * (0x2700 + n) + 0x05
/-- PE_JUMP_SEG, U8, WO, MAYFLY (R269). -/
abbrev PE_JUMP_SEG (n : Nat) : Nat := 256 * (0x2700 + n) + 0x06
/-- PE_STATE, U8, RO, MAYFLY (R269). -/
abbrev PE_STATE (n : Nat) : Nat := 256 * (0x2700 + n) + 0x07
/-- PE_SEGMENT, U8, RO, MAYFLY (R269). -/
abbrev PE_SEGMENT (n : Nat) : Nat := 256 * (0x2700 + n) + 0x08
/-- PE_SAMPLE_INDEX, U16, RO, MAYFLY (R269). -/
abbrev PE_SAMPLE_INDEX (n : Nat) : Nat := 256 * (0x2700 + n) + 0x09
/-- PE_START_TIME, TIME64, RO, MAYFLY (R269). -/
abbrev PE_START_TIME (n : Nat) : Nat := 256 * (0x2700 + n) + 0x0A
/-- PE_JUMP_PENDING, U8, RO, MAYFLY (R269). -/
abbrev PE_JUMP_PENDING (n : Nat) : Nat := 256 * (0x2700 + n) + 0x0B
/-- PE_JUMPS_DISCARDED, U32, RO, MAYFLY (R269). -/
abbrev PE_JUMPS_DISCARDED (n : Nat) : Nat := 256 * (0x2700 + n) + 0x0C
/-- PE_TAP_LEVELS, OSTRING, RO, MAYFLY (R269). -/
abbrev PE_TAP_LEVELS (n : Nat) : Nat := 256 * (0x2700 + n) + 0x0D
/-- PE_SEG_00–PE_SEG_15, U64, RWS, EMBER (R269). -/
abbrev PE_SEG (n : Nat) (i : Nat) : Nat := 256 * (0x2700 + n) + 0x10 + i
/-- BIND_HIGHEST_SUB, U8, RO, MAYFLY (R269). -/
abbrev BIND_HIGHEST_SUB : Nat := 256 * 0x2710 + 0x00
/-- PE_CH_BIND_00–95, U8, RW, MAYFLY (R269). -/
abbrev PE_CH_BIND (i : Nat) : Nat := 256 * 0x2710 + 0x01 + i
/-- TAP_HIGHEST_SUB, U8, RO, MAYFLY (R269). -/
abbrev TAP_HIGHEST_SUB : Nat := 256 * 0x2711 + 0x00
/-- PE_CH_TAP_00–95, U8, RWS, EMBER (R269). -/
abbrev PE_CH_TAP (i : Nat) : Nat := 256 * 0x2711 + 0x01 + i
/-- GW_HIGHEST_SUB, U8, RO, MAYFLY (R269). -/
abbrev GW_HIGHEST_SUB (n : Nat) : Nat := 256 * (0x2720 + n) + 0x00
/-- GW_MODE, U8, RWS, EMBER (R269). -/
abbrev GW_MODE (n : Nat) : Nat := 256 * (0x2720 + n) + 0x01
/-- GW_NODES, U16, RWS, EMBER (R269). -/
abbrev GW_NODES (n : Nat) : Nat := 256 * (0x2720 + n) + 0x02
/-- GW_NODE_BITS, U8, RWS, EMBER (R269). -/
abbrev GW_NODE_BITS (n : Nat) : Nat := 256 * (0x2720 + n) + 0x03
/-- GW_FRAME_HZ, U16, RWS, EMBER (R269). -/
abbrev GW_FRAME_HZ (n : Nat) : Nat := 256 * (0x2720 + n) + 0x04
/-- GW_NODE_DELAY_NS, U16, RWS, EMBER (R269). -/
abbrev GW_NODE_DELAY_NS (n : Nat) : Nat := 256 * (0x2720 + n) + 0x05
/-- GW_OWNER, U16, RWS, EMBER (R269). -/
abbrev GW_OWNER (n : Nat) : Nat := 256 * (0x2720 + n) + 0x06
/-- GW_SCALE_ENGINE, U8, RWS, EMBER (R269). -/
abbrev GW_SCALE_ENGINE (n : Nat) : Nat := 256 * (0x2720 + n) + 0x07
/-- GW_DEB, U8, RWS, EMBER (R269). -/
abbrev GW_DEB (n : Nat) : Nat := 256 * (0x2720 + n) + 0x08
/-- GW_DATA, DOMAIN, RW, MAYFLY (R269). -/
abbrev GW_DATA (n : Nat) : Nat := 256 * (0x2720 + n) + 0x09
/-- GW_SWAP, U8, WO, MAYFLY (R269). -/
abbrev GW_SWAP (n : Nat) : Nat := 256 * (0x2720 + n) + 0x0A
/-- GW_SUP_STATE, U8, RO, MAYFLY (R269). -/
abbrev GW_SUP_STATE (n : Nat) : Nat := 256 * (0x2720 + n) + 0x0B
/-- GW_FRAME_TIME_US, U32, RO, MAYFLY (R269). -/
abbrev GW_FRAME_TIME_US (n : Nat) : Nat := 256 * (0x2720 + n) + 0x0C
/-- GW_RETURN_DELAY_NS, U32, RO, MAYFLY (R269). -/
abbrev GW_RETURN_DELAY_NS (n : Nat) : Nat := 256 * (0x2720 + n) + 0x0D
/-- GW_FRAME_COUNT, U64, RO, MAYFLY (R269). -/
abbrev GW_FRAME_COUNT (n : Nat) : Nat := 256 * (0x2720 + n) + 0x0E
/-- GW_BAD_FRAMES, U32, RO, RECORD (R269). -/
abbrev GW_BAD_FRAMES (n : Nat) : Nat := 256 * (0x2720 + n) + 0x0F
/-- GW_ACTIVE, U8, RO, MAYFLY (R269). -/
abbrev GW_ACTIVE (n : Nat) : Nat := 256 * (0x2720 + n) + 0x10
/-- GW_SWAP_PENDING, BOOL, RO, MAYFLY (R269). -/
abbrev GW_SWAP_PENDING (n : Nat) : Nat := 256 * (0x2720 + n) + 0x11
/-- MX_HIGHEST_SUB, U8, RO, MAYFLY (R269). -/
abbrev MX_HIGHEST_SUB : Nat := 256 * 0x2730 + 0x00
/-- MX_ROWS, U8, RWS, EMBER (R269). -/
abbrev MX_ROWS : Nat := 256 * 0x2730 + 0x01
/-- MX_COLS, U8, RWS, EMBER (R269). -/
abbrev MX_COLS : Nat := 256 * 0x2730 + 0x02
/-- MX_FRAME_HZ, U16, RWS, EMBER (R269). -/
abbrev MX_FRAME_HZ : Nat := 256 * 0x2730 + 0x03
/-- MX_SYNC, U8, RWS, EMBER (R269). -/
abbrev MX_SYNC : Nat := 256 * 0x2730 + 0x04
/-- MX_SYNC_OFFSET_US, U16, RWS, EMBER (R269). -/
abbrev MX_SYNC_OFFSET_US : Nat := 256 * 0x2730 + 0x05
/-- MX_BLANK_US, U8, RWS, EMBER (R269). -/
abbrev MX_BLANK_US : Nat := 256 * 0x2730 + 0x06
/-- MX_I_NOM, U32, RWS, EMBER (R269). -/
abbrev MX_I_NOM : Nat := 256 * 0x2730 + 0x07
/-- MX_OPEN_PM, U16, RWS, EMBER (R269). -/
abbrev MX_OPEN_PM : Nat := 256 * 0x2730 + 0x08
/-- MX_SHORT_PM, U16, RWS, EMBER (R269). -/
abbrev MX_SHORT_PM : Nat := 256 * 0x2730 + 0x09
/-- MX_DEB, U8, RWS, EMBER (R269). -/
abbrev MX_DEB : Nat := 256 * 0x2730 + 0x0A
/-- MX_PROBE_FRAMES, U8, RWS, EMBER (R269). -/
abbrev MX_PROBE_FRAMES : Nat := 256 * 0x2730 + 0x0B
/-- MX_ROW_OWNER, OSTRING, RWS, EMBER (R269). -/
abbrev MX_ROW_OWNER : Nat := 256 * 0x2730 + 0x0C
/-- MX_SWAP, U8, WO, MAYFLY (R269). -/
abbrev MX_SWAP : Nat := 256 * 0x2730 + 0x0E
/-- MX_SYNC_STATE, U8, RO, MAYFLY (R269). -/
abbrev MX_SYNC_STATE : Nat := 256 * 0x2730 + 0x0F
/-- MX_PERIOD_TICKS, U32, RO, MAYFLY (R269). -/
abbrev MX_PERIOD_TICKS : Nat := 256 * 0x2730 + 0x10
/-- MX_OPEN_MAP, OSTRING, RO, MAYFLY (R269). -/
abbrev MX_OPEN_MAP : Nat := 256 * 0x2730 + 0x11
/-- MX_SHORT_MAP, OSTRING, RO, MAYFLY (R269). -/
abbrev MX_SHORT_MAP : Nat := 256 * 0x2730 + 0x12
/-- MX_FRAME_COUNT, U64, RO, MAYFLY (R269). -/
abbrev MX_FRAME_COUNT : Nat := 256 * 0x2730 + 0x13
/-- MX_FAULTS, U32, RO, RECORD (R269). -/
abbrev MX_FAULTS : Nat := 256 * 0x2730 + 0x14
/-- MXR_HIGHEST_SUB, U8, RO, MAYFLY (R269). -/
abbrev MXR_HIGHEST_SUB : Nat := 256 * 0x2731 + 0x00
/-- MX_ROW_00–MX_ROW_15, OSTRING, RW, MAYFLY (R269). -/
abbrev MX_ROW (i : Nat) : Nat := 256 * 0x2731 + 0x01 + i
/-- LV_HIGHEST_SUB, U8, RO, MAYFLY (R315). -/
abbrev LV_HIGHEST_SUB : Nat := 256 * 0x2200 + 0x00
/-- NODE_BASE, U8, RWS, EMBER (R315). -/
abbrev NODE_BASE : Nat := 256 * 0x2200 + 0x01
/-- NODE_ID, U8, RO, MAYFLY (R315). -/
abbrev NODE_ID : Nat := 256 * 0x2200 + 0x02
/-- CAN_ARB_KBPS, U16, RWS, EMBER (R315). -/
abbrev CAN_ARB_KBPS : Nat := 256 * 0x2200 + 0x03
/-- CAN_DATA_KBPS, U16, RWS, EMBER (R315). -/
abbrev CAN_DATA_KBPS : Nat := 256 * 0x2200 + 0x04
/-- CAN_ARB_SP_PM, U16, RWS, EMBER (R315). -/
abbrev CAN_ARB_SP_PM : Nat := 256 * 0x2200 + 0x05
/-- CAN_DATA_SP_PM, U16, RWS, EMBER (R315). -/
abbrev CAN_DATA_SP_PM : Nat := 256 * 0x2200 + 0x06
/-- VOTE_WINDOW_MS, U8, RWS, EMBER (R315). -/
abbrev VOTE_WINDOW_MS : Nat := 256 * 0x2200 + 0x07
/-- LANE_TIMEOUT_MS, U16, RWS, EMBER (R315). -/
abbrev LANE_TIMEOUT_MS : Nat := 256 * 0x2200 + 0x08
/-- LANE_SILENT_MS, U16, RWS, EMBER (R315). -/
abbrev LANE_SILENT_MS : Nat := 256 * 0x2200 + 0x09
/-- LANE_READMIT_MS, U16, RWS, EMBER (R315). -/
abbrev LANE_READMIT_MS : Nat := 256 * 0x2200 + 0x0A
/-- LANE_DISSENT_MAX, U8, RWS, EMBER (R315). -/
abbrev LANE_DISSENT_MAX : Nat := 256 * 0x2200 + 0x0B
/-- TIME_TOL_US, U16, RWS, EMBER (R315). -/
abbrev TIME_TOL_US : Nat := 256 * 0x2200 + 0x0C
/-- YIELD_RAMP_MS, U16, RWS, EMBER (R315). -/
abbrev YIELD_RAMP_MS : Nat := 256 * 0x2200 + 0x0D
/-- LANES_ALIVE, U8, RO, MAYFLY (R315). -/
abbrev LANES_ALIVE : Nat := 256 * 0x2200 + 0x0E
/-- VOTE_MODE, U8, RO, MAYFLY (R315). -/
abbrev VOTE_MODE : Nat := 256 * 0x2200 + 0x0F
/-- VOTES_EXECUTED, U64, RO, MAYFLY (R315). -/
abbrev VOTES_EXECUTED : Nat := 256 * 0x2200 + 0x10
/-- VOTES_DISAGREE, U32, RO, RECORD (R315). -/
abbrev VOTES_DISAGREE : Nat := 256 * 0x2200 + 0x11
/-- SEQ_STALE, U32, RO, MAYFLY (R315). -/
abbrev SEQ_STALE : Nat := 256 * 0x2200 + 0x12
/-- EXEC_LAT_MAX_US, U32, RO, MAYFLY (R315). -/
abbrev EXEC_LAT_MAX_US : Nat := 256 * 0x2200 + 0x13
/-- HELD_TOTAL, U16, RO, MAYFLY (R315). -/
abbrev HELD_TOTAL : Nat := 256 * 0x2200 + 0x14
/-- VOTED_WRITE, DOMAIN, WO, MAYFLY (R315). -/
abbrev VOTED_WRITE : Nat := 256 * 0x2208 + 0x00
/-- FENCE_ISSUE, U32, WO, MAYFLY (R315). -/
abbrev FENCE_ISSUE : Nat := 256 * 0x2209 + 0x00
/-- LN_HIGHEST_SUB, U8, RO, MAYFLY (R315). -/
abbrev LN_HIGHEST_SUB (n : Nat) : Nat := 256 * (0x2201 + n) + 0x00
/-- LN_TCMS_NODE, U8, RWS, EMBER (R315). -/
abbrev LN_TCMS_NODE (n : Nat) : Nat := 256 * (0x2201 + n) + 0x01
/-- LN_STATE, U8, RO, MAYFLY (R315). -/
abbrev LN_STATE (n : Nat) : Nat := 256 * (0x2201 + n) + 0x02
/-- LN_EXCL_CAUSE, U8, RO, MAYFLY (R315). -/
abbrev LN_EXCL_CAUSE (n : Nat) : Nat := 256 * (0x2201 + n) + 0x03
/-- LN_LAST_HB, TIME64, RO, MAYFLY (R315). -/
abbrev LN_LAST_HB (n : Nat) : Nat := 256 * (0x2201 + n) + 0x04
/-- LN_FRAMES_RX, U32, RO, MAYFLY (R315). -/
abbrev LN_FRAMES_RX (n : Nat) : Nat := 256 * (0x2201 + n) + 0x05
/-- LN_AGREE, U32, RO, MAYFLY (R315). -/
abbrev LN_AGREE (n : Nat) : Nat := 256 * (0x2201 + n) + 0x06
/-- LN_DISSENT, U32, RO, MAYFLY (R315). -/
abbrev LN_DISSENT (n : Nat) : Nat := 256 * (0x2201 + n) + 0x07
/-- LN_LATE, U32, RO, MAYFLY (R315). -/
abbrev LN_LATE (n : Nat) : Nat := 256 * (0x2201 + n) + 0x08
/-- LN_UNMATCHED, U32, RO, MAYFLY (R315). -/
abbrev LN_UNMATCHED (n : Nat) : Nat := 256 * (0x2201 + n) + 0x09
/-- LN_EXCL_COUNT, U32, RO, RECORD (R315). -/
abbrev LN_EXCL_COUNT (n : Nat) : Nat := 256 * (0x2201 + n) + 0x0A
/-- LN_TEC, U8, RO, MAYFLY (R315). -/
abbrev LN_TEC (n : Nat) : Nat := 256 * (0x2201 + n) + 0x0B
/-- LN_EMCY_MERGED, U32, RO, MAYFLY (R315). -/
abbrev LN_EMCY_MERGED (n : Nat) : Nat := 256 * (0x2201 + n) + 0x0C
/-- FG_HIGHEST_SUB, U8, RO, MAYFLY (R315). -/
abbrev FG_HIGHEST_SUB (n : Nat) : Nat := 256 * (0x2220 + n) + 0x00
/-- FG_TIMEOUT_MS, U16, RWS, EMBER (R315). -/
abbrev FG_TIMEOUT_MS (n : Nat) : Nat := 256 * (0x2220 + n) + 0x01
/-- FG_MEMBERS, OSTRING, RO, MAYFLY (R315). -/
abbrev FG_MEMBERS (n : Nat) : Nat := 256 * (0x2220 + n) + 0x02
/-- FG_NEXT, U32, RO, MAYFLY (R315). -/
abbrev FG_NEXT (n : Nat) : Nat := 256 * (0x2220 + n) + 0x03
/-- FG_ISSUED, OSTRING, RO, MAYFLY (R315). -/
abbrev FG_ISSUED (n : Nat) : Nat := 256 * (0x2220 + n) + 0x04
/-- FG_HELD, U16, RO, MAYFLY (R315). -/
abbrev FG_HELD (n : Nat) : Nat := 256 * (0x2220 + n) + 0x05
/-- FG_OPENED, TIME64, RO, MAYFLY (R315). -/
abbrev FG_OPENED (n : Nat) : Nat := 256 * (0x2220 + n) + 0x06
/-- FG_COMPLETED, U32, RO, MAYFLY (R315). -/
abbrev FG_COMPLETED (n : Nat) : Nat := 256 * (0x2220 + n) + 0x07
/-- FG_TIMEOUTS, U32, RO, RECORD (R315). -/
abbrev FG_TIMEOUTS (n : Nat) : Nat := 256 * (0x2220 + n) + 0x08
/-- TK_HIGHEST_SUB, U8, RO, MAYFLY (R315). -/
abbrev TK_HIGHEST_SUB (n : Nat) : Nat := 256 * (0x2240 + n) + 0x00
/-- TK_CLIENT, U16, RWS, EMBER (R315). -/
abbrev TK_CLIENT (n : Nat) : Nat := 256 * (0x2240 + n) + 0x01
/-- TK_IN_MASK, U8, RWS, EMBER (R315). -/
abbrev TK_IN_MASK (n : Nat) : Nat := 256 * (0x2240 + n) + 0x02
/-- TK_TPDO, U8, RWS, EMBER (R315). -/
abbrev TK_TPDO (n : Nat) : Nat := 256 * (0x2240 + n) + 0x03
/-- TK_FENCE, U32, WO, MAYFLY (R315). -/
abbrev TK_FENCE (n : Nat) : Nat := 256 * (0x2240 + n) + 0x04
/-- TK_CYCLE, U32, RO, MAYFLY (R315). -/
abbrev TK_CYCLE (n : Nat) : Nat := 256 * (0x2240 + n) + 0x05
/-- TK_IN_IMAGE, DOMAIN, RO, MAYFLY (R315). -/
abbrev TK_IN_IMAGE (n : Nat) : Nat := 256 * (0x2240 + n) + 0x06
/-- TK_OUT_PENDING, U16, RO, MAYFLY (R315). -/
abbrev TK_OUT_PENDING (n : Nat) : Nat := 256 * (0x2240 + n) + 0x07
/-- TK_PERIOD_US, U32, RO, MAYFLY (R315). -/
abbrev TK_PERIOD_US (n : Nat) : Nat := 256 * (0x2240 + n) + 0x08
/-- TK_MISSED, U32, RO, MAYFLY (R315). -/
abbrev TK_MISSED (n : Nat) : Nat := 256 * (0x2240 + n) + 0x09
/-- CL_HIGHEST_SUB, U8, RO, MAYFLY (R316). -/
abbrev CL_HIGHEST_SUB (n : Nat) : Nat := 256 * (0x4000 + n) + 0x00
/-- CL_NAME, VSTRING, RWS, EMBER (R316). -/
abbrev CL_NAME (n : Nat) : Nat := 256 * (0x4000 + n) + 0x01
/-- CL_CLASS, U8, RWS, EMBER (R316). -/
abbrev CL_CLASS (n : Nat) : Nat := 256 * (0x4000 + n) + 0x02
/-- CL_CLAIM, OSTRING, RWS, EMBER (R316). -/
abbrev CL_CLAIM (n : Nat) : Nat := 256 * (0x4000 + n) + 0x03
/-- CL_SG_CLAIM, OSTRING, RWS, EMBER (R316). -/
abbrev CL_SG_CLAIM (n : Nat) : Nat := 256 * (0x4000 + n) + 0x04
/-- CL_BUDGET_MW, U32, RWS, EMBER (R316). -/
abbrev CL_BUDGET_MW (n : Nat) : Nat := 256 * (0x4000 + n) + 0x05
/-- CL_BUDGET_NOW_MW, U32, RW, MAYFLY (R316). -/
abbrev CL_BUDGET_NOW_MW (n : Nat) : Nat := 256 * (0x4000 + n) + 0x06
/-- CL_FENCES, U32, RWS, EMBER (R316). -/
abbrev CL_FENCES (n : Nat) : Nat := 256 * (0x4000 + n) + 0x07
/-- CL_TASK_CLASS, U8, RWS, EMBER (R316). -/
abbrev CL_TASK_CLASS (n : Nat) : Nat := 256 * (0x4000 + n) + 0x08
/-- CL_STAGE_RIGHT, BOOL, RWS, EMBER (R316). -/
abbrev CL_STAGE_RIGHT (n : Nat) : Nat := 256 * (0x4000 + n) + 0x09
/-- CL_RET_SIZE, U16, RWS, EMBER (R316). -/
abbrev CL_RET_SIZE (n : Nat) : Nat := 256 * (0x4000 + n) + 0x0A
/-- CL_RET_OFFSET, U16, RO, MAYFLY (R316). -/
abbrev CL_RET_OFFSET (n : Nat) : Nat := 256 * (0x4000 + n) + 0x0B
/-- CL_RETAIN, DOMAIN, RW, RECORD (R316). -/
abbrev CL_RETAIN (n : Nat) : Nat := 256 * (0x4000 + n) + 0x0C
/-- CL_USE_MW, U32, RO, MAYFLY (R316). -/
abbrev CL_USE_MW (n : Nat) : Nat := 256 * (0x4000 + n) + 0x0D
/-- CL_YIELD, U32, RO, MAYFLY (R316). -/
abbrev CL_YIELD (n : Nat) : Nat := 256 * (0x4000 + n) + 0x0E
/-- CL_OVERDRAW_MW, U32, RO, MAYFLY (R316). -/
abbrev CL_OVERDRAW_MW (n : Nat) : Nat := 256 * (0x4000 + n) + 0x0F
/-- CL_SEQ_LAST, U16, RO, MAYFLY (R316). -/
abbrev CL_SEQ_LAST (n : Nat) : Nat := 256 * (0x4000 + n) + 0x10
/-- CL_EXECUTED, U32, RO, MAYFLY (R316). -/
abbrev CL_EXECUTED (n : Nat) : Nat := 256 * (0x4000 + n) + 0x11
/-- CL_REFUSED, U32, RO, MAYFLY (R316). -/
abbrev CL_REFUSED (n : Nat) : Nat := 256 * (0x4000 + n) + 0x12
/-- CL_HELD, U16, RO, MAYFLY (R316). -/
abbrev CL_HELD (n : Nat) : Nat := 256 * (0x4000 + n) + 0x13
/-- OWN_HIGHEST_SUB, U8, RO, MAYFLY (R317). -/
abbrev OWN_HIGHEST_SUB (n : Nat) : Nat := 256 * (0x3006 + 16 * n) + 0x00
/-- OWN_HOLDER, U16, RO, MAYFLY (R317). -/
abbrev OWN_HOLDER (n : Nat) : Nat := 256 * (0x3006 + 16 * n) + 0x01
/-- OWN_CLASS, U8, RO, MAYFLY (R317). -/
abbrev OWN_CLASS (n : Nat) : Nat := 256 * (0x3006 + 16 * n) + 0x02
/-- OWN_SINCE, TIME64, RO, MAYFLY (R317). -/
abbrev OWN_SINCE (n : Nat) : Nat := 256 * (0x3006 + 16 * n) + 0x03
/-- OWN_LEVEL_CMD, U16, RO, MAYFLY (R317). -/
abbrev OWN_LEVEL_CMD (n : Nat) : Nat := 256 * (0x3006 + 16 * n) + 0x04
/-- OWN_POWER_MW, U32, RO, MAYFLY (R317). -/
abbrev OWN_POWER_MW (n : Nat) : Nat := 256 * (0x3006 + 16 * n) + 0x05
/-- OWN_BUDGETED, BOOL, RO, MAYFLY (R317). -/
abbrev OWN_BUDGETED (n : Nat) : Nat := 256 * (0x3006 + 16 * n) + 0x06
/-- EMB_HIGHEST_SUB, U8, RO, MAYFLY (R350). -/
abbrev EMB_HIGHEST_SUB : Nat := 256 * 0x2300 + 0x00
/-- EMB_FREE_KIB, U16, RO, MAYFLY (R350). -/
abbrev EMB_FREE_KIB : Nat := 256 * 0x2300 + 0x01
/-- EMB_LIVE_KIB, U16, RO, MAYFLY (R350). -/
abbrev EMB_LIVE_KIB : Nat := 256 * 0x2300 + 0x02
/-- EMB_SEQ_NEXT, U64, RO, MAYFLY (R350). -/
abbrev EMB_SEQ_NEXT : Nat := 256 * 0x2300 + 0x03
/-- EMB_CYCLES_MAX, U32, RO, RECORD (R350). -/
abbrev EMB_CYCLES_MAX : Nat := 256 * 0x2300 + 0x04
/-- EMB_CYCLES_MEAN, U32, RO, RECORD (R350). -/
abbrev EMB_CYCLES_MEAN : Nat := 256 * 0x2300 + 0x05
/-- EMB_RECOVERY_US, U32, RO, MAYFLY (R350). -/
abbrev EMB_RECOVERY_US : Nat := 256 * 0x2300 + 0x06
/-- EMB_DISCARDED, U32, RO, MAYFLY (R350). -/
abbrev EMB_DISCARDED : Nat := 256 * 0x2300 + 0x07
/-- EMB_ABANDONED, U16, RO, MAYFLY (R350). -/
abbrev EMB_ABANDONED : Nat := 256 * 0x2300 + 0x08
/-- EMB_UNCORR_COUNT, U32, RO, RECORD (R350). -/
abbrev EMB_UNCORR_COUNT : Nat := 256 * 0x2300 + 0x09
/-- EMB_CORRECTED_BITS, U64, RO, RECORD (R350). -/
abbrev EMB_CORRECTED_BITS : Nat := 256 * 0x2300 + 0x0A
/-- EMB_CHECKPOINTS, U32, RO, RECORD (R350). -/
abbrev EMB_CHECKPOINTS : Nat := 256 * 0x2300 + 0x0B
/-- EMB_RET_DIRTY, U8, RO, MAYFLY (R350). -/
abbrev EMB_RET_DIRTY : Nat := 256 * 0x2300 + 0x0C
/-- BANK_HIGHEST_SUB, U8, RO, MAYFLY (R350). -/
abbrev BANK_HIGHEST_SUB : Nat := 256 * 0x2301 + 0x00
/-- BANK_STATE, U8, RO, MAYFLY (R350). -/
abbrev BANK_STATE : Nat := 256 * 0x2301 + 0x01
/-- BANK_INTERVAL_MIN, U8, RWS, EMBER (R350). -/
abbrev BANK_INTERVAL_MIN : Nat := 256 * 0x2301 + 0x02
/-- BANK_LAST_TIME, TIME64, RO, MAYFLY (R350). -/
abbrev BANK_LAST_TIME : Nat := 256 * 0x2301 + 0x03
/-- BANK_LAST_BYTES, U16, RO, MAYFLY (R350). -/
abbrev BANK_LAST_BYTES : Nat := 256 * 0x2301 + 0x04
/-- BANK_LAST_US, U32, RO, MAYFLY (R350). -/
abbrev BANK_LAST_US : Nat := 256 * 0x2301 + 0x05
/-- BANK_MAX_BYTES, U16, RO, RECORD (R350). -/
abbrev BANK_MAX_BYTES : Nat := 256 * 0x2301 + 0x06
/-- BANK_MAX_US, U32, RO, RECORD (R350). -/
abbrev BANK_MAX_US : Nat := 256 * 0x2301 + 0x07
/-- BANK_COUNT, U32, RO, RECORD (R350). -/
abbrev BANK_COUNT : Nat := 256 * 0x2301 + 0x08
/-- BANK_PF_COUNT, U32, RO, RECORD (R350). -/
abbrev BANK_PF_COUNT : Nat := 256 * 0x2301 + 0x09
/-- BANK_INCOMPLETE_COUNT, U32, RO, RECORD (R350). -/
abbrev BANK_INCOMPLETE_COUNT : Nat := 256 * 0x2301 + 0x0A
/-- BANK_PENDING_BYTES, U16, RO, MAYFLY (R350). -/
abbrev BANK_PENDING_BYTES : Nat := 256 * 0x2301 + 0x0B
/-- PATROL_HIGHEST_SUB, U8, RO, MAYFLY (R350). -/
abbrev PATROL_HIGHEST_SUB : Nat := 256 * 0x2302 + 0x00
/-- PATROL_LIMIT, U8, RWS, EMBER (R350). -/
abbrev PATROL_LIMIT : Nat := 256 * 0x2302 + 0x01
/-- PATROL_LAST_S, U64, RO, RECORD (R350). -/
abbrev PATROL_LAST_S : Nat := 256 * 0x2302 + 0x02
/-- PATROL_LAST_DAY, U32, RO, RECORD (R350). -/
abbrev PATROL_LAST_DAY : Nat := 256 * 0x2302 + 0x03
/-- PATROL_STATE, U8, RO, MAYFLY (R350). -/
abbrev PATROL_STATE : Nat := 256 * 0x2302 + 0x04
/-- PATROL_REFRESHED, U32, RO, RECORD (R350). -/
abbrev PATROL_REFRESHED : Nat := 256 * 0x2302 + 0x05
/-- PATROL_WORST_BITS, U16, RO, MAYFLY (R350). -/
abbrev PATROL_WORST_BITS : Nat := 256 * 0x2302 + 0x06
/-- JNL_HIGHEST_SUB, U8, RO, MAYFLY (R350). -/
abbrev JNL_HIGHEST_SUB : Nat := 256 * 0x2310 + 0x00
/-- JNL_DIES, U8, RO, FUSE (R350). -/
abbrev JNL_DIES : Nat := 256 * 0x2310 + 0x01
/-- JNL_CAPACITY_MIB, U32, RO, MAYFLY (R350). -/
abbrev JNL_CAPACITY_MIB : Nat := 256 * 0x2310 + 0x02
/-- JNL_HEAD_SEG, U64, RO, MAYFLY (R350). -/
abbrev JNL_HEAD_SEG : Nat := 256 * 0x2310 + 0x03
/-- JNL_OLDEST_SEG, U64, RO, MAYFLY (R350). -/
abbrev JNL_OLDEST_SEG : Nat := 256 * 0x2310 + 0x04
/-- JNL_BOOT_SEG, U64, RO, MAYFLY (R350). -/
abbrev JNL_BOOT_SEG : Nat := 256 * 0x2310 + 0x05
/-- JNL_HISTORY_S, U32, RO, MAYFLY (R350). -/
abbrev JNL_HISTORY_S : Nat := 256 * 0x2310 + 0x06
/-- JNL_RATE_AVG, U32, RO, MAYFLY (R350). -/
abbrev JNL_RATE_AVG : Nat := 256 * 0x2310 + 0x07
/-- JNL_RATE_PEAK, U32, RO, MAYFLY (R350). -/
abbrev JNL_RATE_PEAK : Nat := 256 * 0x2310 + 0x08
/-- JNL_BUF_FILL, U32, RO, MAYFLY (R350). -/
abbrev JNL_BUF_FILL : Nat := 256 * 0x2310 + 0x09
/-- JNL_BUF_PEAK, U32, RO, MAYFLY (R350). -/
abbrev JNL_BUF_PEAK : Nat := 256 * 0x2310 + 0x0A
/-- JNL_OVERRUN_RECORDS, U64, RO, RECORD (R350). -/
abbrev JNL_OVERRUN_RECORDS : Nat := 256 * 0x2310 + 0x0B
/-- JNL_FREEZE_MIB, U32, RO, MAYFLY (R350). -/
abbrev JNL_FREEZE_MIB : Nat := 256 * 0x2310 + 0x0C
/-- JNL_FREEZE_QUOTA_MIB, U32, RO, MAYFLY (R350). -/
abbrev JNL_FREEZE_QUOTA_MIB : Nat := 256 * 0x2310 + 0x0D
/-- JD_HIGHEST_SUB, U8, RO, MAYFLY (R350). -/
abbrev JD_HIGHEST_SUB (n : Nat) : Nat := 256 * (0x2311 + n) + 0x00
/-- JD_STATE, U8, RO, MAYFLY (R350). -/
abbrev JD_STATE (n : Nat) : Nat := 256 * (0x2311 + n) + 0x01
/-- JD_BAD_BLOCKS, U16, RO, RECORD (R350). -/
abbrev JD_BAD_BLOCKS (n : Nat) : Nat := 256 * (0x2311 + n) + 0x02
/-- JD_PE_MAX, U32, RO, RECORD (R350). -/
abbrev JD_PE_MAX (n : Nat) : Nat := 256 * (0x2311 + n) + 0x03
/-- JD_PE_MEAN, U32, RO, RECORD (R350). -/
abbrev JD_PE_MEAN (n : Nat) : Nat := 256 * (0x2311 + n) + 0x04
/-- JD_PROGRAMMED_MIB, U64, RO, RECORD (R350). -/
abbrev JD_PROGRAMMED_MIB (n : Nat) : Nat := 256 * (0x2311 + n) + 0x05
/-- JD_ECC_CORRECTED, U64, RO, RECORD (R350). -/
abbrev JD_ECC_CORRECTED (n : Nat) : Nat := 256 * (0x2311 + n) + 0x06
/-- JD_ECC_UNCORR, U32, RO, RECORD (R350). -/
abbrev JD_ECC_UNCORR (n : Nat) : Nat := 256 * (0x2311 + n) + 0x07
/-- JD_ERASE_RESERVE_MIB, U32, RO, MAYFLY (R350). -/
abbrev JD_ERASE_RESERVE_MIB (n : Nat) : Nat := 256 * (0x2311 + n) + 0x08
/-- ASH_HIGHEST_SUB, U8, RO, MAYFLY (R350). -/
abbrev ASH_HIGHEST_SUB : Nat := 256 * 0x2320 + 0x00
/-- ASH_LAST_SEG, U64, RO, MAYFLY (R350). -/
abbrev ASH_LAST_SEG : Nat := 256 * 0x2320 + 0x01
/-- ASH_LAST_SEAL, OSTRING, RO, MAYFLY (R350). -/
abbrev ASH_LAST_SEAL : Nat := 256 * 0x2320 + 0x02
/-- ASH_SEAL_LAT_MAX_US, U32, RO, MAYFLY (R350). -/
abbrev ASH_SEAL_LAT_MAX_US : Nat := 256 * 0x2320 + 0x03
/-- ASH_TRUNCATED, U32, RO, RECORD (R350). -/
abbrev ASH_TRUNCATED : Nat := 256 * 0x2320 + 0x04
/-- ASH_PREEMPTED, U32, RO, MAYFLY (R350). -/
abbrev ASH_PREEMPTED : Nat := 256 * 0x2320 + 0x05
/-- CAPC_HIGHEST_SUB, U8, RO, MAYFLY (R350). -/
abbrev CAPC_HIGHEST_SUB : Nat := 256 * 0x2330 + 0x00
/-- CAP_CH_MASK, OSTRING, RWS, EMBER (R350). -/
abbrev CAP_CH_MASK : Nat := 256 * 0x2330 + 0x01
/-- CAP_RATE, U8, RWS, EMBER (R350). -/
abbrev CAP_RATE : Nat := 256 * 0x2330 + 0x02
/-- CAP_FF_MASK, U32, RWS, EMBER (R350). -/
abbrev CAP_FF_MASK : Nat := 256 * 0x2330 + 0x03
/-- CAP_PRE_MS, U8, RWS, EMBER (R350). -/
abbrev CAP_PRE_MS : Nat := 256 * 0x2330 + 0x04
/-- CAP_POST_MS, U16, RWS, EMBER (R350). -/
abbrev CAP_POST_MS : Nat := 256 * 0x2330 + 0x05
/-- CAP_TRIG_CODES, OSTRING, RWS, EMBER (R350). -/
abbrev CAP_TRIG_CODES : Nat := 256 * 0x2330 + 0x06
/-- CAP_TRIG_FIN, U32, RWS, EMBER (R350). -/
abbrev CAP_TRIG_FIN : Nat := 256 * 0x2330 + 0x07
/-- CAP_AUTO_FREEZE, BOOL, RWS, EMBER (R350). -/
abbrev CAP_AUTO_FREEZE : Nat := 256 * 0x2330 + 0x08
/-- CAP_ARM, U8, RW, MAYFLY (R350). -/
abbrev CAP_ARM : Nat := 256 * 0x2330 + 0x09
/-- CAP_TRIGGER, U8, WO, MAYFLY (R350). -/
abbrev CAP_TRIGGER : Nat := 256 * 0x2330 + 0x0A
/-- CAP_FREEZE, U32, WO, MAYFLY (R350). -/
abbrev CAP_FREEZE : Nat := 256 * 0x2330 + 0x0B
/-- CAP_UNFREEZE, U32, WO, MAYFLY (R350). -/
abbrev CAP_UNFREEZE : Nat := 256 * 0x2330 + 0x0C
/-- CAP_RATE_BYTES, U32, RO, MAYFLY (R350). -/
abbrev CAP_RATE_BYTES : Nat := 256 * 0x2330 + 0x0D
/-- CAP_FULL_US, U32, RO, MAYFLY (R350). -/
abbrev CAP_FULL_US : Nat := 256 * 0x2330 + 0x0E
/-- CAPS_HIGHEST_SUB, U8, RO, MAYFLY (R350). -/
abbrev CAPS_HIGHEST_SUB : Nat := 256 * 0x2331 + 0x00
/-- CAP_STATE, U8, RO, MAYFLY (R350). -/
abbrev CAP_STATE : Nat := 256 * 0x2331 + 0x01
/-- CAP_NUMBER, U32, RO, RECORD (R350). -/
abbrev CAP_NUMBER : Nat := 256 * 0x2331 + 0x02
/-- CAP_TRIG_TIME, TIME64, RO, MAYFLY (R350). -/
abbrev CAP_TRIG_TIME : Nat := 256 * 0x2331 + 0x03
/-- CAP_TRIG_SOURCE, U16, RO, MAYFLY (R350). -/
abbrev CAP_TRIG_SOURCE : Nat := 256 * 0x2331 + 0x04
/-- CAP_DECIMATION, U8, RO, MAYFLY (R350). -/
abbrev CAP_DECIMATION : Nat := 256 * 0x2331 + 0x05
/-- CAP_SRAM_FILL, U32, RO, MAYFLY (R350). -/
abbrev CAP_SRAM_FILL : Nat := 256 * 0x2331 + 0x06
/-- CAP_DRAIN_RATE, U32, RO, MAYFLY (R350). -/
abbrev CAP_DRAIN_RATE : Nat := 256 * 0x2331 + 0x07
/-- CAP_TRIG_MISSED, U32, RO, MAYFLY (R350). -/
abbrev CAP_TRIG_MISSED : Nat := 256 * 0x2331 + 0x08
/-- CAP_FROZEN_COUNT, U16, RO, MAYFLY (R350). -/
abbrev CAP_FROZEN_COUNT : Nat := 256 * 0x2331 + 0x09
/-- CAP_FIRST_SEG, U64, RO, MAYFLY (R350). -/
abbrev CAP_FIRST_SEG : Nat := 256 * 0x2331 + 0x0A
/-- CAP_DIRECTORY, DOMAIN, RO, MAYFLY (R350). -/
abbrev CAP_DIRECTORY : Nat := 256 * 0x2332 + 0x00
/-- LAD_HIGHEST_SUB, U8, RO, MAYFLY (R350). -/
abbrev LAD_HIGHEST_SUB : Nat := 256 * 0x2340 + 0x00
/-- LAD_THROTTLED, U8, RO, MAYFLY (R350). -/
abbrev LAD_THROTTLED : Nat := 256 * 0x2340 + 0x01
/-- LAD_WAIT_US_5, U64, RO, MAYFLY (R350). -/
abbrev LAD_WAIT_US_5 : Nat := 256 * 0x2340 + 0x02
/-- LAD_WAIT_US_6, U64, RO, MAYFLY (R350). -/
abbrev LAD_WAIT_US_6 : Nat := 256 * 0x2340 + 0x03
/-- LAD_WAIT_US_7, U64, RO, MAYFLY (R350). -/
abbrev LAD_WAIT_US_7 : Nat := 256 * 0x2340 + 0x04
/-- LAD_WAIT_US_8, U64, RO, MAYFLY (R350). -/
abbrev LAD_WAIT_US_8 : Nat := 256 * 0x2340 + 0x05
/-- LAD_STORM_COUNT, U32, RO, RECORD (R350). -/
abbrev LAD_STORM_COUNT : Nat := 256 * 0x2340 + 0x06
/-- RP_HIGHEST_SUB, U8, RO, MAYFLY (R370). -/
abbrev RP_HIGHEST_SUB : Nat := 256 * 0x23C0 + 0x00
/-- REPLAY_STATE, U8, RO, MAYFLY (R370). -/
abbrev REPLAY_STATE : Nat := 256 * 0x23C0 + 0x01
/-- REPLAY_CONTROL, U8, RWM, MAYFLY (R370). -/
abbrev REPLAY_CONTROL : Nat := 256 * 0x23C0 + 0x02
/-- REPLAY_REFUSE_CAUSE, U8, RO, MAYFLY (R370). -/
abbrev REPLAY_REFUSE_CAUSE : Nat := 256 * 0x23C0 + 0x03
/-- REPLAY_STOP_TIME, TIME64, RWM, MAYFLY (R370). -/
abbrev REPLAY_STOP_TIME : Nat := 256 * 0x23C0 + 0x04
/-- REPLAY_END_REASON, U8, RO, MAYFLY (R370). -/
abbrev REPLAY_END_REASON : Nat := 256 * 0x23C0 + 0x05
/-- REPLAY_DEVICE_TIME, TIME64, RO, MAYFLY (R370). -/
abbrev REPLAY_DEVICE_TIME : Nat := 256 * 0x23C0 + 0x06
/-- REPLAY_EVENT_INDEX, U64, RO, MAYFLY (R370). -/
abbrev REPLAY_EVENT_INDEX : Nat := 256 * 0x23C0 + 0x07
/-- REPLAY_ROOM_MIB, U32, RO, MAYFLY (R370). -/
abbrev REPLAY_ROOM_MIB : Nat := 256 * 0x23C0 + 0x08
/-- REPLAY_LOADED_MIB, U32, RO, MAYFLY (R370). -/
abbrev REPLAY_LOADED_MIB : Nat := 256 * 0x23C0 + 0x09
/-- REPLAY_SAMPLE_PULSES, U64, RO, MAYFLY (R370). -/
abbrev REPLAY_SAMPLE_PULSES : Nat := 256 * 0x23C0 + 0x0A
/-- REPLAY_STREAM_PULSES, U64, RO, MAYFLY (R370). -/
abbrev REPLAY_STREAM_PULSES : Nat := 256 * 0x23C0 + 0x0B
/-- REPLAY_RATE_PM, U32, RO, MAYFLY (R370). -/
abbrev REPLAY_RATE_PM : Nat := 256 * 0x23C0 + 0x0C
/-- DIV_HIGHEST_SUB, U8, RO, MAYFLY (R370). -/
abbrev DIV_HIGHEST_SUB : Nat := 256 * 0x23C1 + 0x00
/-- DIV_KIND, U8, RO, MAYFLY (R370). -/
abbrev DIV_KIND : Nat := 256 * 0x23C1 + 0x01
/-- DIV_TIME, TIME64, RO, MAYFLY (R370). -/
abbrev DIV_TIME : Nat := 256 * 0x23C1 + 0x02
/-- DIV_EVENT_INDEX, U64, RO, MAYFLY (R370). -/
abbrev DIV_EVENT_INDEX : Nat := 256 * 0x23C1 + 0x03
/-- DIV_SEGMENT, U64, RO, MAYFLY (R370). -/
abbrev DIV_SEGMENT : Nat := 256 * 0x23C1 + 0x04
/-- DIV_EXPECTED, OSTRING, RO, MAYFLY (R370). -/
abbrev DIV_EXPECTED : Nat := 256 * 0x23C1 + 0x05
/-- DIV_OBSERVED, OSTRING, RO, MAYFLY (R370). -/
abbrev DIV_OBSERVED : Nat := 256 * 0x23C1 + 0x06
/-- DIV_MUTEX, U8, RO, MAYFLY (R370). -/
abbrev DIV_MUTEX : Nat := 256 * 0x23C1 + 0x07
/-- XB_HIGHEST_SUB, U8, RO, MAYFLY (R370). -/
abbrev XB_HIGHEST_SUB : Nat := 256 * 0x23C2 + 0x00
/-- XB_RESET_COUNT, U32, RWM, MAYFLY (R370). -/
abbrev XB_RESET_COUNT : Nat := 256 * 0x23C2 + 0x01
/-- XB_LAST_SEG, U64, RWM, MAYFLY (R370). -/
abbrev XB_LAST_SEG : Nat := 256 * 0x23C2 + 0x02
/-- XB_BUILD, U8, RWM, MAYFLY (R370). -/
abbrev XB_BUILD : Nat := 256 * 0x23C2 + 0x03
/-- XB_STATE, U8, RO, MAYFLY (R370). -/
abbrev XB_STATE : Nat := 256 * 0x23C2 + 0x04
/-- XB_CAUSE, U8, RO, MAYFLY (R370). -/
abbrev XB_CAUSE : Nat := 256 * 0x23C2 + 0x05
/-- XB_SIZE, U64, RO, MAYFLY (R370). -/
abbrev XB_SIZE : Nat := 256 * 0x23C2 + 0x06
/-- REPLAY_BOOT_TABLE, DOMAIN, RO, RECORD (R370). -/
abbrev REPLAY_BOOT_TABLE : Nat := 256 * 0x23C3 + 0x00
/-- RING_HIGHEST_SUB, U8, RO, MAYFLY (R407). -/
abbrev RING_HIGHEST_SUB : Nat := 256 * 0x2400 + 0x00
/-- RING_SIZE, U8, RWS, EMBER (R407). -/
abbrev RING_SIZE : Nat := 256 * 0x2400 + 0x01
/-- RING_ROLE, U8, RO, MAYFLY (R407). -/
abbrev RING_ROLE : Nat := 256 * 0x2400 + 0x02
/-- RING_POSITION, U8, RO, MAYFLY (R407). -/
abbrev RING_POSITION : Nat := 256 * 0x2400 + 0x03
/-- RING_STATE, U8, RO, MAYFLY (R407). -/
abbrev RING_STATE : Nat := 256 * 0x2400 + 0x04
/-- RING_WRAPPED, U8, RO, MAYFLY (R407). -/
abbrev RING_WRAPPED : Nat := 256 * 0x2400 + 0x05
/-- RING_TIME_VALID, BOOL, RO, MAYFLY (R407). -/
abbrev RING_TIME_VALID : Nat := 256 * 0x2400 + 0x06
/-- RING_TIME_NOW, TIME64, RO, MAYFLY (R407). -/
abbrev RING_TIME_NOW : Nat := 256 * 0x2400 + 0x07
/-- RING_TIME_ERR_NS, I16, RO, MAYFLY (R407). -/
abbrev RING_TIME_ERR_NS : Nat := 256 * 0x2400 + 0x08
/-- RING_MASTER_NODE, U8, RO, MAYFLY (R407). -/
abbrev RING_MASTER_NODE : Nat := 256 * 0x2400 + 0x09
/-- RING_ADMITTED, U16, RO, MAYFLY (R407). -/
abbrev RING_ADMITTED : Nat := 256 * 0x2400 + 0x0A
/-- RING_BYPASSED, U16, RO, MAYFLY (R407). -/
abbrev RING_BYPASSED : Nat := 256 * 0x2400 + 0x0B
/-- RING_LAST_MASTER_RX, TIME64, RO, MAYFLY (R407). -/
abbrev RING_LAST_MASTER_RX : Nat := 256 * 0x2400 + 0x0C
/-- RING_RX_CRC_ERR, U32, RO, MAYFLY (R407). -/
abbrev RING_RX_CRC_ERR : Nat := 256 * 0x2400 + 0x0D
/-- RING_RETRANSMITS, U32, RO, MAYFLY (R407). -/
abbrev RING_RETRANSMITS : Nat := 256 * 0x2400 + 0x0E
/-- RING_TIME_LOSSES, U32, RO, MAYFLY (R407). -/
abbrev RING_TIME_LOSSES : Nat := 256 * 0x2400 + 0x0F
/-- RING_JOIN_COUNT, U32, RO, RECORD (R407). -/
abbrev RING_JOIN_COUNT : Nat := 256 * 0x2400 + 0x10
/-- RING_WRAP_COUNT, U32, RO, RECORD (R407). -/
abbrev RING_WRAP_COUNT : Nat := 256 * 0x2400 + 0x11
/-- PORT_HIGHEST_SUB, U8, RO, MAYFLY (R407). -/
abbrev PORT_HIGHEST_SUB (n : Nat) : Nat := 256 * (0x2401 + n) + 0x00
/-- PORT_STATE, U8, RO, MAYFLY (R407). -/
abbrev PORT_STATE (n : Nat) : Nat := 256 * (0x2401 + n) + 0x01
/-- PORT_SYMBOL_ERR, U32, RO, MAYFLY (R407). -/
abbrev PORT_SYMBOL_ERR (n : Nat) : Nat := 256 * (0x2401 + n) + 0x02
/-- PORT_HOP_DELAY_NS, U32, RO, MAYFLY (R407). -/
abbrev PORT_HOP_DELAY_NS (n : Nat) : Nat := 256 * (0x2401 + n) + 0x03
/-- PORT_LAST_DOWN, TIME64, RO, MAYFLY (R407). -/
abbrev PORT_LAST_DOWN (n : Nat) : Nat := 256 * (0x2401 + n) + 0x04
/-- PORT_DOWN_COUNT, U32, RO, RECORD (R407). -/
abbrev PORT_DOWN_COUNT (n : Nat) : Nat := 256 * (0x2401 + n) + 0x05
/-- POS_HIGHEST_SUB, U8, RO, MAYFLY (R407). -/
abbrev POS_HIGHEST_SUB (n : Nat) : Nat := 256 * (0x2410 + n) + 0x00
/-- POS_STATE, U8, RO, MAYFLY (R407). -/
abbrev POS_STATE (n : Nat) : Nat := 256 * (0x2410 + n) + 0x01
/-- POS_CAUSE, U8, RO, MAYFLY (R407). -/
abbrev POS_CAUSE (n : Nat) : Nat := 256 * (0x2410 + n) + 0x02
/-- POS_SERIAL, U64, RO, MAYFLY (R407). -/
abbrev POS_SERIAL (n : Nat) : Nat := 256 * (0x2410 + n) + 0x03
/-- POS_VARIANT, U8, RO, MAYFLY (R407). -/
abbrev POS_VARIANT (n : Nat) : Nat := 256 * (0x2410 + n) + 0x04
/-- POS_ACTIVE_DIGEST, OSTRING, RO, MAYFLY (R407). -/
abbrev POS_ACTIVE_DIGEST (n : Nat) : Nat := 256 * (0x2410 + n) + 0x05
/-- POS_STAGED_DIGEST, OSTRING, RO, MAYFLY (R407). -/
abbrev POS_STAGED_DIGEST (n : Nat) : Nat := 256 * (0x2410 + n) + 0x06
/-- POS_LAST_RX, TIME64, RO, MAYFLY (R407). -/
abbrev POS_LAST_RX (n : Nat) : Nat := 256 * (0x2410 + n) + 0x07
/-- POS_NODE_ID, U8, RO, MAYFLY (R407). -/
abbrev POS_NODE_ID (n : Nat) : Nat := 256 * (0x2410 + n) + 0x08
/-- PKG_HIGHEST_SUB, U8, RO, MAYFLY (R407). -/
abbrev PKG_HIGHEST_SUB : Nat := 256 * 0x2430 + 0x00
/-- PKG_VARIANT, U8, RO, FUSE (R407). -/
abbrev PKG_VARIANT : Nat := 256 * 0x2430 + 0x01
/-- PKG_VARIANT_NAME, VSTRING, RO, FUSE (R407). -/
abbrev PKG_VARIANT_NAME : Nat := 256 * 0x2430 + 0x02
/-- PKG_VARIANT_DECL, U8, RWS, EMBER (R407). -/
abbrev PKG_VARIANT_DECL : Nat := 256 * 0x2430 + 0x03
/-- VIR_HIGHEST_SUB, U8, RO, MAYFLY (R407). -/
abbrev VIR_HIGHEST_SUB : Nat := 256 * 0x2431 + 0x00
/-- VIR_LINKS_UP, U8, RO, MAYFLY (R407). -/
abbrev VIR_LINKS_UP : Nat := 256 * 0x2431 + 0x01
/-- VIR_RESENDS, U32, RO, MAYFLY (R407). -/
abbrev VIR_RESENDS : Nat := 256 * 0x2431 + 0x02
/-- VIR_RETRAINS, U32, RO, RECORD (R407). -/
abbrev VIR_RETRAINS : Nat := 256 * 0x2431 + 0x03
/-- CFG_HIGHEST_SUB, U8, RO, MAYFLY (R407). -/
abbrev CFG_HIGHEST_SUB : Nat := 256 * 0x2440 + 0x00
/-- CFG_ACTIVE_EPOCH, U32, RO, RECORD (R407). -/
abbrev CFG_ACTIVE_EPOCH : Nat := 256 * 0x2440 + 0x01
/-- CFG_ACTIVE_DIGEST, OSTRING, RO, RECORD (R407). -/
abbrev CFG_ACTIVE_DIGEST : Nat := 256 * 0x2440 + 0x02
/-- CFG_STAGE_CONTROL, U8, WO, MAYFLY (R407). -/
abbrev CFG_STAGE_CONTROL : Nat := 256 * 0x2440 + 0x03
/-- CFG_STAGE_STATE, U8, RO, MAYFLY (R407). -/
abbrev CFG_STAGE_STATE : Nat := 256 * 0x2440 + 0x04
/-- CFG_STAGED_DIGEST, OSTRING, RO, MAYFLY (R407). -/
abbrev CFG_STAGED_DIGEST : Nat := 256 * 0x2440 + 0x05
/-- CFG_STAGE_FAIL_CODE, U16, RO, MAYFLY (R407). -/
abbrev CFG_STAGE_FAIL_CODE : Nat := 256 * 0x2440 + 0x06
/-- CFG_STAGE_FAIL_INDEX, U32, RO, MAYFLY (R407). -/
abbrev CFG_STAGE_FAIL_INDEX : Nat := 256 * 0x2440 + 0x07
/-- CFG_ACTIVATE, OSTRING, WO, MAYFLY (R407). -/
abbrev CFG_ACTIVATE : Nat := 256 * 0x2440 + 0x08
/-- CFG_CONFIRM, U32, WO, MAYFLY (R407). -/
abbrev CFG_CONFIRM : Nat := 256 * 0x2440 + 0x09
/-- CFG_PENDING_EPOCH, U32, RO, MAYFLY (R407). -/
abbrev CFG_PENDING_EPOCH : Nat := 256 * 0x2440 + 0x0A
/-- CFG_PENDING_INSTANT, TIME64, RO, MAYFLY (R407). -/
abbrev CFG_PENDING_INSTANT : Nat := 256 * 0x2440 + 0x0B
/-- CFG_PREVIOUS_EPOCH, U32, RO, RECORD (R407). -/
abbrev CFG_PREVIOUS_EPOCH : Nat := 256 * 0x2440 + 0x0C
/-- CFG_PREVIOUS_DIGEST, OSTRING, RO, RECORD (R407). -/
abbrev CFG_PREVIOUS_DIGEST : Nat := 256 * 0x2440 + 0x0D
/-- CFG_LAST_SWITCH, TIME64, RO, MAYFLY (R407). -/
abbrev CFG_LAST_SWITCH : Nat := 256 * 0x2440 + 0x0E
/-- CFG_FORMAT, U16, RO, MAYFLY (R407). -/
abbrev CFG_FORMAT : Nat := 256 * 0x2440 + 0x0F
/-- CFG_MISMATCH_COUNT, U32, RO, RECORD (R407). -/
abbrev CFG_MISMATCH_COUNT : Nat := 256 * 0x2440 + 0x10
/-- SUP_HIGHEST_SUB, U8, RO, MAYFLY (R437). -/
abbrev SUP_HIGHEST_SUB : Nat := 256 * 0x2100 + 0x00
/-- VCORE_MV, VANA_MV, VIO_MV, VGD_MV, VKEEP_MV, U16, RO, MAYFLY (R437). -/
abbrev SUPPLY_MV (i : Nat) : Nat := 256 * 0x2100 + 0x01 + i
/-- SUPPLY_FLAGS, U8, RO, MAYFLY (R437). -/
abbrev SUPPLY_FLAGS : Nat := 256 * 0x2100 + 0x06
/-- SUPPLY_TRIP_COUNT, U32, RO, RECORD (R437). -/
abbrev SUPPLY_TRIP_COUNT : Nat := 256 * 0x2100 + 0x07
/-- KIN_HIGHEST_SUB, U8, RO, MAYFLY (R437). -/
abbrev KIN_HIGHEST_SUB : Nat := 256 * 0x2101 + 0x00
/-- KINDLE_TIMEOUT_MS, U8, RWS, EMBER (R437). -/
abbrev KINDLE_TIMEOUT_MS : Nat := 256 * 0x2101 + 0x01
/-- KINDLE_PHASE, U8, RO, MAYFLY (R437). -/
abbrev KINDLE_PHASE : Nat := 256 * 0x2101 + 0x02
/-- KINDLE_FW_US, U32, RO, MAYFLY (R437). -/
abbrev KINDLE_FW_US : Nat := 256 * 0x2101 + 0x03
/-- KINDLE_EMBER_US, U32, RO, MAYFLY (R437). -/
abbrev KINDLE_EMBER_US : Nat := 256 * 0x2101 + 0x04
/-- KINDLE_KINDLED_US, U32, RO, MAYFLY (R437). -/
abbrev KINDLE_KINDLED_US : Nat := 256 * 0x2101 + 0x05
/-- KINDLE_END_US, U32, RO, MAYFLY (R437). -/
abbrev KINDLE_END_US : Nat := 256 * 0x2101 + 0x06
/-- KINDLE_END_CAUSE, U8, RO, MAYFLY (R437). -/
abbrev KINDLE_END_CAUSE : Nat := 256 * 0x2101 + 0x07
/-- KINDLE_MAX_US, U32, RO, RECORD (R437). -/
abbrev KINDLE_MAX_US : Nat := 256 * 0x2101 + 0x08
/-- HOLD_HIGHEST_SUB, U8, RO, MAYFLY (R437). -/
abbrev HOLD_HIGHEST_SUB : Nat := 256 * 0x2102 + 0x00
/-- HOLD_RATIO, U32, RWS, EMBER (R437). -/
abbrev HOLD_RATIO : Nat := 256 * 0x2102 + 0x01
/-- HOLD_TRIP_MV, U32, RWS, EMBER (R437). -/
abbrev HOLD_TRIP_MV : Nat := 256 * 0x2102 + 0x02
/-- HOLD_WARN_MV, U32, RWS, EMBER (R437). -/
abbrev HOLD_WARN_MV : Nat := 256 * 0x2102 + 0x03
/-- VHOLD_MV, U32, RO, MAYFLY (R437). -/
abbrev VHOLD_MV : Nat := 256 * 0x2102 + 0x04
/-- HOLD_STATE, U8, RO, MAYFLY (R437). -/
abbrev HOLD_STATE : Nat := 256 * 0x2102 + 0x05
/-- HOLD_V_BANK_END, U32, RO, RECORD (R437). -/
abbrev HOLD_V_BANK_END : Nat := 256 * 0x2102 + 0x06
/-- HOLD_TRIP_COUNT, U32, RO, RECORD (R437). -/
abbrev HOLD_TRIP_COUNT : Nat := 256 * 0x2102 + 0x07
/-- CAL_HIGHEST_SUB, U8, RO, MAYFLY (R437). -/
abbrev CAL_HIGHEST_SUB : Nat := 256 * 0x2103 + 0x00
/-- CAL_NOW, U32, RW, MAYFLY (R437). -/
abbrev CAL_NOW : Nat := 256 * 0x2103 + 0x01
/-- CAL_VALID, BOOL, RO, MAYFLY (R437). -/
abbrev CAL_VALID : Nat := 256 * 0x2103 + 0x02
/-- CICADA_ENTER, U8, WO, MAYFLY (R437). -/
abbrev CICADA_ENTER : Nat := 256 * 0x2103 + 0x03
/-- CAL_LAST_DOWN, U32, RO, MAYFLY (R437). -/
abbrev CAL_LAST_DOWN : Nat := 256 * 0x2103 + 0x04
/-- WAKE_STAMP, U32, RO, MAYFLY (R437). -/
abbrev WAKE_STAMP : Nat := 256 * 0x2103 + 0x05
/-- DORMANT_S, U32, RO, MAYFLY (R437). -/
abbrev DORMANT_S : Nat := 256 * 0x2103 + 0x06
/-- RAIL_HIGHEST_SUB, U8, RO, MAYFLY (R437). -/
abbrev RAIL_HIGHEST_SUB (n : Nat) : Nat := 256 * (0x2110 + n) + 0x00
/-- RAIL_USE, BOOL, RWS, EMBER (R437). -/
abbrev RAIL_USE (n : Nat) : Nat := 256 * (0x2110 + n) + 0x01
/-- RAIL_RATIO, U32, RWS, EMBER (R437). -/
abbrev RAIL_RATIO (n : Nat) : Nat := 256 * (0x2110 + n) + 0x02
/-- RAIL_MIN_MV, U32, RWS, EMBER (R437). -/
abbrev RAIL_MIN_MV (n : Nat) : Nat := 256 * (0x2110 + n) + 0x03
/-- RAIL_MAX_MV, U32, RWS, EMBER (R437). -/
abbrev RAIL_MAX_MV (n : Nat) : Nat := 256 * (0x2110 + n) + 0x04
/-- RAIL_DIP_US, U16, RWS, EMBER (R437). -/
abbrev RAIL_DIP_US (n : Nat) : Nat := 256 * (0x2110 + n) + 0x05
/-- RAIL_MV, U32, RO, MAYFLY (R437). -/
abbrev RAIL_MV (n : Nat) : Nat := 256 * (0x2110 + n) + 0x06
/-- RAIL_LOW_MV, U32, RO, MAYFLY (R437). -/
abbrev RAIL_LOW_MV (n : Nat) : Nat := 256 * (0x2110 + n) + 0x07
/-- RAIL_STATE, U8, RO, MAYFLY (R437). -/
abbrev RAIL_STATE (n : Nat) : Nat := 256 * (0x2110 + n) + 0x08
/-- RAIL_DIP_COUNT, U32, RO, RECORD (R437). -/
abbrev RAIL_DIP_COUNT (n : Nat) : Nat := 256 * (0x2110 + n) + 0x09
/-- RAIL_LAST_DIP, TIME64, RO, MAYFLY (R437). -/
abbrev RAIL_LAST_DIP (n : Nat) : Nat := 256 * (0x2110 + n) + 0x0A
/-- BAT_HIGHEST_SUB, U8, RO, MAYFLY (R437). -/
abbrev BAT_HIGHEST_SUB : Nat := 256 * 0x2120 + 0x00
/-- BAT_USE, BOOL, RWS, EMBER (R437). -/
abbrev BAT_USE : Nat := 256 * 0x2120 + 0x01
/-- BAT_CAPACITY_MAH, U32, RWS, EMBER (R437). -/
abbrev BAT_CAPACITY_MAH : Nat := 256 * 0x2120 + 0x02
/-- BAT_SHUNT, U32, RWS, EMBER (R437). -/
abbrev BAT_SHUNT : Nat := 256 * 0x2120 + 0x03
/-- BAT_V_RATIO, U32, RWS, EMBER (R437). -/
abbrev BAT_V_RATIO : Nat := 256 * 0x2120 + 0x04
/-- BAT_REST_TABLE, OSTRING, RWS, EMBER (R437). -/
abbrev BAT_REST_TABLE : Nat := 256 * 0x2120 + 0x05
/-- BAT_V_EMPTY_LOADED, U32, RWS, EMBER (R437). -/
abbrev BAT_V_EMPTY_LOADED : Nat := 256 * 0x2120 + 0x06
/-- BAT_V_MARGIN, U32, RWS, EMBER (R437). -/
abbrev BAT_V_MARGIN : Nat := 256 * 0x2120 + 0x07
/-- BAT_V_CUTOFF, U32, RWS, EMBER (R437). -/
abbrev BAT_V_CUTOFF : Nat := 256 * 0x2120 + 0x08
/-- BAT_REST_I_UA, U32, RWS, EMBER (R437). -/
abbrev BAT_REST_I_UA : Nat := 256 * 0x2120 + 0x09
/-- BAT_REST_MIN, U16, RWS, EMBER (R437). -/
abbrev BAT_REST_MIN : Nat := 256 * 0x2120 + 0x0A
/-- BAT_CHARGE_EFF_PM, U16, RWS, EMBER (R437). -/
abbrev BAT_CHARGE_EFF_PM : Nat := 256 * 0x2120 + 0x0B
/-- BAT_SOC_PM, U16, RO, RECORD (R437). -/
abbrev BAT_SOC_PM : Nat := 256 * 0x2120 + 0x0C
/-- BAT_CHARGE_MAH, I32, RO, RECORD (R437). -/
abbrev BAT_CHARGE_MAH : Nat := 256 * 0x2120 + 0x0D
/-- BAT_V_MV, U32, RO, MAYFLY (R437). -/
abbrev BAT_V_MV : Nat := 256 * 0x2120 + 0x0E
/-- BAT_I_UA, I32, RO, MAYFLY (R437). -/
abbrev BAT_I_UA : Nat := 256 * 0x2120 + 0x0F
/-- BAT_STATE, U8, RO, MAYFLY (R437). -/
abbrev BAT_STATE : Nat := 256 * 0x2120 + 0x10
/-- BAT_REMAIN_MIN, U16, RO, MAYFLY (R437). -/
abbrev BAT_REMAIN_MIN : Nat := 256 * 0x2120 + 0x11
/-- BAT_LAST_REST_DAY, U32, RO, RECORD (R437). -/
abbrev BAT_LAST_REST_DAY : Nat := 256 * 0x2120 + 0x12
/-- BAT_CONFLICT_COUNT, U32, RO, RECORD (R437). -/
abbrev BAT_CONFLICT_COUNT : Nat := 256 * 0x2120 + 0x13
/-- BAT_CUTOFF_COUNT, U32, RO, RECORD (R437). -/
abbrev BAT_CUTOFF_COUNT : Nat := 256 * 0x2120 + 0x14
/-- HO_HIGHEST_SUB, U8, RO, MAYFLY (R437). -/
abbrev HO_HIGHEST_SUB : Nat := 256 * 0x2121 + 0x00
/-- HO_THRESH_MV, U32, RWS, EMBER (R437). -/
abbrev HO_THRESH_MV : Nat := 256 * 0x2121 + 0x01
/-- HO_HYST_MV, U32, RWS, EMBER (R437). -/
abbrev HO_HYST_MV : Nat := 256 * 0x2121 + 0x02
/-- HO_STATE, U8, RO, MAYFLY (R437). -/
abbrev HO_STATE : Nat := 256 * 0x2121 + 0x03
/-- HO_LAST, TIME64, RO, MAYFLY (R437). -/
abbrev HO_LAST : Nat := 256 * 0x2121 + 0x04
/-- HO_ON_BAT_MS, U32, RO, MAYFLY (R437). -/
abbrev HO_ON_BAT_MS : Nat := 256 * 0x2121 + 0x05
/-- HO_COUNT, U32, RO, RECORD (R437). -/
abbrev HO_COUNT : Nat := 256 * 0x2121 + 0x06
/-- HO_RETURN_MS, U32, RWS, EMBER (R437). -/
abbrev HO_RETURN_MS : Nat := 256 * 0x2121 + 0x07
/-- AUT_TARGET_MIN, U16, RWS, EMBER (R437). -/
abbrev AUT_TARGET_MIN : Nat := 256 * 0x2121 + 0x08
/-- AUT_FLOOR, U16, RWS, EMBER (R437). -/
abbrev AUT_FLOOR : Nat := 256 * 0x2121 + 0x09
/-- AUT_FACTOR, U32, RO, MAYFLY (R437). -/
abbrev AUT_FACTOR : Nat := 256 * 0x2121 + 0x0A
/-- AUT_I_ALLOW_UA, U32, RO, MAYFLY (R437). -/
abbrev AUT_I_ALLOW_UA : Nat := 256 * 0x2121 + 0x0B
/-- AUT_ACTIVE, BOOL, RO, MAYFLY (R437). -/
abbrev AUT_ACTIVE : Nat := 256 * 0x2121 + 0x0C
/-- LC_HIGHEST_SUB, U8, RO, MAYFLY (R461). -/
abbrev LC_HIGHEST_SUB : Nat := 256 * 0x2500 + 0x00
/-- LC_FUSED_STATE, U8, RO, FUSE (R461). -/
abbrev LC_FUSED_STATE : Nat := 256 * 0x2500 + 0x01
/-- LC_STATE, U8, RO, MAYFLY (R461). -/
abbrev LC_STATE : Nat := 256 * 0x2500 + 0x02
/-- LC_SLOTS_USED, U8, RO, FUSE (R461). -/
abbrev LC_SLOTS_USED : Nat := 256 * 0x2500 + 0x03
/-- LC_REQUEST, OSTRING, WO, MAYFLY (R461). -/
abbrev LC_REQUEST : Nat := 256 * 0x2500 + 0x04
/-- LC_LAST_RESUMED, U8, RO, MAYFLY (R461). -/
abbrev LC_LAST_RESUMED : Nat := 256 * 0x2500 + 0x05
/-- LC_MAINT_CONTROL, U8, WO, MAYFLY (R461). -/
abbrev LC_MAINT_CONTROL : Nat := 256 * 0x2500 + 0x06
/-- LC_MAINT_LIMIT_MIN, U16, RWS, EMBER (R461). -/
abbrev LC_MAINT_LIMIT_MIN : Nat := 256 * 0x2500 + 0x07
/-- LC_ROWS, OSTRING, RO, FUSE (R461). -/
abbrev LC_ROWS : Nat := 256 * 0x2500 + 0x08
/-- KEY_HIGHEST_SUB, U8, RO, MAYFLY (R461). -/
abbrev KEY_HIGHEST_SUB : Nat := 256 * 0x2501 + 0x00
/-- KEY_SLOT_STATE, U8, RO, FUSE (R461). -/
abbrev KEY_SLOT_STATE : Nat := 256 * 0x2501 + 0x01
/-- KEY_ACTIVE_SLOT, U8, RO, FUSE (R461). -/
abbrev KEY_ACTIVE_SLOT : Nat := 256 * 0x2501 + 0x02
/-- KEY_INSTALL, OSTRING, WO, MAYFLY (R461). -/
abbrev KEY_INSTALL : Nat := 256 * 0x2501 + 0x03
/-- SIGN_KEY_STATE, U8, RO, FUSE (R461). -/
abbrev SIGN_KEY_STATE : Nat := 256 * 0x2501 + 0x04
/-- AUTH_STATE, U8, RO, MAYFLY (R461). -/
abbrev AUTH_STATE : Nat := 256 * 0x2501 + 0x05
/-- AUTH_FAILS, U32, RO, RECORD (R461). -/
abbrev AUTH_FAILS : Nat := 256 * 0x2501 + 0x06
/-- AUTH_LOCKOUT_S, U16, RO, MAYFLY (R461). -/
abbrev AUTH_LOCKOUT_S : Nat := 256 * 0x2501 + 0x07
/-- AUTH_IDLE_S, U16, RWS, EMBER (R461). -/
abbrev AUTH_IDLE_S : Nat := 256 * 0x2501 + 0x08
/-- FW_HIGHEST_SUB, U8, RO, MAYFLY (R461). -/
abbrev FW_HIGHEST_SUB : Nat := 256 * 0x2510 + 0x00
/-- FW_ACTIVE_SLOT, U8, RO, MAYFLY (R461). -/
abbrev FW_ACTIVE_SLOT : Nat := 256 * 0x2510 + 0x01
/-- FW_ACTIVE_VERSION, U32, RO, MAYFLY (R461). -/
abbrev FW_ACTIVE_VERSION : Nat := 256 * 0x2510 + 0x02
/-- FW_SEC_COUNTER, U8, RO, FUSE (R461). -/
abbrev FW_SEC_COUNTER : Nat := 256 * 0x2510 + 0x03
/-- FW_PROBATION, U8, RO, MAYFLY (R461). -/
abbrev FW_PROBATION : Nat := 256 * 0x2510 + 0x04
/-- FW_PROBATION_LEFT_S, U16, RO, MAYFLY (R461). -/
abbrev FW_PROBATION_LEFT_S : Nat := 256 * 0x2510 + 0x05
/-- FW_CONFIRM, U32, WO, MAYFLY (R461). -/
abbrev FW_CONFIRM : Nat := 256 * 0x2510 + 0x06
/-- FW_CFG_HOLD, BOOL, RO, MAYFLY (R461). -/
abbrev FW_CFG_HOLD : Nat := 256 * 0x2510 + 0x07
/-- FW_REJECT_CAUSE, U8, RO, MAYFLY (R461). -/
abbrev FW_REJECT_CAUSE : Nat := 256 * 0x2510 + 0x08
/-- FW_FALLBACK_COUNT, U32, RO, RECORD (R461). -/
abbrev FW_FALLBACK_COUNT : Nat := 256 * 0x2510 + 0x09
/-- FW_UPDATE_COUNT, U32, RO, RECORD (R461). -/
abbrev FW_UPDATE_COUNT : Nat := 256 * 0x2510 + 0x0A
/-- FW_UPD_STATE, U8, RO, MAYFLY (R461). -/
abbrev FW_UPD_STATE : Nat := 256 * 0x2510 + 0x0B
/-- SLOT_HIGHEST_SUB, U8, RO, MAYFLY (R461). -/
abbrev SLOT_HIGHEST_SUB (n : Nat) : Nat := 256 * (0x2511 + n) + 0x00
/-- SLOT_STATE, U8, RO, MAYFLY (R461). -/
abbrev SLOT_STATE (n : Nat) : Nat := 256 * (0x2511 + n) + 0x01
/-- SLOT_VERSION, U32, RO, MAYFLY (R461). -/
abbrev SLOT_VERSION (n : Nat) : Nat := 256 * (0x2511 + n) + 0x02
/-- SLOT_SECVER, U8, RO, MAYFLY (R461). -/
abbrev SLOT_SECVER (n : Nat) : Nat := 256 * (0x2511 + n) + 0x03
/-- SLOT_CFG_FORMAT, U16, RO, MAYFLY (R461). -/
abbrev SLOT_CFG_FORMAT (n : Nat) : Nat := 256 * (0x2511 + n) + 0x04
/-- SLOT_BLOCKS, U16, RO, MAYFLY (R461). -/
abbrev SLOT_BLOCKS (n : Nat) : Nat := 256 * (0x2511 + n) + 0x05
/-- SLOT_BODY_DIGEST, OSTRING, RO, MAYFLY (R461). -/
abbrev SLOT_BODY_DIGEST (n : Nat) : Nat := 256 * (0x2511 + n) + 0x06
/-- UPD_HIGHEST_SUB, U8, RO, MAYFLY (R461). -/
abbrev UPD_HIGHEST_SUB : Nat := 256 * 0x2520 + 0x00
/-- FW_UPD_CONTROL, U8, WO, MAYFLY (R461). -/
abbrev FW_UPD_CONTROL : Nat := 256 * 0x2520 + 0x01
/-- FW_UPD_LENGTH, U32, RO, MAYFLY (R461). -/
abbrev FW_UPD_LENGTH : Nat := 256 * 0x2520 + 0x02
/-- TT_HIGHEST_SUB, U8, RO, MAYFLY (R480). -/
abbrev TT_HIGHEST_SUB : Nat := 256 * 0x2580 + 0x00
/-- TT_REPAIR_MODE, U8, RWS, EMBER (R480). -/
abbrev TT_REPAIR_MODE : Nat := 256 * 0x2580 + 0x01
/-- TT_STATE, U8, RO, MAYFLY (R480). -/
abbrev TT_STATE : Nat := 256 * 0x2580 + 0x02
/-- TT_TEST_NOW, U8, RO, MAYFLY (R480). -/
abbrev TT_TEST_NOW : Nat := 256 * 0x2580 + 0x03
/-- TT_CYCLE_PROGRESS, U32, RO, MAYFLY (R480). -/
abbrev TT_CYCLE_PROGRESS : Nat := 256 * 0x2580 + 0x04
/-- TT_CYCLE_COUNT, U32, RO, RECORD (R480). -/
abbrev TT_CYCLE_COUNT : Nat := 256 * 0x2580 + 0x05
/-- TT_LAST_CYCLE_S, U32, RO, MAYFLY (R480). -/
abbrev TT_LAST_CYCLE_S : Nat := 256 * 0x2580 + 0x06
/-- TT_SLICE_PHASE_US, U16, RO, MAYFLY (R480). -/
abbrev TT_SLICE_PHASE_US : Nat := 256 * 0x2580 + 0x07
/-- TT_DEFERRED, U32, RO, MAYFLY (R480). -/
abbrev TT_DEFERRED : Nat := 256 * 0x2580 + 0x08
/-- TT_UNTESTED_CH, OSTRING, RO, MAYFLY (R480). -/
abbrev TT_UNTESTED_CH : Nat := 256 * 0x2580 + 0x09
/-- TT_FAIL_TEST, U8, RO, MAYFLY (R480). -/
abbrev TT_FAIL_TEST : Nat := 256 * 0x2580 + 0x0A
/-- TT_FAIL_ITEM, U32, RO, MAYFLY (R480). -/
abbrev TT_FAIL_ITEM : Nat := 256 * 0x2580 + 0x0B
/-- TT_RETRY_COUNT, U32, RO, RECORD (R480). -/
abbrev TT_RETRY_COUNT : Nat := 256 * 0x2580 + 0x0C
/-- REP_HIGHEST_SUB, U8, RO, MAYFLY (R480). -/
abbrev REP_HIGHEST_SUB : Nat := 256 * 0x2581 + 0x00
/-- REP_SPARES_FREE, U8, RO, MAYFLY (R480). -/
abbrev REP_SPARES_FREE : Nat := 256 * 0x2581 + 0x01
/-- REP_ENTRIES, OSTRING, RO, FUSE (R480). -/
abbrev REP_ENTRIES : Nat := 256 * 0x2581 + 0x02
/-- REP_ACTIVE_ROWS, U16, RO, MAYFLY (R480). -/
abbrev REP_ACTIVE_ROWS : Nat := 256 * 0x2581 + 0x03
/-- TE_HIGHEST_SUB, U8, RO, MAYFLY (R480). -/
abbrev TE_HIGHEST_SUB : Nat := 256 * 0x2582 + 0x00
/-- TT_ENGINE_CONTROL, U8, WO, MAYFLY (R480). -/
abbrev TT_ENGINE_CONTROL : Nat := 256 * 0x2582 + 0x01
/-- TT_ENGINE_STATE, U8, RO, MAYFLY (R480). -/
abbrev TT_ENGINE_STATE : Nat := 256 * 0x2582 + 0x02
/-- TT_ENGINE_RESULT, U16, RO, MAYFLY (R480). -/
abbrev TT_ENGINE_RESULT : Nat := 256 * 0x2582 + 0x03
/-- TT_ENGINE_FAIL_ITEM, U32, RO, MAYFLY (R480). -/
abbrev TT_ENGINE_FAIL_ITEM : Nat := 256 * 0x2582 + 0x04
/-- TT_IDCODE, U32, RO, FUSE (R480). -/
abbrev TT_IDCODE : Nat := 256 * 0x2582 + 0x05
/-- LK_HIGHEST_SUB, U8, RO, MAYFLY (R480). -/
abbrev LK_HIGHEST_SUB : Nat := 256 * 0x2590 + 0x00
/-- LK_PATH, U8, RWM, MAYFLY (R480). -/
abbrev LK_PATH : Nat := 256 * 0x2590 + 0x01
/-- LK_INDEX, U8, RWM, MAYFLY (R480). -/
abbrev LK_INDEX : Nat := 256 * 0x2590 + 0x02
/-- LK_PATTERN, U8, RWM, MAYFLY (R480). -/
abbrev LK_PATTERN : Nat := 256 * 0x2590 + 0x03
/-- LK_DURATION_MS, U32, RWM, MAYFLY (R480). -/
abbrev LK_DURATION_MS : Nat := 256 * 0x2590 + 0x04
/-- LK_CONTROL, U8, WO, MAYFLY (R480). -/
abbrev LK_CONTROL : Nat := 256 * 0x2590 + 0x05
/-- LK_STATE, U8, RO, MAYFLY (R480). -/
abbrev LK_STATE : Nat := 256 * 0x2590 + 0x06
/-- LK_BITS, U64, RO, MAYFLY (R480). -/
abbrev LK_BITS : Nat := 256 * 0x2590 + 0x07
/-- LK_ERRORS, U64, RO, MAYFLY (R480). -/
abbrev LK_ERRORS : Nat := 256 * 0x2590 + 0x08
/-- LK_SYNC_LOSS, U32, RO, MAYFLY (R480). -/
abbrev LK_SYNC_LOSS : Nat := 256 * 0x2590 + 0x09
/-- LK_SERVICE_ERRORS, U32, RO, RECORD (R480). -/
abbrev LK_SERVICE_ERRORS : Nat := 256 * 0x2590 + 0x0A
/-- FI_HIGHEST_SUB, U8, RO, MAYFLY (R492). -/
abbrev FI_HIGHEST_SUB : Nat := 256 * 0x2600 + 0x00
/-- FIN_STATES, U32, RO, MAYFLY (R492). -/
abbrev FIN_STATES : Nat := 256 * 0x2600 + 0x01
/-- FIN_BREAK_MAP, U32, RO, MAYFLY (R492). -/
abbrev FIN_BREAK_MAP : Nat := 256 * 0x2600 + 0x02
/-- FIN_UNKNOWN_MAP, U32, RO, MAYFLY (R492). -/
abbrev FIN_UNKNOWN_MAP : Nat := 256 * 0x2600 + 0x03
/-- FIN_HIGHEST_SUB, U8, RO, MAYFLY (R492). -/
abbrev FIN_HIGHEST_SUB (n : Nat) : Nat := 256 * (0x2610 + n) + 0x00
/-- FIN_USE, U8, RWS, EMBER (R492). -/
abbrev FIN_USE (n : Nat) : Nat := 256 * (0x2610 + n) + 0x01
/-- FIN_NOMINAL_V, U8, RWS, EMBER (R492). -/
abbrev FIN_NOMINAL_V (n : Nat) : Nat := 256 * (0x2610 + n) + 0x02
/-- FIN_SERIES_OHM, U32, RWS, EMBER (R492). -/
abbrev FIN_SERIES_OHM (n : Nat) : Nat := 256 * (0x2610 + n) + 0x03
/-- FIN_DEBOUNCE_US, U32, RWS, EMBER (R492). -/
abbrev FIN_DEBOUNCE_US (n : Nat) : Nat := 256 * (0x2610 + n) + 0x04
/-- FIN_BREAK_UA, U16, RWS, EMBER (R492). -/
abbrev FIN_BREAK_UA (n : Nat) : Nat := 256 * (0x2610 + n) + 0x05
/-- FIN_BREAK_MS, U16, RWS, EMBER (R492). -/
abbrev FIN_BREAK_MS (n : Nat) : Nat := 256 * (0x2610 + n) + 0x06
/-- FIN_INVERT, BOOL, RWS, EMBER (R492). -/
abbrev FIN_INVERT (n : Nat) : Nat := 256 * (0x2610 + n) + 0x07
/-- FIN_NAME, VSTRING, RWS, EMBER (R492). -/
abbrev FIN_NAME (n : Nat) : Nat := 256 * (0x2610 + n) + 0x08
/-- FIN_STATE, U8, RO, MAYFLY (R492). -/
abbrev FIN_STATE (n : Nat) : Nat := 256 * (0x2610 + n) + 0x09
/-- FIN_FIELD_MV, U32, RO, MAYFLY (R492). -/
abbrev FIN_FIELD_MV (n : Nat) : Nat := 256 * (0x2610 + n) + 0x0A
/-- FIN_CURRENT_UA, U32, RO, MAYFLY (R492). -/
abbrev FIN_CURRENT_UA (n : Nat) : Nat := 256 * (0x2610 + n) + 0x0B
/-- FIN_LAST_EDGE, TIME64, RO, MAYFLY (R492). -/
abbrev FIN_LAST_EDGE (n : Nat) : Nat := 256 * (0x2610 + n) + 0x0C
/-- FIN_EDGE_COUNT, U32, RO, RECORD (R492). -/
abbrev FIN_EDGE_COUNT (n : Nat) : Nat := 256 * (0x2610 + n) + 0x0D
/-- FIN_BREAK_COUNT, U32, RO, RECORD (R492). -/
abbrev FIN_BREAK_COUNT (n : Nat) : Nat := 256 * (0x2610 + n) + 0x0E
/-- DEVICE_TYPE, U32, RO, FUSE (R501). -/
abbrev DEVICE_TYPE : Nat := 256 * 0x1000 + 0x00
/-- ERROR_REGISTER, U8, RO, MAYFLY (R501). -/
abbrev ERROR_REGISTER : Nat := 256 * 0x1001 + 0x00
/-- ERR_FIELD_COUNT, U8, RW, MAYFLY (R501). -/
abbrev ERR_FIELD_COUNT : Nat := 256 * 0x1003 + 0x00
/-- ERR_FIELD, U32, RO, MAYFLY (R501). -/
abbrev ERR_FIELD (i : Nat) : Nat := 256 * 0x1003 + 0x01 + i
/-- COB_ID_SYNC, U32, RWS, EMBER (R501). -/
abbrev COB_ID_SYNC : Nat := 256 * 0x1005 + 0x00
/-- DEVICE_NAME, VSTRING, RO, FUSE (R501). -/
abbrev DEVICE_NAME : Nat := 256 * 0x1008 + 0x00
/-- HW_VERSION, VSTRING, RO, FUSE (R501). -/
abbrev HW_VERSION : Nat := 256 * 0x1009 + 0x00
/-- SW_VERSION, VSTRING, RO, MAYFLY (R501). -/
abbrev SW_VERSION : Nat := 256 * 0x100A + 0x00
/-- COB_ID_TIME, U32, RWS, EMBER (R501). -/
abbrev COB_ID_TIME : Nat := 256 * 0x1012 + 0x00
/-- COB_ID_EMCY, U32, RO, MAYFLY (R501). -/
abbrev COB_ID_EMCY : Nat := 256 * 0x1014 + 0x00
/-- EMCY_INHIBIT, U16, RO, MAYFLY (R501). -/
abbrev EMCY_INHIBIT : Nat := 256 * 0x1015 + 0x00
/-- CONS_HB_HIGHEST, U8, RO, MAYFLY (R501). -/
abbrev CONS_HB_HIGHEST : Nat := 256 * 0x1016 + 0x00
/-- CONS_HB_TIME, U32, RO, MAYFLY (R501). -/
abbrev CONS_HB_TIME (i : Nat) : Nat := 256 * 0x1016 + 0x01 + i
/-- PROD_HB_TIME, U16, RWS, EMBER (R501). -/
abbrev PROD_HB_TIME : Nat := 256 * 0x1017 + 0x00
/-- ID_OBJ_HIGHEST, U8, RO, FUSE (R501). -/
abbrev ID_OBJ_HIGHEST : Nat := 256 * 0x1018 + 0x00
/-- VENDOR_ID, U32, RO, FUSE (R501). -/
abbrev VENDOR_ID : Nat := 256 * 0x1018 + 0x01
/-- PRODUCT_CODE, U32, RO, FUSE (R501). -/
abbrev PRODUCT_CODE : Nat := 256 * 0x1018 + 0x02
/-- REVISION, U32, RO, MAYFLY (R501). -/
abbrev REVISION : Nat := 256 * 0x1018 + 0x03
/-- SERIAL_LOW, U32, RO, FUSE (R501). -/
abbrev SERIAL_LOW : Nat := 256 * 0x1018 + 0x04
/-- SYNC_OVERFLOW, U8, RWS, EMBER (R501). -/
abbrev SYNC_OVERFLOW : Nat := 256 * 0x1019 + 0x00
/-- RPDO_COM_HIGHEST, U8, RO, MAYFLY (R501). -/
abbrev RPDO_COM_HIGHEST (n : Nat) : Nat := 256 * (0x1400 + n) + 0x00
/-- RPDO_COB_ID, U32, RWS, EMBER (R501). -/
abbrev RPDO_COB_ID (n : Nat) : Nat := 256 * (0x1400 + n) + 0x01
/-- RPDO_TYPE, U8, RWS, EMBER (R501). -/
abbrev RPDO_TYPE (n : Nat) : Nat := 256 * (0x1400 + n) + 0x02
/-- RPDO_MAP_COUNT, U8, RWS, EMBER (R501). -/
abbrev RPDO_MAP_COUNT (n : Nat) : Nat := 256 * (0x1600 + n) + 0x00
/-- RPDO_MAP, U32, RWS, EMBER (R501). -/
abbrev RPDO_MAP (n : Nat) (i : Nat) : Nat := 256 * (0x1600 + n) + 0x01 + i
/-- TPDO_COM_HIGHEST, U8, RO, MAYFLY (R501). -/
abbrev TPDO_COM_HIGHEST (n : Nat) : Nat := 256 * (0x1800 + n) + 0x00
/-- TPDO_COB_ID, U32, RWS, EMBER (R501). -/
abbrev TPDO_COB_ID (n : Nat) : Nat := 256 * (0x1800 + n) + 0x01
/-- TPDO_TYPE, U8, RWS, EMBER (R501). -/
abbrev TPDO_TYPE (n : Nat) : Nat := 256 * (0x1800 + n) + 0x02
/-- TPDO_INHIBIT, U16, RWS, EMBER (R501). -/
abbrev TPDO_INHIBIT (n : Nat) : Nat := 256 * (0x1800 + n) + 0x03
/-- TPDO_EVENT_MS, U16, RWS, EMBER (R501). -/
abbrev TPDO_EVENT_MS (n : Nat) : Nat := 256 * (0x1800 + n) + 0x05
/-- TPDO_MAP_COUNT, U8, RWS, EMBER (R501). -/
abbrev TPDO_MAP_COUNT (n : Nat) : Nat := 256 * (0x1A00 + n) + 0x00
/-- TPDO_MAP, U32, RWS, EMBER (R501). -/
abbrev TPDO_MAP (n : Nat) (i : Nat) : Nat := 256 * (0x1A00 + n) + 0x01 + i
/-- STATUS_MAP, U8, RO, MAYFLY (R501). -/
abbrev STATUS_MAP : Nat := 256 * 0x1A0F + 0x00
/-- COND_HIGHEST_SUB, U8, RO, MAYFLY (R509). -/
abbrev COND_HIGHEST_SUB : Nat := 256 * 0x4800 + 0x00
/-- COND_ACTIVE_COUNT, U16, RO, MAYFLY (R509). -/
abbrev COND_ACTIVE_COUNT : Nat := 256 * 0x4800 + 0x01
/-- COND_ACTIVE_LIST, DOMAIN, RO, MAYFLY (R509). -/
abbrev COND_ACTIVE_LIST : Nat := 256 * 0x4800 + 0x02
/-- COND_HIST_TOTAL, U32, RO, RECORD (R509). -/
abbrev COND_HIST_TOTAL : Nat := 256 * 0x4800 + 0x03
/-- COND_HIST_LOST, U32, RO, RECORD (R509). -/
abbrev COND_HIST_LOST : Nat := 256 * 0x4800 + 0x04
/-- COND_RAISES, U32, RO, RECORD (R509). -/
abbrev COND_RAISES : Nat := 256 * 0x4800 + 0x05
/-- COND_LAST_RAISE, TIME64, RO, MAYFLY (R509). -/
abbrev COND_LAST_RAISE : Nat := 256 * 0x4800 + 0x06
/-- COND_HISTORY, DOMAIN, RO, RECORD (R509). -/
abbrev COND_HISTORY : Nat := 256 * 0x4801 + 0x00
/-- SVC_HIGHEST_SUB, U8, RO, MAYFLY (R512). -/
abbrev SVC_HIGHEST_SUB : Nat := 256 * 0x4900 + 0x00
/-- SVC_USE, BOOL, RWS, EMBER (R512). -/
abbrev SVC_USE : Nat := 256 * 0x4900 + 0x01
/-- SVC_IPV4_ADDR, U32, RWS, EMBER (R512). -/
abbrev SVC_IPV4_ADDR : Nat := 256 * 0x4900 + 0x02
/-- SVC_IPV4_MASK, U32, RWS, EMBER (R512). -/
abbrev SVC_IPV4_MASK : Nat := 256 * 0x4900 + 0x03
/-- SVC_IPV4_GW, U32, RWS, EMBER (R512). -/
abbrev SVC_IPV4_GW : Nat := 256 * 0x4900 + 0x04
/-- SVC_UDP_PORT, U16, RWS, EMBER (R512). -/
abbrev SVC_UDP_PORT : Nat := 256 * 0x4900 + 0x05
/-- SVC_SPEED, U8, RWS, EMBER (R512). -/
abbrev SVC_SPEED : Nat := 256 * 0x4900 + 0x06
/-- SVC_PHY_ADDR, U8, RWS, EMBER (R512). -/
abbrev SVC_PHY_ADDR : Nat := 256 * 0x4900 + 0x07
/-- SVC_MAC, OSTRING, RO, FUSE (R512). -/
abbrev SVC_MAC : Nat := 256 * 0x4900 + 0x08
/-- SVC_LINK, U8, RO, MAYFLY (R512). -/
abbrev SVC_LINK : Nat := 256 * 0x4900 + 0x09
/-- SVC_RX_DATAGRAMS, U32, RO, MAYFLY (R512). -/
abbrev SVC_RX_DATAGRAMS : Nat := 256 * 0x4900 + 0x0A
/-- SVC_REFUSED, U32, RO, MAYFLY (R512). -/
abbrev SVC_REFUSED : Nat := 256 * 0x4900 + 0x0B
/-- SVC_SESSION_PEER, U64, RO, MAYFLY (R512). -/
abbrev SVC_SESSION_PEER : Nat := 256 * 0x4900 + 0x0C
/-- SVC_BUSY_COUNT, U32, RO, MAYFLY (R512). -/
abbrev SVC_BUSY_COUNT : Nat := 256 * 0x4900 + 0x0D

end Sys2Proof.Machine.Obj
end

