-- ==== Sys2Proof/Machine/ObjTable.lean ====
section
/-! DEFINITION. The object tables of the dictionary, row by row: where an object stands, its type, its access, its
persistence class, its default and the values that may be written (R493, R495, R496, R18, R20; the tables of every
chapter). A dash in a table's default column, and a default given "per part", is written here as 0 or as no bytes
(DESIGN CHOICE, log entry 4). -/
namespace Sys2Proof.Machine

/-- Data types of Table 16.2. -/
inductive Ty where
  | bool | u8 | u16 | u32 | u64 | i8 | i16 | i32 | i64 | time64 | vstring | ostring | domain
  deriving DecidableEq, Repr

/-- Access codes of Table 0.3. -/
inductive Access where
  | ro | rw | rws | rwm | wo
  deriving DecidableEq, Repr

/-- Persistence classes of Table 0.4. -/
inductive Pers where
  | mayfly | ember | record | fuse
  deriving DecidableEq, Repr

/-- One row of an object table: the index base, how many instances at which stride, the run of sub-indices, the type,
the access, the persistence, the default, the writable values (no interval: any of the type), the stated length or
maximum of a byte type, and the bits a write reaches where the row names bits (0: all; R21). -/
structure ObjRow where
  base : Nat
  cnt : Nat
  stride : Nat
  lo : Nat
  hi : Nat
  ty : Ty
  access : Access
  pers : Pers
  dflt : Val
  range : List (Int × Int)
  len : Nat
  mask : Nat
  deriving DecidableEq, Repr

/-- Rows of 16_dictionary.md, 0x1000.00 to 0x1018.01. -/
def rowsComA : List ObjRow := [
  ⟨0x1000, 1, 1, 0x00, 0x00, .u32, .ro, .fuse, .num 0, [], 0, 0⟩,
  ⟨0x1001, 1, 1, 0x00, 0x00, .u8, .ro, .mayfly, .num 0, [], 0, 0⟩,
  ⟨0x1003, 1, 1, 0x00, 0x00, .u8, .rw, .mayfly, .num 0, [(0, 0)], 0, 0⟩,
  ⟨0x1003, 1, 1, 0x01, 0x10, .u32, .ro, .mayfly, .num 0, [], 0, 0⟩,
  ⟨0x1005, 1, 1, 0x00, 0x00, .u32, .rws, .ember, .num 128, [(0, 536870911)], 0, 0⟩,
  ⟨0x1008, 1, 1, 0x00, 0x00, .vstring, .ro, .fuse, .bytes [0x55, 0x4E, 0x39, 0x36, 0x38], [], 8, 0⟩,
  ⟨0x1009, 1, 1, 0x00, 0x00, .vstring, .ro, .fuse, .bytes [], [], 8, 0⟩,
  ⟨0x100A, 1, 1, 0x00, 0x00, .vstring, .ro, .mayfly, .bytes [], [], 16, 0⟩,
  ⟨0x1012, 1, 1, 0x00, 0x00, .u32, .rws, .ember, .num 256, [(0, 536870911)], 0, 0⟩,
  ⟨0x1014, 1, 1, 0x00, 0x00, .u32, .ro, .mayfly, .num 0, [], 0, 0⟩,
  ⟨0x1015, 1, 1, 0x00, 0x00, .u16, .ro, .mayfly, .num 20, [], 0, 0⟩,
  ⟨0x1016, 1, 1, 0x00, 0x00, .u8, .ro, .mayfly, .num 3, [], 0, 0⟩,
  ⟨0x1016, 1, 1, 0x01, 0x03, .u32, .ro, .mayfly, .num 0, [], 0, 0⟩,
  ⟨0x1017, 1, 1, 0x00, 0x00, .u16, .rws, .ember, .num 100, [(10, 1000)], 0, 0⟩,
  ⟨0x1018, 1, 1, 0x00, 0x00, .u8, .ro, .fuse, .num 4, [], 0, 0⟩,
  ⟨0x1018, 1, 1, 0x01, 0x01, .u32, .ro, .fuse, .num 3870, [], 0, 0⟩]

/-- Rows of 16_dictionary.md, 0x1018.02 to 0x1A00–0x1A0E.01–.40. -/
def rowsComB : List ObjRow := [
  ⟨0x1018, 1, 1, 0x02, 0x02, .u32, .ro, .fuse, .num 0x09680001, [], 0, 0⟩,
  ⟨0x1018, 1, 1, 0x03, 0x03, .u32, .ro, .mayfly, .num 0, [], 0, 0⟩,
  ⟨0x1018, 1, 1, 0x04, 0x04, .u32, .ro, .fuse, .num 0, [], 0, 0⟩,
  ⟨0x1019, 1, 1, 0x00, 0x00, .u8, .rws, .ember, .num 0, [(0, 0), (2, 240)], 0, 0⟩,
  ⟨0x1400, 16, 1, 0x00, 0x00, .u8, .ro, .mayfly, .num 2, [], 0, 0⟩,
  ⟨0x1400, 16, 1, 0x01, 0x01, .u32, .rws, .ember, .num 2147483648, [], 0, 0⟩,
  ⟨0x1400, 16, 1, 0x02, 0x02, .u8, .rws, .ember, .num 254, [(254, 254)], 0, 0⟩,
  ⟨0x1600, 16, 1, 0x00, 0x00, .u8, .rws, .ember, .num 0, [(0, 60)], 0, 0⟩,
  ⟨0x1600, 16, 1, 0x01, 0x3C, .u32, .rws, .ember, .num 0, [], 0, 0⟩,
  ⟨0x1800, 16, 1, 0x00, 0x00, .u8, .ro, .mayfly, .num 5, [], 0, 0⟩,
  ⟨0x1800, 16, 1, 0x01, 0x01, .u32, .rws, .ember, .num 0x80000000, [], 0, 0⟩,
  ⟨0x1800, 16, 1, 0x02, 0x02, .u8, .rws, .ember, .num 254, [(0, 240), (254, 254)], 0, 0⟩,
  ⟨0x1800, 16, 1, 0x03, 0x03, .u16, .rws, .ember, .num 0, [], 0, 0⟩,
  ⟨0x1800, 16, 1, 0x05, 0x05, .u16, .rws, .ember, .num 0, [], 0, 0⟩,
  ⟨0x1A00, 15, 1, 0x00, 0x00, .u8, .rws, .ember, .num 0, [(0, 64)], 0, 0⟩,
  ⟨0x1A00, 15, 1, 0x01, 0x40, .u32, .rws, .ember, .num 0, [], 0, 0⟩]

/-- Rows of 16_dictionary.md, 0x1A0F.00 to 0x1A0F.00. -/
def rowsComC : List ObjRow := [
  ⟨0x1A0F, 1, 1, 0x00, 0x00, .u8, .ro, .mayfly, .num 0, [], 0, 0⟩]

/-- All rows of the block. -/
def rowsCom : List ObjRow := rowsComA ++ rowsComB ++ rowsComC

/-- Rows of 01_architecture.md, 0x2000.00 to 0x2002.00. -/
def rowsArchA : List ObjRow := [
  ⟨0x2000, 1, 1, 0x00, 0x00, .u8, .ro, .fuse, .num 7, [], 0, 0⟩,
  ⟨0x2000, 1, 1, 0x01, 0x01, .vstring, .ro, .fuse, .bytes [0x55, 0x4E, 0x39, 0x36, 0x38], [], 8, 0⟩,
  ⟨0x2000, 1, 1, 0x02, 0x02, .u64, .ro, .fuse, .num 0, [], 0, 0⟩,
  ⟨0x2000, 1, 1, 0x03, 0x03, .u16, .ro, .fuse, .num 0, [], 0, 0⟩,
  ⟨0x2000, 1, 1, 0x04, 0x04, .u32, .ro, .fuse, .num 0, [], 0, 0⟩,
  ⟨0x2000, 1, 1, 0x05, 0x05, .u32, .ro, .fuse, .num 0, [], 0, 0⟩,
  ⟨0x2000, 1, 1, 0x06, 0x06, .u32, .ro, .fuse, .num 0, [], 0, 0⟩,
  ⟨0x2000, 1, 1, 0x07, 0x07, .u8, .ro, .fuse, .num 0, [], 0, 0⟩,
  ⟨0x2001, 1, 1, 0x00, 0x00, .u8, .ro, .mayfly, .num 6, [], 0, 0⟩,
  ⟨0x2001, 1, 1, 0x01, 0x01, .u8, .ro, .mayfly, .num 1, [], 0, 0⟩,
  ⟨0x2001, 1, 1, 0x02, 0x02, .u16, .ro, .mayfly, .num 0, [], 0, 0⟩,
  ⟨0x2001, 1, 1, 0x03, 0x03, .u32, .ro, .mayfly, .num 0, [], 0, 0⟩,
  ⟨0x2001, 1, 1, 0x04, 0x04, .u8, .ro, .mayfly, .num 0, [], 0, 0⟩,
  ⟨0x2001, 1, 1, 0x05, 0x05, .u32, .ro, .record, .num 0, [], 0, 0⟩,
  ⟨0x2001, 1, 1, 0x06, 0x06, .u64, .ro, .record, .num 0, [], 0, 0⟩,
  ⟨0x2002, 1, 1, 0x00, 0x00, .u8, .ro, .mayfly, .num 9, [], 0, 0⟩]

/-- Rows of 01_architecture.md, 0x2002.01 to 0x2010–0x2037.04. -/
def rowsArchB : List ObjRow := [
  ⟨0x2002, 1, 1, 0x01, 0x01, .u16, .ro, .mayfly, .num 0, [], 0, 0⟩,
  ⟨0x2002, 1, 1, 0x02, 0x02, .u16, .ro, .mayfly, .num 65535, [], 0, 0⟩,
  ⟨0x2002, 1, 1, 0x03, 0x03, .u16, .ro, .mayfly, .num 0, [], 0, 0⟩,
  ⟨0x2002, 1, 1, 0x04, 0x04, .u16, .ro, .record, .num 65535, [], 0, 0⟩,
  ⟨0x2002, 1, 1, 0x05, 0x05, .u32, .ro, .record, .num 0, [], 0, 0⟩,
  ⟨0x2002, 1, 1, 0x06, 0x06, .u8, .ro, .mayfly, .num 0, [], 0, 0⟩,
  ⟨0x2002, 1, 1, 0x07, 0x07, .u16, .ro, .mayfly, .num 0, [], 0, 0⟩,
  ⟨0x2002, 1, 1, 0x08, 0x08, .u16, .ro, .mayfly, .num 0, [], 0, 0⟩,
  ⟨0x2002, 1, 1, 0x09, 0x09, .u32, .ro, .record, .num 0, [], 0, 0⟩,
  ⟨0x2003, 1, 1, 0x00, 0x00, .u8, .ro, .mayfly, .num 14, [], 0, 0⟩,
  ⟨0x2003, 1, 1, 0x01, 0x0E, .u32, .ro, .mayfly, .num 0, [], 0, 0⟩,
  ⟨0x2010, 40, 1, 0x00, 0x00, .u8, .ro, .mayfly, .num 6, [], 0, 0⟩,
  ⟨0x2010, 40, 1, 0x01, 0x01, .u8, .ro, .mayfly, .num 0, [], 0, 0⟩,
  ⟨0x2010, 40, 1, 0x02, 0x02, .i16, .ro, .mayfly, .num 0, [], 0, 0⟩,
  ⟨0x2010, 40, 1, 0x03, 0x03, .u32, .ro, .mayfly, .num 0, [], 0, 0⟩,
  ⟨0x2010, 40, 1, 0x04, 0x04, .u32, .ro, .mayfly, .num 0, [], 0, 0⟩]

/-- Rows of 01_architecture.md, 0x2010–0x2037.05 to 0x2041.03. -/
def rowsArchC : List ObjRow := [
  ⟨0x2010, 40, 1, 0x05, 0x05, .u32, .ro, .record, .num 0, [], 0, 0⟩,
  ⟨0x2010, 40, 1, 0x06, 0x06, .u32, .ro, .record, .num 0, [], 0, 0⟩,
  ⟨0x2040, 1, 1, 0x00, 0x00, .u8, .ro, .mayfly, .num 5, [], 0, 0⟩,
  ⟨0x2040, 1, 1, 0x01, 0x01, .time64, .ro, .mayfly, .num 0, [], 0, 0⟩,
  ⟨0x2040, 1, 1, 0x02, 0x02, .u64, .ro, .mayfly, .num 0, [], 0, 0⟩,
  ⟨0x2040, 1, 1, 0x03, 0x03, .u64, .ro, .mayfly, .num 0, [], 0, 0⟩,
  ⟨0x2040, 1, 1, 0x04, 0x04, .time64, .ro, .mayfly, .num 0, [], 0, 0⟩,
  ⟨0x2040, 1, 1, 0x05, 0x05, .u32, .ro, .mayfly, .num 0, [], 0, 0⟩,
  ⟨0x2041, 1, 1, 0x00, 0x00, .u8, .ro, .mayfly, .num 3, [], 0, 0⟩,
  ⟨0x2041, 1, 1, 0x01, 0x01, .u32, .ro, .mayfly, .num 0, [], 0, 0⟩,
  ⟨0x2041, 1, 1, 0x02, 0x02, .u32, .ro, .mayfly, .num 0, [], 0, 0⟩,
  ⟨0x2041, 1, 1, 0x03, 0x03, .u16, .ro, .mayfly, .num 0, [], 0, 0⟩]

/-- All rows of the block. -/
def rowsArch : List ObjRow := rowsArchA ++ rowsArchB ++ rowsArchC

/-- Rows of 12_power_start.md, 0x2100.00 to 0x2102.02. -/
def rowsPowerA : List ObjRow := [
  ⟨0x2100, 1, 1, 0x00, 0x00, .u8, .ro, .mayfly, .num 7, [], 0, 0⟩,
  ⟨0x2100, 1, 1, 0x01, 0x05, .u16, .ro, .mayfly, .num 0, [], 0, 0⟩,
  ⟨0x2100, 1, 1, 0x06, 0x06, .u8, .ro, .mayfly, .num 0, [], 0, 0⟩,
  ⟨0x2100, 1, 1, 0x07, 0x07, .u32, .ro, .record, .num 0, [], 0, 0⟩,
  ⟨0x2101, 1, 1, 0x00, 0x00, .u8, .ro, .mayfly, .num 8, [], 0, 0⟩,
  ⟨0x2101, 1, 1, 0x01, 0x01, .u8, .rws, .ember, .num 20, [(0, 25)], 0, 0⟩,
  ⟨0x2101, 1, 1, 0x02, 0x02, .u8, .ro, .mayfly, .num 1, [], 0, 0⟩,
  ⟨0x2101, 1, 1, 0x03, 0x03, .u32, .ro, .mayfly, .num 0, [], 0, 0⟩,
  ⟨0x2101, 1, 1, 0x04, 0x04, .u32, .ro, .mayfly, .num 0, [], 0, 0⟩,
  ⟨0x2101, 1, 1, 0x05, 0x05, .u32, .ro, .mayfly, .num 0, [], 0, 0⟩,
  ⟨0x2101, 1, 1, 0x06, 0x06, .u32, .ro, .mayfly, .num 0, [], 0, 0⟩,
  ⟨0x2101, 1, 1, 0x07, 0x07, .u8, .ro, .mayfly, .num 0, [], 0, 0⟩,
  ⟨0x2101, 1, 1, 0x08, 0x08, .u32, .ro, .record, .num 0, [], 0, 0⟩,
  ⟨0x2102, 1, 1, 0x00, 0x00, .u8, .ro, .mayfly, .num 7, [], 0, 0⟩,
  ⟨0x2102, 1, 1, 0x01, 0x01, .u32, .rws, .ember, .num 0, [(0, 0), (1000, 200000)], 0, 0⟩,
  ⟨0x2102, 1, 1, 0x02, 0x02, .u32, .rws, .ember, .num 0, [], 0, 0⟩]

/-- Rows of 12_power_start.md, 0x2102.03 to RMB(n).03. -/
def rowsPowerB : List ObjRow := [
  ⟨0x2102, 1, 1, 0x03, 0x03, .u32, .rws, .ember, .num 0, [], 0, 0⟩,
  ⟨0x2102, 1, 1, 0x04, 0x04, .u32, .ro, .mayfly, .num 0, [], 0, 0⟩,
  ⟨0x2102, 1, 1, 0x05, 0x05, .u8, .ro, .mayfly, .num 0, [], 0, 0⟩,
  ⟨0x2102, 1, 1, 0x06, 0x06, .u32, .ro, .record, .num 0, [], 0, 0⟩,
  ⟨0x2102, 1, 1, 0x07, 0x07, .u32, .ro, .record, .num 0, [], 0, 0⟩,
  ⟨0x2103, 1, 1, 0x00, 0x00, .u8, .ro, .mayfly, .num 6, [], 0, 0⟩,
  ⟨0x2103, 1, 1, 0x01, 0x01, .u32, .rw, .mayfly, .num 0, [], 0, 0⟩,
  ⟨0x2103, 1, 1, 0x02, 0x02, .bool, .ro, .mayfly, .num 0, [], 0, 0⟩,
  ⟨0x2103, 1, 1, 0x03, 0x03, .u8, .wo, .mayfly, .num 0, [(1, 1)], 0, 0⟩,
  ⟨0x2103, 1, 1, 0x04, 0x04, .u32, .ro, .mayfly, .num 0, [], 0, 0⟩,
  ⟨0x2103, 1, 1, 0x05, 0x05, .u32, .ro, .mayfly, .num 0, [], 0, 0⟩,
  ⟨0x2103, 1, 1, 0x06, 0x06, .u32, .ro, .mayfly, .num 4294967295, [], 0, 0⟩,
  ⟨0x2110, 8, 1, 0x00, 0x00, .u8, .ro, .mayfly, .num 10, [], 0, 0⟩,
  ⟨0x2110, 8, 1, 0x01, 0x01, .bool, .rws, .ember, .num 0, [(0, 1)], 0, 0⟩,
  ⟨0x2110, 8, 1, 0x02, 0x02, .u32, .rws, .ember, .num 0, [(1000, 200000)], 0, 0⟩,
  ⟨0x2110, 8, 1, 0x03, 0x03, .u32, .rws, .ember, .num 0, [], 0, 0⟩]

/-- Rows of 12_power_start.md, RMB(n).04 to 0x2120.08. -/
def rowsPowerC : List ObjRow := [
  ⟨0x2110, 8, 1, 0x04, 0x04, .u32, .rws, .ember, .num 0, [], 0, 0⟩,
  ⟨0x2110, 8, 1, 0x05, 0x05, .u16, .rws, .ember, .num 50, [(10, 10000)], 0, 0⟩,
  ⟨0x2110, 8, 1, 0x06, 0x06, .u32, .ro, .mayfly, .num 0, [], 0, 0⟩,
  ⟨0x2110, 8, 1, 0x07, 0x07, .u32, .ro, .mayfly, .num 0, [], 0, 0⟩,
  ⟨0x2110, 8, 1, 0x08, 0x08, .u8, .ro, .mayfly, .num 0, [], 0, 0⟩,
  ⟨0x2110, 8, 1, 0x09, 0x09, .u32, .ro, .record, .num 0, [], 0, 0⟩,
  ⟨0x2110, 8, 1, 0x0A, 0x0A, .time64, .ro, .mayfly, .num 0, [], 0, 0⟩,
  ⟨0x2120, 1, 1, 0x00, 0x00, .u8, .ro, .mayfly, .num 20, [], 0, 0⟩,
  ⟨0x2120, 1, 1, 0x01, 0x01, .bool, .rws, .ember, .num 0, [(0, 1)], 0, 0⟩,
  ⟨0x2120, 1, 1, 0x02, 0x02, .u32, .rws, .ember, .num 0, [(100, 1000000)], 0, 0⟩,
  ⟨0x2120, 1, 1, 0x03, 0x03, .u32, .rws, .ember, .num 0, [(50, 100000)], 0, 0⟩,
  ⟨0x2120, 1, 1, 0x04, 0x04, .u32, .rws, .ember, .num 0, [(1000, 200000)], 0, 0⟩,
  ⟨0x2120, 1, 1, 0x05, 0x05, .ostring, .rws, .ember, .bytes (List.replicate 64 0), [], 64, 0⟩,
  ⟨0x2120, 1, 1, 0x06, 0x06, .u32, .rws, .ember, .num 0, [], 0, 0⟩,
  ⟨0x2120, 1, 1, 0x07, 0x07, .u32, .rws, .ember, .num 500, [(0, 10000)], 0, 0⟩,
  ⟨0x2120, 1, 1, 0x08, 0x08, .u32, .rws, .ember, .num 0, [], 0, 0⟩]

/-- Rows of 12_power_start.md, 0x2120.09 to 0x2121.03. -/
def rowsPowerD : List ObjRow := [
  ⟨0x2120, 1, 1, 0x09, 0x09, .u32, .rws, .ember, .num 200000, [], 0, 0⟩,
  ⟨0x2120, 1, 1, 0x0A, 0x0A, .u16, .rws, .ember, .num 30, [(5, 1440)], 0, 0⟩,
  ⟨0x2120, 1, 1, 0x0B, 0x0B, .u16, .rws, .ember, .num 900, [(500, 1000)], 0, 0⟩,
  ⟨0x2120, 1, 1, 0x0C, 0x0C, .u16, .ro, .record, .num 0, [], 0, 0⟩,
  ⟨0x2120, 1, 1, 0x0D, 0x0D, .i32, .ro, .record, .num 0, [], 0, 0⟩,
  ⟨0x2120, 1, 1, 0x0E, 0x0E, .u32, .ro, .mayfly, .num 0, [], 0, 0⟩,
  ⟨0x2120, 1, 1, 0x0F, 0x0F, .i32, .ro, .mayfly, .num 0, [], 0, 0⟩,
  ⟨0x2120, 1, 1, 0x10, 0x10, .u8, .ro, .mayfly, .num 0, [], 0, 0⟩,
  ⟨0x2120, 1, 1, 0x11, 0x11, .u16, .ro, .mayfly, .num 65535, [], 0, 0⟩,
  ⟨0x2120, 1, 1, 0x12, 0x12, .u32, .ro, .record, .num 0, [], 0, 0⟩,
  ⟨0x2120, 1, 1, 0x13, 0x13, .u32, .ro, .record, .num 0, [], 0, 0⟩,
  ⟨0x2120, 1, 1, 0x14, 0x14, .u32, .ro, .record, .num 0, [], 0, 0⟩,
  ⟨0x2121, 1, 1, 0x00, 0x00, .u8, .ro, .mayfly, .num 12, [], 0, 0⟩,
  ⟨0x2121, 1, 1, 0x01, 0x01, .u32, .rws, .ember, .num 0, [], 0, 0⟩,
  ⟨0x2121, 1, 1, 0x02, 0x02, .u32, .rws, .ember, .num 1000, [(100, 20000)], 0, 0⟩,
  ⟨0x2121, 1, 1, 0x03, 0x03, .u8, .ro, .mayfly, .num 5, [], 0, 0⟩]

/-- Rows of 12_power_start.md, 0x2121.04 to 0x2121.0C. -/
def rowsPowerE : List ObjRow := [
  ⟨0x2121, 1, 1, 0x04, 0x04, .time64, .ro, .mayfly, .num 0, [], 0, 0⟩,
  ⟨0x2121, 1, 1, 0x05, 0x05, .u32, .ro, .mayfly, .num 0, [], 0, 0⟩,
  ⟨0x2121, 1, 1, 0x06, 0x06, .u32, .ro, .record, .num 0, [], 0, 0⟩,
  ⟨0x2121, 1, 1, 0x07, 0x07, .u32, .rws, .ember, .num 2000, [(2000, 60000)], 0, 0⟩,
  ⟨0x2121, 1, 1, 0x08, 0x08, .u16, .rws, .ember, .num 90, [(10, 600)], 0, 0⟩,
  ⟨0x2121, 1, 1, 0x09, 0x09, .u16, .rws, .ember, .num 6554, [(1, 65535)], 0, 0⟩,
  ⟨0x2121, 1, 1, 0x0A, 0x0A, .u32, .ro, .mayfly, .num 65536, [], 0, 0⟩,
  ⟨0x2121, 1, 1, 0x0B, 0x0B, .u32, .ro, .mayfly, .num 0, [], 0, 0⟩,
  ⟨0x2121, 1, 1, 0x0C, 0x0C, .bool, .ro, .mayfly, .num 0, [], 0, 0⟩]

/-- All rows of the block. -/
def rowsPower : List ObjRow := rowsPowerA ++ rowsPowerB ++ rowsPowerC ++ rowsPowerD ++ rowsPowerE

/-- Rows of 08_lanes_clients.md, 0x2200.00 to 0x2200.0F. -/
def rowsLaneA : List ObjRow := [
  ⟨0x2200, 1, 1, 0x00, 0x00, .u8, .ro, .mayfly, .num 20, [], 0, 0⟩,
  ⟨0x2200, 1, 1, 0x01, 0x01, .u8, .rws, .ember, .num 16, [(1, 127)], 0, 0⟩,
  ⟨0x2200, 1, 1, 0x02, 0x02, .u8, .ro, .mayfly, .num 0, [], 0, 0⟩,
  ⟨0x2200, 1, 1, 0x03, 0x03, .u16, .rws, .ember, .num 1000, [(500, 500), (1000, 1000)], 0, 0⟩,
  ⟨0x2200, 1, 1, 0x04, 0x04, .u16, .rws, .ember, .num 2000, [(1000, 1000), (2000, 2000), (4000, 4000), (5000, 5000)], 0, 0⟩,
  ⟨0x2200, 1, 1, 0x05, 0x05, .u16, .rws, .ember, .num 800, [(700, 900)], 0, 0⟩,
  ⟨0x2200, 1, 1, 0x06, 0x06, .u16, .rws, .ember, .num 750, [(600, 850)], 0, 0⟩,
  ⟨0x2200, 1, 1, 0x07, 0x07, .u8, .rws, .ember, .num 5, [(1, 20)], 0, 0⟩,
  ⟨0x2200, 1, 1, 0x08, 0x08, .u16, .rws, .ember, .num 100, [(20, 1000)], 0, 0⟩,
  ⟨0x2200, 1, 1, 0x09, 0x09, .u16, .rws, .ember, .num 50, [(10, 999)], 0, 0⟩,
  ⟨0x2200, 1, 1, 0x0A, 0x0A, .u16, .rws, .ember, .num 1000, [(100, 10000)], 0, 0⟩,
  ⟨0x2200, 1, 1, 0x0B, 0x0B, .u8, .rws, .ember, .num 8, [(0, 0), (2, 64)], 0, 0⟩,
  ⟨0x2200, 1, 1, 0x0C, 0x0C, .u16, .rws, .ember, .num 200, [(10, 5000)], 0, 0⟩,
  ⟨0x2200, 1, 1, 0x0D, 0x0D, .u16, .rws, .ember, .num 500, [(0, 5000)], 0, 0⟩,
  ⟨0x2200, 1, 1, 0x0E, 0x0E, .u8, .ro, .mayfly, .num 0, [], 0, 0⟩,
  ⟨0x2200, 1, 1, 0x0F, 0x0F, .u8, .ro, .mayfly, .num 0, [], 0, 0⟩]

/-- Rows of 08_lanes_clients.md, 0x2200.10 to LNB(l).08. -/
def rowsLaneB : List ObjRow := [
  ⟨0x2200, 1, 1, 0x10, 0x10, .u64, .ro, .mayfly, .num 0, [], 0, 0⟩,
  ⟨0x2200, 1, 1, 0x11, 0x11, .u32, .ro, .record, .num 0, [], 0, 0⟩,
  ⟨0x2200, 1, 1, 0x12, 0x12, .u32, .ro, .mayfly, .num 0, [], 0, 0⟩,
  ⟨0x2200, 1, 1, 0x13, 0x13, .u32, .ro, .mayfly, .num 0, [], 0, 0⟩,
  ⟨0x2200, 1, 1, 0x14, 0x14, .u16, .ro, .mayfly, .num 0, [], 0, 0⟩,
  ⟨0x2208, 1, 1, 0x00, 0x00, .domain, .wo, .mayfly, .bytes [], [], 1024, 0⟩,
  ⟨0x2209, 1, 1, 0x00, 0x00, .u32, .wo, .mayfly, .num 0, [], 0, 0⟩,
  ⟨0x2201, 3, 1, 0x00, 0x00, .u8, .ro, .mayfly, .num 12, [], 0, 0⟩,
  ⟨0x2201, 3, 1, 0x01, 0x01, .u8, .rws, .ember, .num 0, [(0, 127)], 0, 0⟩,
  ⟨0x2201, 3, 1, 0x02, 0x02, .u8, .ro, .mayfly, .num 0, [], 0, 0⟩,
  ⟨0x2201, 3, 1, 0x03, 0x03, .u8, .ro, .mayfly, .num 0, [], 0, 0⟩,
  ⟨0x2201, 3, 1, 0x04, 0x04, .time64, .ro, .mayfly, .num 0, [], 0, 0⟩,
  ⟨0x2201, 3, 1, 0x05, 0x05, .u32, .ro, .mayfly, .num 0, [], 0, 0⟩,
  ⟨0x2201, 3, 1, 0x06, 0x06, .u32, .ro, .mayfly, .num 0, [], 0, 0⟩,
  ⟨0x2201, 3, 1, 0x07, 0x07, .u32, .ro, .mayfly, .num 0, [], 0, 0⟩,
  ⟨0x2201, 3, 1, 0x08, 0x08, .u32, .ro, .mayfly, .num 0, [], 0, 0⟩]

/-- Rows of 08_lanes_clients.md, LNB(l).09 to TKB(c).02. -/
def rowsLaneC : List ObjRow := [
  ⟨0x2201, 3, 1, 0x09, 0x09, .u32, .ro, .mayfly, .num 0, [], 0, 0⟩,
  ⟨0x2201, 3, 1, 0x0A, 0x0A, .u32, .ro, .record, .num 0, [], 0, 0⟩,
  ⟨0x2201, 3, 1, 0x0B, 0x0B, .u8, .ro, .mayfly, .num 0, [], 0, 0⟩,
  ⟨0x2201, 3, 1, 0x0C, 0x0C, .u32, .ro, .mayfly, .num 0, [], 0, 0⟩,
  ⟨0x2220, 32, 1, 0x00, 0x00, .u8, .ro, .mayfly, .num 8, [], 0, 0⟩,
  ⟨0x2220, 32, 1, 0x01, 0x01, .u16, .rws, .ember, .num 1000, [(10, 60000)], 0, 0⟩,
  ⟨0x2220, 32, 1, 0x02, 0x02, .ostring, .ro, .mayfly, .bytes (List.replicate 64 0), [], 64, 0⟩,
  ⟨0x2220, 32, 1, 0x03, 0x03, .u32, .ro, .mayfly, .num 1, [], 0, 0⟩,
  ⟨0x2220, 32, 1, 0x04, 0x04, .ostring, .ro, .mayfly, .bytes (List.replicate 64 0), [], 64, 0⟩,
  ⟨0x2220, 32, 1, 0x05, 0x05, .u16, .ro, .mayfly, .num 0, [], 0, 0⟩,
  ⟨0x2220, 32, 1, 0x06, 0x06, .time64, .ro, .mayfly, .num 0, [], 0, 0⟩,
  ⟨0x2220, 32, 1, 0x07, 0x07, .u32, .ro, .mayfly, .num 0, [], 0, 0⟩,
  ⟨0x2220, 32, 1, 0x08, 0x08, .u32, .ro, .record, .num 0, [], 0, 0⟩,
  ⟨0x2240, 8, 1, 0x00, 0x00, .u8, .ro, .mayfly, .num 9, [], 0, 0⟩,
  ⟨0x2240, 8, 1, 0x01, 0x01, .u16, .rws, .ember, .num 65535, [(0, 511), (65535, 65535)], 0, 0⟩,
  ⟨0x2240, 8, 1, 0x02, 0x02, .u8, .rws, .ember, .num 0, [], 0, 31⟩]

/-- Rows of 08_lanes_clients.md, TKB(c).03 to TKB(c).09. -/
def rowsLaneD : List ObjRow := [
  ⟨0x2240, 8, 1, 0x03, 0x03, .u8, .rws, .ember, .num 255, [(0, 15), (255, 255)], 0, 0⟩,
  ⟨0x2240, 8, 1, 0x04, 0x04, .u32, .wo, .mayfly, .num 0, [], 0, 0⟩,
  ⟨0x2240, 8, 1, 0x05, 0x05, .u32, .ro, .mayfly, .num 0, [], 0, 0⟩,
  ⟨0x2240, 8, 1, 0x06, 0x06, .domain, .ro, .mayfly, .bytes [], [], 1024, 0⟩,
  ⟨0x2240, 8, 1, 0x07, 0x07, .u16, .ro, .mayfly, .num 0, [], 0, 0⟩,
  ⟨0x2240, 8, 1, 0x08, 0x08, .u32, .ro, .mayfly, .num 0, [], 0, 0⟩,
  ⟨0x2240, 8, 1, 0x09, 0x09, .u32, .ro, .mayfly, .num 0, [], 0, 0⟩]

/-- All rows of the block. -/
def rowsLane : List ObjRow := rowsLaneA ++ rowsLaneB ++ rowsLaneC ++ rowsLaneD

/-- Rows of 09_ember_journal.md, 0x2300.00 to 0x2301.02. -/
def rowsEmberA : List ObjRow := [
  ⟨0x2300, 1, 1, 0x00, 0x00, .u8, .ro, .mayfly, .num 12, [], 0, 0⟩,
  ⟨0x2300, 1, 1, 0x01, 0x01, .u16, .ro, .mayfly, .num 0, [], 0, 0⟩,
  ⟨0x2300, 1, 1, 0x02, 0x02, .u16, .ro, .mayfly, .num 0, [], 0, 0⟩,
  ⟨0x2300, 1, 1, 0x03, 0x03, .u64, .ro, .mayfly, .num 0, [], 0, 0⟩,
  ⟨0x2300, 1, 1, 0x04, 0x04, .u32, .ro, .record, .num 0, [], 0, 0⟩,
  ⟨0x2300, 1, 1, 0x05, 0x05, .u32, .ro, .record, .num 0, [], 0, 0⟩,
  ⟨0x2300, 1, 1, 0x06, 0x06, .u32, .ro, .mayfly, .num 0, [], 0, 0⟩,
  ⟨0x2300, 1, 1, 0x07, 0x07, .u32, .ro, .mayfly, .num 0, [], 0, 0⟩,
  ⟨0x2300, 1, 1, 0x08, 0x08, .u16, .ro, .mayfly, .num 0, [], 0, 0⟩,
  ⟨0x2300, 1, 1, 0x09, 0x09, .u32, .ro, .record, .num 0, [], 0, 0⟩,
  ⟨0x2300, 1, 1, 0x0A, 0x0A, .u64, .ro, .record, .num 0, [], 0, 0⟩,
  ⟨0x2300, 1, 1, 0x0B, 0x0B, .u32, .ro, .record, .num 0, [], 0, 0⟩,
  ⟨0x2300, 1, 1, 0x0C, 0x0C, .u8, .ro, .mayfly, .num 0, [], 0, 0⟩,
  ⟨0x2301, 1, 1, 0x00, 0x00, .u8, .ro, .mayfly, .num 11, [], 0, 0⟩,
  ⟨0x2301, 1, 1, 0x01, 0x01, .u8, .ro, .mayfly, .num 0, [], 0, 0⟩,
  ⟨0x2301, 1, 1, 0x02, 0x02, .u8, .rws, .ember, .num 10, [(5, 60)], 0, 0⟩]

/-- Rows of 09_ember_journal.md, 0x2301.03 to 0x2302.06. -/
def rowsEmberB : List ObjRow := [
  ⟨0x2301, 1, 1, 0x03, 0x03, .time64, .ro, .mayfly, .num 0, [], 0, 0⟩,
  ⟨0x2301, 1, 1, 0x04, 0x04, .u16, .ro, .mayfly, .num 0, [], 0, 0⟩,
  ⟨0x2301, 1, 1, 0x05, 0x05, .u32, .ro, .mayfly, .num 0, [], 0, 0⟩,
  ⟨0x2301, 1, 1, 0x06, 0x06, .u16, .ro, .record, .num 0, [], 0, 0⟩,
  ⟨0x2301, 1, 1, 0x07, 0x07, .u32, .ro, .record, .num 0, [], 0, 0⟩,
  ⟨0x2301, 1, 1, 0x08, 0x08, .u32, .ro, .record, .num 0, [], 0, 0⟩,
  ⟨0x2301, 1, 1, 0x09, 0x09, .u32, .ro, .record, .num 0, [], 0, 0⟩,
  ⟨0x2301, 1, 1, 0x0A, 0x0A, .u32, .ro, .record, .num 0, [], 0, 0⟩,
  ⟨0x2301, 1, 1, 0x0B, 0x0B, .u16, .ro, .mayfly, .num 0, [], 0, 0⟩,
  ⟨0x2302, 1, 1, 0x00, 0x00, .u8, .ro, .mayfly, .num 6, [], 0, 0⟩,
  ⟨0x2302, 1, 1, 0x01, 0x01, .u8, .rws, .ember, .num 8, [(2, 64)], 0, 0⟩,
  ⟨0x2302, 1, 1, 0x02, 0x02, .u64, .ro, .record, .num 0, [], 0, 0⟩,
  ⟨0x2302, 1, 1, 0x03, 0x03, .u32, .ro, .record, .num 0, [], 0, 0⟩,
  ⟨0x2302, 1, 1, 0x04, 0x04, .u8, .ro, .mayfly, .num 0, [], 0, 0⟩,
  ⟨0x2302, 1, 1, 0x05, 0x05, .u32, .ro, .record, .num 0, [], 0, 0⟩,
  ⟨0x2302, 1, 1, 0x06, 0x06, .u16, .ro, .mayfly, .num 0, [], 0, 0⟩]

/-- Rows of 09_ember_journal.md, 0x2310.00 to JDB(j).01. -/
def rowsEmberC : List ObjRow := [
  ⟨0x2310, 1, 1, 0x00, 0x00, .u8, .ro, .mayfly, .num 13, [], 0, 0⟩,
  ⟨0x2310, 1, 1, 0x01, 0x01, .u8, .ro, .fuse, .num 1, [], 0, 0⟩,
  ⟨0x2310, 1, 1, 0x02, 0x02, .u32, .ro, .mayfly, .num 0, [], 0, 0⟩,
  ⟨0x2310, 1, 1, 0x03, 0x03, .u64, .ro, .mayfly, .num 0, [], 0, 0⟩,
  ⟨0x2310, 1, 1, 0x04, 0x04, .u64, .ro, .mayfly, .num 0, [], 0, 0⟩,
  ⟨0x2310, 1, 1, 0x05, 0x05, .u64, .ro, .mayfly, .num 0, [], 0, 0⟩,
  ⟨0x2310, 1, 1, 0x06, 0x06, .u32, .ro, .mayfly, .num 0, [], 0, 0⟩,
  ⟨0x2310, 1, 1, 0x07, 0x07, .u32, .ro, .mayfly, .num 0, [], 0, 0⟩,
  ⟨0x2310, 1, 1, 0x08, 0x08, .u32, .ro, .mayfly, .num 0, [], 0, 0⟩,
  ⟨0x2310, 1, 1, 0x09, 0x09, .u32, .ro, .mayfly, .num 0, [], 0, 0⟩,
  ⟨0x2310, 1, 1, 0x0A, 0x0A, .u32, .ro, .mayfly, .num 0, [], 0, 0⟩,
  ⟨0x2310, 1, 1, 0x0B, 0x0B, .u64, .ro, .record, .num 0, [], 0, 0⟩,
  ⟨0x2310, 1, 1, 0x0C, 0x0C, .u32, .ro, .mayfly, .num 0, [], 0, 0⟩,
  ⟨0x2310, 1, 1, 0x0D, 0x0D, .u32, .ro, .mayfly, .num 0, [], 0, 0⟩,
  ⟨0x2311, 7, 1, 0x00, 0x00, .u8, .ro, .mayfly, .num 8, [], 0, 0⟩,
  ⟨0x2311, 7, 1, 0x01, 0x01, .u8, .ro, .mayfly, .num 0, [], 0, 0⟩]

/-- Rows of 09_ember_journal.md, JDB(j).02 to 0x2330.02. -/
def rowsEmberD : List ObjRow := [
  ⟨0x2311, 7, 1, 0x02, 0x02, .u16, .ro, .record, .num 0, [], 0, 0⟩,
  ⟨0x2311, 7, 1, 0x03, 0x03, .u32, .ro, .record, .num 0, [], 0, 0⟩,
  ⟨0x2311, 7, 1, 0x04, 0x04, .u32, .ro, .record, .num 0, [], 0, 0⟩,
  ⟨0x2311, 7, 1, 0x05, 0x05, .u64, .ro, .record, .num 0, [], 0, 0⟩,
  ⟨0x2311, 7, 1, 0x06, 0x06, .u64, .ro, .record, .num 0, [], 0, 0⟩,
  ⟨0x2311, 7, 1, 0x07, 0x07, .u32, .ro, .record, .num 0, [], 0, 0⟩,
  ⟨0x2311, 7, 1, 0x08, 0x08, .u32, .ro, .mayfly, .num 0, [], 0, 0⟩,
  ⟨0x2320, 1, 1, 0x00, 0x00, .u8, .ro, .mayfly, .num 5, [], 0, 0⟩,
  ⟨0x2320, 1, 1, 0x01, 0x01, .u64, .ro, .mayfly, .num 0, [], 0, 0⟩,
  ⟨0x2320, 1, 1, 0x02, 0x02, .ostring, .ro, .mayfly, .bytes (List.replicate 32 0), [], 32, 0⟩,
  ⟨0x2320, 1, 1, 0x03, 0x03, .u32, .ro, .mayfly, .num 0, [], 0, 0⟩,
  ⟨0x2320, 1, 1, 0x04, 0x04, .u32, .ro, .record, .num 0, [], 0, 0⟩,
  ⟨0x2320, 1, 1, 0x05, 0x05, .u32, .ro, .mayfly, .num 0, [], 0, 0⟩,
  ⟨0x2330, 1, 1, 0x00, 0x00, .u8, .ro, .mayfly, .num 14, [], 0, 0⟩,
  ⟨0x2330, 1, 1, 0x01, 0x01, .ostring, .rws, .ember, .bytes (List.replicate 12 0), [], 12, 0⟩,
  ⟨0x2330, 1, 1, 0x02, 0x02, .u8, .rws, .ember, .num 0, [(0, 3)], 0, 0⟩]

/-- Rows of 09_ember_journal.md, 0x2330.03 to 0x2331.03. -/
def rowsEmberE : List ObjRow := [
  ⟨0x2330, 1, 1, 0x03, 0x03, .u32, .rws, .ember, .num 0, [], 0, 0⟩,
  ⟨0x2330, 1, 1, 0x04, 0x04, .u8, .rws, .ember, .num 10, [(0, 40)], 0, 0⟩,
  ⟨0x2330, 1, 1, 0x05, 0x05, .u16, .rws, .ember, .num 100, [(1, 1000)], 0, 0⟩,
  ⟨0x2330, 1, 1, 0x06, 0x06, .ostring, .rws, .ember, .bytes (List.replicate 16 0), [], 16, 0⟩,
  ⟨0x2330, 1, 1, 0x07, 0x07, .u32, .rws, .ember, .num 0, [], 0, 0⟩,
  ⟨0x2330, 1, 1, 0x08, 0x08, .bool, .rws, .ember, .num 0, [(0, 1)], 0, 0⟩,
  ⟨0x2330, 1, 1, 0x09, 0x09, .u8, .rw, .mayfly, .num 1, [(0, 1)], 0, 0⟩,
  ⟨0x2330, 1, 1, 0x0A, 0x0A, .u8, .wo, .mayfly, .num 0, [(1, 1)], 0, 0⟩,
  ⟨0x2330, 1, 1, 0x0B, 0x0B, .u32, .wo, .mayfly, .num 0, [], 0, 0⟩,
  ⟨0x2330, 1, 1, 0x0C, 0x0C, .u32, .wo, .mayfly, .num 0, [], 0, 0⟩,
  ⟨0x2330, 1, 1, 0x0D, 0x0D, .u32, .ro, .mayfly, .num 0, [], 0, 0⟩,
  ⟨0x2330, 1, 1, 0x0E, 0x0E, .u32, .ro, .mayfly, .num 0, [], 0, 0⟩,
  ⟨0x2331, 1, 1, 0x00, 0x00, .u8, .ro, .mayfly, .num 10, [], 0, 0⟩,
  ⟨0x2331, 1, 1, 0x01, 0x01, .u8, .ro, .mayfly, .num 0, [], 0, 0⟩,
  ⟨0x2331, 1, 1, 0x02, 0x02, .u32, .ro, .record, .num 0, [], 0, 0⟩,
  ⟨0x2331, 1, 1, 0x03, 0x03, .time64, .ro, .mayfly, .num 0, [], 0, 0⟩]

/-- Rows of 09_ember_journal.md, 0x2331.04 to 0x2340.06. -/
def rowsEmberF : List ObjRow := [
  ⟨0x2331, 1, 1, 0x04, 0x04, .u16, .ro, .mayfly, .num 0, [], 0, 0⟩,
  ⟨0x2331, 1, 1, 0x05, 0x05, .u8, .ro, .mayfly, .num 1, [], 0, 0⟩,
  ⟨0x2331, 1, 1, 0x06, 0x06, .u32, .ro, .mayfly, .num 0, [], 0, 0⟩,
  ⟨0x2331, 1, 1, 0x07, 0x07, .u32, .ro, .mayfly, .num 0, [], 0, 0⟩,
  ⟨0x2331, 1, 1, 0x08, 0x08, .u32, .ro, .mayfly, .num 0, [], 0, 0⟩,
  ⟨0x2331, 1, 1, 0x09, 0x09, .u16, .ro, .mayfly, .num 0, [], 0, 0⟩,
  ⟨0x2331, 1, 1, 0x0A, 0x0A, .u64, .ro, .mayfly, .num 0, [], 0, 0⟩,
  ⟨0x2332, 1, 1, 0x00, 0x00, .domain, .ro, .mayfly, .bytes [], [], 1024, 0⟩,
  ⟨0x2340, 1, 1, 0x00, 0x00, .u8, .ro, .mayfly, .num 6, [], 0, 0⟩,
  ⟨0x2340, 1, 1, 0x01, 0x01, .u8, .ro, .mayfly, .num 0, [], 0, 0⟩,
  ⟨0x2340, 1, 1, 0x02, 0x02, .u64, .ro, .mayfly, .num 0, [], 0, 0⟩,
  ⟨0x2340, 1, 1, 0x03, 0x03, .u64, .ro, .mayfly, .num 0, [], 0, 0⟩,
  ⟨0x2340, 1, 1, 0x04, 0x04, .u64, .ro, .mayfly, .num 0, [], 0, 0⟩,
  ⟨0x2340, 1, 1, 0x05, 0x05, .u64, .ro, .mayfly, .num 0, [], 0, 0⟩,
  ⟨0x2340, 1, 1, 0x06, 0x06, .u32, .ro, .record, .num 0, [], 0, 0⟩]

/-- All rows of the block. -/
def rowsEmber : List ObjRow := rowsEmberA ++ rowsEmberB ++ rowsEmberC ++ rowsEmberD ++ rowsEmberE ++ rowsEmberF

/-- Rows of 10_replay.md, 0x23C0.00 to 0x23C1.02. -/
def rowsReplayA : List ObjRow := [
  ⟨0x23C0, 1, 1, 0x00, 0x00, .u8, .ro, .mayfly, .num 12, [], 0, 0⟩,
  ⟨0x23C0, 1, 1, 0x01, 0x01, .u8, .ro, .mayfly, .num 0, [], 0, 0⟩,
  ⟨0x23C0, 1, 1, 0x02, 0x02, .u8, .rwm, .mayfly, .num 0, [(1, 3)], 0, 0⟩,
  ⟨0x23C0, 1, 1, 0x03, 0x03, .u8, .ro, .mayfly, .num 0, [], 0, 0⟩,
  ⟨0x23C0, 1, 1, 0x04, 0x04, .time64, .rwm, .mayfly, .num 18446744073709551615, [], 0, 0⟩,
  ⟨0x23C0, 1, 1, 0x05, 0x05, .u8, .ro, .mayfly, .num 0, [], 0, 0⟩,
  ⟨0x23C0, 1, 1, 0x06, 0x06, .time64, .ro, .mayfly, .num 0, [], 0, 0⟩,
  ⟨0x23C0, 1, 1, 0x07, 0x07, .u64, .ro, .mayfly, .num 0, [], 0, 0⟩,
  ⟨0x23C0, 1, 1, 0x08, 0x08, .u32, .ro, .mayfly, .num 0, [], 0, 0⟩,
  ⟨0x23C0, 1, 1, 0x09, 0x09, .u32, .ro, .mayfly, .num 0, [], 0, 0⟩,
  ⟨0x23C0, 1, 1, 0x0A, 0x0A, .u64, .ro, .mayfly, .num 0, [], 0, 0⟩,
  ⟨0x23C0, 1, 1, 0x0B, 0x0B, .u64, .ro, .mayfly, .num 0, [], 0, 0⟩,
  ⟨0x23C0, 1, 1, 0x0C, 0x0C, .u32, .ro, .mayfly, .num 0, [], 0, 0⟩,
  ⟨0x23C1, 1, 1, 0x00, 0x00, .u8, .ro, .mayfly, .num 7, [], 0, 0⟩,
  ⟨0x23C1, 1, 1, 0x01, 0x01, .u8, .ro, .mayfly, .num 0, [], 0, 0⟩,
  ⟨0x23C1, 1, 1, 0x02, 0x02, .time64, .ro, .mayfly, .num 0, [], 0, 0⟩]

/-- Rows of 10_replay.md, 0x23C1.03 to 0x23C3.00. -/
def rowsReplayB : List ObjRow := [
  ⟨0x23C1, 1, 1, 0x03, 0x03, .u64, .ro, .mayfly, .num 0, [], 0, 0⟩,
  ⟨0x23C1, 1, 1, 0x04, 0x04, .u64, .ro, .mayfly, .num 0, [], 0, 0⟩,
  ⟨0x23C1, 1, 1, 0x05, 0x05, .ostring, .ro, .mayfly, .bytes (List.replicate 256 0), [], 256, 0⟩,
  ⟨0x23C1, 1, 1, 0x06, 0x06, .ostring, .ro, .mayfly, .bytes (List.replicate 256 0), [], 256, 0⟩,
  ⟨0x23C1, 1, 1, 0x07, 0x07, .u8, .ro, .mayfly, .num 255, [], 0, 0⟩,
  ⟨0x23C2, 1, 1, 0x00, 0x00, .u8, .ro, .mayfly, .num 6, [], 0, 0⟩,
  ⟨0x23C2, 1, 1, 0x01, 0x01, .u32, .rwm, .mayfly, .num 0, [], 0, 0⟩,
  ⟨0x23C2, 1, 1, 0x02, 0x02, .u64, .rwm, .mayfly, .num 0, [], 0, 0⟩,
  ⟨0x23C2, 1, 1, 0x03, 0x03, .u8, .rwm, .mayfly, .num 0, [(1, 1)], 0, 0⟩,
  ⟨0x23C2, 1, 1, 0x04, 0x04, .u8, .ro, .mayfly, .num 0, [], 0, 0⟩,
  ⟨0x23C2, 1, 1, 0x05, 0x05, .u8, .ro, .mayfly, .num 0, [], 0, 0⟩,
  ⟨0x23C2, 1, 1, 0x06, 0x06, .u64, .ro, .mayfly, .num 0, [], 0, 0⟩,
  ⟨0x23C3, 1, 1, 0x00, 0x00, .domain, .ro, .record, .bytes [], [], 1024, 0⟩]

/-- All rows of the block. -/
def rowsReplay : List ObjRow := rowsReplayA ++ rowsReplayB

/-- Rows of 11_ring_variants.md, 0x2400.00 to 0x2400.0F. -/
def rowsRingA : List ObjRow := [
  ⟨0x2400, 1, 1, 0x00, 0x00, .u8, .ro, .mayfly, .num 17, [], 0, 0⟩,
  ⟨0x2400, 1, 1, 0x01, 0x01, .u8, .rws, .ember, .num 1, [(1, 16)], 0, 0⟩,
  ⟨0x2400, 1, 1, 0x02, 0x02, .u8, .ro, .mayfly, .num 0, [], 0, 0⟩,
  ⟨0x2400, 1, 1, 0x03, 0x03, .u8, .ro, .mayfly, .num 0, [], 0, 0⟩,
  ⟨0x2400, 1, 1, 0x04, 0x04, .u8, .ro, .mayfly, .num 0, [], 0, 0⟩,
  ⟨0x2400, 1, 1, 0x05, 0x05, .u8, .ro, .mayfly, .num 0, [], 0, 0⟩,
  ⟨0x2400, 1, 1, 0x06, 0x06, .bool, .ro, .mayfly, .num 0, [], 0, 0⟩,
  ⟨0x2400, 1, 1, 0x07, 0x07, .time64, .ro, .mayfly, .num 0, [], 0, 0⟩,
  ⟨0x2400, 1, 1, 0x08, 0x08, .i16, .ro, .mayfly, .num 0, [], 0, 0⟩,
  ⟨0x2400, 1, 1, 0x09, 0x09, .u8, .ro, .mayfly, .num 0, [], 0, 0⟩,
  ⟨0x2400, 1, 1, 0x0A, 0x0A, .u16, .ro, .mayfly, .num 0, [], 0, 0⟩,
  ⟨0x2400, 1, 1, 0x0B, 0x0B, .u16, .ro, .mayfly, .num 0, [], 0, 0⟩,
  ⟨0x2400, 1, 1, 0x0C, 0x0C, .time64, .ro, .mayfly, .num 0, [], 0, 0⟩,
  ⟨0x2400, 1, 1, 0x0D, 0x0D, .u32, .ro, .mayfly, .num 0, [], 0, 0⟩,
  ⟨0x2400, 1, 1, 0x0E, 0x0E, .u32, .ro, .mayfly, .num 0, [], 0, 0⟩,
  ⟨0x2400, 1, 1, 0x0F, 0x0F, .u32, .ro, .mayfly, .num 0, [], 0, 0⟩]

/-- Rows of 11_ring_variants.md, 0x2400.10 to PSB(P).07. -/
def rowsRingB : List ObjRow := [
  ⟨0x2400, 1, 1, 0x10, 0x10, .u32, .ro, .record, .num 0, [], 0, 0⟩,
  ⟨0x2400, 1, 1, 0x11, 0x11, .u32, .ro, .record, .num 0, [], 0, 0⟩,
  ⟨0x2401, 2, 1, 0x00, 0x00, .u8, .ro, .mayfly, .num 5, [], 0, 0⟩,
  ⟨0x2401, 2, 1, 0x01, 0x01, .u8, .ro, .mayfly, .num 0, [], 0, 0⟩,
  ⟨0x2401, 2, 1, 0x02, 0x02, .u32, .ro, .mayfly, .num 0, [], 0, 0⟩,
  ⟨0x2401, 2, 1, 0x03, 0x03, .u32, .ro, .mayfly, .num 0, [], 0, 0⟩,
  ⟨0x2401, 2, 1, 0x04, 0x04, .time64, .ro, .mayfly, .num 0, [], 0, 0⟩,
  ⟨0x2401, 2, 1, 0x05, 0x05, .u32, .ro, .record, .num 0, [], 0, 0⟩,
  ⟨0x2410, 16, 1, 0x00, 0x00, .u8, .ro, .mayfly, .num 8, [], 0, 0⟩,
  ⟨0x2410, 16, 1, 0x01, 0x01, .u8, .ro, .mayfly, .num 0, [], 0, 0⟩,
  ⟨0x2410, 16, 1, 0x02, 0x02, .u8, .ro, .mayfly, .num 0, [], 0, 0⟩,
  ⟨0x2410, 16, 1, 0x03, 0x03, .u64, .ro, .mayfly, .num 0, [], 0, 0⟩,
  ⟨0x2410, 16, 1, 0x04, 0x04, .u8, .ro, .mayfly, .num 0, [], 0, 0⟩,
  ⟨0x2410, 16, 1, 0x05, 0x05, .ostring, .ro, .mayfly, .bytes (List.replicate 8 0), [], 8, 0⟩,
  ⟨0x2410, 16, 1, 0x06, 0x06, .ostring, .ro, .mayfly, .bytes (List.replicate 8 0), [], 8, 0⟩,
  ⟨0x2410, 16, 1, 0x07, 0x07, .time64, .ro, .mayfly, .num 0, [], 0, 0⟩]

/-- Rows of 11_ring_variants.md, PSB(P).08 to 0x2440.06. -/
def rowsRingC : List ObjRow := [
  ⟨0x2410, 16, 1, 0x08, 0x08, .u8, .ro, .mayfly, .num 0, [], 0, 0⟩,
  ⟨0x2430, 1, 1, 0x00, 0x00, .u8, .ro, .mayfly, .num 3, [], 0, 0⟩,
  ⟨0x2430, 1, 1, 0x01, 0x01, .u8, .ro, .fuse, .num 1, [], 0, 0⟩,
  ⟨0x2430, 1, 1, 0x02, 0x02, .vstring, .ro, .fuse, .bytes [0x55, 0x4E, 0x39, 0x36, 0x38, 0x2D, 0x4A, 0x31], [], 8, 0⟩,
  ⟨0x2430, 1, 1, 0x03, 0x03, .u8, .rws, .ember, .num 0, [(0, 7)], 0, 0⟩,
  ⟨0x2431, 1, 1, 0x00, 0x00, .u8, .ro, .mayfly, .num 3, [], 0, 0⟩,
  ⟨0x2431, 1, 1, 0x01, 0x01, .u8, .ro, .mayfly, .num 0, [], 0, 0⟩,
  ⟨0x2431, 1, 1, 0x02, 0x02, .u32, .ro, .mayfly, .num 0, [], 0, 0⟩,
  ⟨0x2431, 1, 1, 0x03, 0x03, .u32, .ro, .record, .num 0, [], 0, 0⟩,
  ⟨0x2440, 1, 1, 0x00, 0x00, .u8, .ro, .mayfly, .num 16, [], 0, 0⟩,
  ⟨0x2440, 1, 1, 0x01, 0x01, .u32, .ro, .record, .num 0, [], 0, 0⟩,
  ⟨0x2440, 1, 1, 0x02, 0x02, .ostring, .ro, .record, .bytes (List.replicate 32 0), [], 32, 0⟩,
  ⟨0x2440, 1, 1, 0x03, 0x03, .u8, .wo, .mayfly, .num 0, [(1, 3)], 0, 0⟩,
  ⟨0x2440, 1, 1, 0x04, 0x04, .u8, .ro, .mayfly, .num 0, [], 0, 0⟩,
  ⟨0x2440, 1, 1, 0x05, 0x05, .ostring, .ro, .mayfly, .bytes (List.replicate 32 0), [], 32, 0⟩,
  ⟨0x2440, 1, 1, 0x06, 0x06, .u16, .ro, .mayfly, .num 0, [], 0, 0⟩]

/-- Rows of 11_ring_variants.md, 0x2440.07 to 0x2440.10. -/
def rowsRingD : List ObjRow := [
  ⟨0x2440, 1, 1, 0x07, 0x07, .u32, .ro, .mayfly, .num 0, [], 0, 0⟩,
  ⟨0x2440, 1, 1, 0x08, 0x08, .ostring, .wo, .mayfly, .bytes (List.replicate 48 0), [], 48, 0⟩,
  ⟨0x2440, 1, 1, 0x09, 0x09, .u32, .wo, .mayfly, .num 0, [], 0, 0⟩,
  ⟨0x2440, 1, 1, 0x0A, 0x0A, .u32, .ro, .mayfly, .num 0, [], 0, 0⟩,
  ⟨0x2440, 1, 1, 0x0B, 0x0B, .time64, .ro, .mayfly, .num 0, [], 0, 0⟩,
  ⟨0x2440, 1, 1, 0x0C, 0x0C, .u32, .ro, .record, .num 0, [], 0, 0⟩,
  ⟨0x2440, 1, 1, 0x0D, 0x0D, .ostring, .ro, .record, .bytes (List.replicate 32 0), [], 32, 0⟩,
  ⟨0x2440, 1, 1, 0x0E, 0x0E, .time64, .ro, .mayfly, .num 0, [], 0, 0⟩,
  ⟨0x2440, 1, 1, 0x0F, 0x0F, .u16, .ro, .mayfly, .num 1, [], 0, 0⟩,
  ⟨0x2440, 1, 1, 0x10, 0x10, .u32, .ro, .record, .num 0, [], 0, 0⟩]

/-- All rows of the block. -/
def rowsRing : List ObjRow := rowsRingA ++ rowsRingB ++ rowsRingC ++ rowsRingD

/-- Rows of 13_lifecycle_firmware.md, 0x2500.00 to 0x2501.06. -/
def rowsLifeA : List ObjRow := [
  ⟨0x2500, 1, 1, 0x00, 0x00, .u8, .ro, .mayfly, .num 8, [], 0, 0⟩,
  ⟨0x2500, 1, 1, 0x01, 0x01, .u8, .ro, .fuse, .num 1, [], 0, 0⟩,
  ⟨0x2500, 1, 1, 0x02, 0x02, .u8, .ro, .mayfly, .num 0, [], 0, 0⟩,
  ⟨0x2500, 1, 1, 0x03, 0x03, .u8, .ro, .fuse, .num 1, [], 0, 0⟩,
  ⟨0x2500, 1, 1, 0x04, 0x04, .ostring, .wo, .mayfly, .bytes (List.replicate 8 0), [], 8, 0⟩,
  ⟨0x2500, 1, 1, 0x05, 0x05, .u8, .ro, .mayfly, .num 255, [], 0, 0⟩,
  ⟨0x2500, 1, 1, 0x06, 0x06, .u8, .wo, .mayfly, .num 0, [(0, 1)], 0, 0⟩,
  ⟨0x2500, 1, 1, 0x07, 0x07, .u16, .rws, .ember, .num 480, [(10, 1440)], 0, 0⟩,
  ⟨0x2500, 1, 1, 0x08, 0x08, .ostring, .ro, .fuse, .bytes ([1, 0, 0, 7, 1, 0, 0, 7] ++ List.replicate 120 0), [], 128, 0⟩,
  ⟨0x2501, 1, 1, 0x00, 0x00, .u8, .ro, .mayfly, .num 8, [], 0, 0⟩,
  ⟨0x2501, 1, 1, 0x01, 0x01, .u8, .ro, .fuse, .num 0, [], 0, 0⟩,
  ⟨0x2501, 1, 1, 0x02, 0x02, .u8, .ro, .fuse, .num 255, [], 0, 0⟩,
  ⟨0x2501, 1, 1, 0x03, 0x03, .ostring, .wo, .mayfly, .bytes (List.replicate 32 0), [], 32, 0⟩,
  ⟨0x2501, 1, 1, 0x04, 0x04, .u8, .ro, .fuse, .num 3, [], 0, 0⟩,
  ⟨0x2501, 1, 1, 0x05, 0x05, .u8, .ro, .mayfly, .num 0, [], 0, 0⟩,
  ⟨0x2501, 1, 1, 0x06, 0x06, .u32, .ro, .record, .num 0, [], 0, 0⟩]

/-- Rows of 13_lifecycle_firmware.md, 0x2501.07 to 0x2511–0x2512.01. -/
def rowsLifeB : List ObjRow := [
  ⟨0x2501, 1, 1, 0x07, 0x07, .u16, .ro, .mayfly, .num 0, [], 0, 0⟩,
  ⟨0x2501, 1, 1, 0x08, 0x08, .u16, .rws, .ember, .num 600, [(60, 3600)], 0, 0⟩,
  ⟨0x2510, 1, 1, 0x00, 0x00, .u8, .ro, .mayfly, .num 11, [], 0, 0⟩,
  ⟨0x2510, 1, 1, 0x01, 0x01, .u8, .ro, .mayfly, .num 0, [], 0, 0⟩,
  ⟨0x2510, 1, 1, 0x02, 0x02, .u32, .ro, .mayfly, .num 0, [], 0, 0⟩,
  ⟨0x2510, 1, 1, 0x03, 0x03, .u8, .ro, .fuse, .num 0, [], 0, 0⟩,
  ⟨0x2510, 1, 1, 0x04, 0x04, .u8, .ro, .mayfly, .num 0, [], 0, 0⟩,
  ⟨0x2510, 1, 1, 0x05, 0x05, .u16, .ro, .mayfly, .num 0, [], 0, 0⟩,
  ⟨0x2510, 1, 1, 0x06, 0x06, .u32, .wo, .mayfly, .num 0, [], 0, 0⟩,
  ⟨0x2510, 1, 1, 0x07, 0x07, .bool, .ro, .mayfly, .num 0, [], 0, 0⟩,
  ⟨0x2510, 1, 1, 0x08, 0x08, .u8, .ro, .mayfly, .num 0, [], 0, 0⟩,
  ⟨0x2510, 1, 1, 0x09, 0x09, .u32, .ro, .record, .num 0, [], 0, 0⟩,
  ⟨0x2510, 1, 1, 0x0A, 0x0A, .u32, .ro, .record, .num 0, [], 0, 0⟩,
  ⟨0x2510, 1, 1, 0x0B, 0x0B, .u8, .ro, .mayfly, .num 0, [], 0, 0⟩,
  ⟨0x2511, 2, 1, 0x00, 0x00, .u8, .ro, .mayfly, .num 6, [], 0, 0⟩,
  ⟨0x2511, 2, 1, 0x01, 0x01, .u8, .ro, .mayfly, .num 0, [], 0, 0⟩]

/-- Rows of 13_lifecycle_firmware.md, 0x2511–0x2512.02 to 0x2520.02. -/
def rowsLifeC : List ObjRow := [
  ⟨0x2511, 2, 1, 0x02, 0x02, .u32, .ro, .mayfly, .num 0, [], 0, 0⟩,
  ⟨0x2511, 2, 1, 0x03, 0x03, .u8, .ro, .mayfly, .num 0, [], 0, 0⟩,
  ⟨0x2511, 2, 1, 0x04, 0x04, .u16, .ro, .mayfly, .num 0, [], 0, 0⟩,
  ⟨0x2511, 2, 1, 0x05, 0x05, .u16, .ro, .mayfly, .num 0, [], 0, 0⟩,
  ⟨0x2511, 2, 1, 0x06, 0x06, .ostring, .ro, .mayfly, .bytes (List.replicate 32 0), [], 32, 0⟩,
  ⟨0x2520, 1, 1, 0x00, 0x00, .u8, .ro, .mayfly, .num 2, [], 0, 0⟩,
  ⟨0x2520, 1, 1, 0x01, 0x01, .u8, .wo, .mayfly, .num 0, [(1, 4)], 0, 0⟩,
  ⟨0x2520, 1, 1, 0x02, 0x02, .u32, .ro, .mayfly, .num 0, [], 0, 0⟩]

/-- All rows of the block. -/
def rowsLife : List ObjRow := rowsLifeA ++ rowsLifeB ++ rowsLifeC

/-- Rows of 14_selftest.md, 0x2580.00 to 0x2581.02. -/
def rowsTestA : List ObjRow := [
  ⟨0x2580, 1, 1, 0x00, 0x00, .u8, .ro, .mayfly, .num 12, [], 0, 0⟩,
  ⟨0x2580, 1, 1, 0x01, 0x01, .u8, .rws, .ember, .num 0, [(0, 1)], 0, 0⟩,
  ⟨0x2580, 1, 1, 0x02, 0x02, .u8, .ro, .mayfly, .num 0, [], 0, 0⟩,
  ⟨0x2580, 1, 1, 0x03, 0x03, .u8, .ro, .mayfly, .num 1, [], 0, 0⟩,
  ⟨0x2580, 1, 1, 0x04, 0x04, .u32, .ro, .mayfly, .num 0, [], 0, 0⟩,
  ⟨0x2580, 1, 1, 0x05, 0x05, .u32, .ro, .record, .num 0, [], 0, 0⟩,
  ⟨0x2580, 1, 1, 0x06, 0x06, .u32, .ro, .mayfly, .num 0, [], 0, 0⟩,
  ⟨0x2580, 1, 1, 0x07, 0x07, .u16, .ro, .mayfly, .num 100, [], 0, 0⟩,
  ⟨0x2580, 1, 1, 0x08, 0x08, .u32, .ro, .mayfly, .num 0, [], 0, 0⟩,
  ⟨0x2580, 1, 1, 0x09, 0x09, .ostring, .ro, .mayfly, .bytes (List.replicate 12 0), [], 12, 0⟩,
  ⟨0x2580, 1, 1, 0x0A, 0x0A, .u8, .ro, .mayfly, .num 0, [], 0, 0⟩,
  ⟨0x2580, 1, 1, 0x0B, 0x0B, .u32, .ro, .mayfly, .num 0, [], 0, 0⟩,
  ⟨0x2580, 1, 1, 0x0C, 0x0C, .u32, .ro, .record, .num 0, [], 0, 0⟩,
  ⟨0x2581, 1, 1, 0x00, 0x00, .u8, .ro, .mayfly, .num 3, [], 0, 0⟩,
  ⟨0x2581, 1, 1, 0x01, 0x01, .u8, .ro, .mayfly, .num 16, [], 0, 0⟩,
  ⟨0x2581, 1, 1, 0x02, 0x02, .ostring, .ro, .fuse, .bytes (List.replicate 64 0), [], 64, 0⟩]

/-- Rows of 14_selftest.md, 0x2581.03 to 0x2590.08. -/
def rowsTestB : List ObjRow := [
  ⟨0x2581, 1, 1, 0x03, 0x03, .u16, .ro, .mayfly, .num 4096, [], 0, 0⟩,
  ⟨0x2582, 1, 1, 0x00, 0x00, .u8, .ro, .mayfly, .num 5, [], 0, 0⟩,
  ⟨0x2582, 1, 1, 0x01, 0x01, .u8, .wo, .mayfly, .num 0, [(1, 2)], 0, 0⟩,
  ⟨0x2582, 1, 1, 0x02, 0x02, .u8, .ro, .mayfly, .num 0, [], 0, 0⟩,
  ⟨0x2582, 1, 1, 0x03, 0x03, .u16, .ro, .mayfly, .num 0, [], 0, 0⟩,
  ⟨0x2582, 1, 1, 0x04, 0x04, .u32, .ro, .mayfly, .num 0, [], 0, 0⟩,
  ⟨0x2582, 1, 1, 0x05, 0x05, .u32, .ro, .fuse, .num 0, [], 0, 0⟩,
  ⟨0x2590, 1, 1, 0x00, 0x00, .u8, .ro, .mayfly, .num 10, [], 0, 0⟩,
  ⟨0x2590, 1, 1, 0x01, 0x01, .u8, .rwm, .mayfly, .num 0, [(0, 5)], 0, 0⟩,
  ⟨0x2590, 1, 1, 0x02, 0x02, .u8, .rwm, .mayfly, .num 0, [], 0, 0⟩,
  ⟨0x2590, 1, 1, 0x03, 0x03, .u8, .rwm, .mayfly, .num 1, [(0, 2)], 0, 0⟩,
  ⟨0x2590, 1, 1, 0x04, 0x04, .u32, .rwm, .mayfly, .num 1000, [(1, 3600000)], 0, 0⟩,
  ⟨0x2590, 1, 1, 0x05, 0x05, .u8, .wo, .mayfly, .num 0, [(1, 2)], 0, 0⟩,
  ⟨0x2590, 1, 1, 0x06, 0x06, .u8, .ro, .mayfly, .num 0, [], 0, 0⟩,
  ⟨0x2590, 1, 1, 0x07, 0x07, .u64, .ro, .mayfly, .num 0, [], 0, 0⟩,
  ⟨0x2590, 1, 1, 0x08, 0x08, .u64, .ro, .mayfly, .num 0, [], 0, 0⟩]

/-- Rows of 14_selftest.md, 0x2590.09 to 0x2590.0A. -/
def rowsTestC : List ObjRow := [
  ⟨0x2590, 1, 1, 0x09, 0x09, .u32, .ro, .mayfly, .num 0, [], 0, 0⟩,
  ⟨0x2590, 1, 1, 0x0A, 0x0A, .u32, .ro, .record, .num 0, [], 0, 0⟩]

/-- All rows of the block. -/
def rowsTest : List ObjRow := rowsTestA ++ rowsTestB ++ rowsTestC

/-- Rows of 15_field_inputs.md, 0x2600.00 to FIB(k).0B. -/
def rowsFinA : List ObjRow := [
  ⟨0x2600, 1, 1, 0x00, 0x00, .u8, .ro, .mayfly, .num 3, [], 0, 0⟩,
  ⟨0x2600, 1, 1, 0x01, 0x01, .u32, .ro, .mayfly, .num 0, [], 0, 0⟩,
  ⟨0x2600, 1, 1, 0x02, 0x02, .u32, .ro, .mayfly, .num 0, [], 0, 0⟩,
  ⟨0x2600, 1, 1, 0x03, 0x03, .u32, .ro, .mayfly, .num 0, [], 0, 0⟩,
  ⟨0x2610, 32, 1, 0x00, 0x00, .u8, .ro, .mayfly, .num 14, [], 0, 0⟩,
  ⟨0x2610, 32, 1, 0x01, 0x01, .u8, .rws, .ember, .num 0, [(0, 2)], 0, 0⟩,
  ⟨0x2610, 32, 1, 0x02, 0x02, .u8, .rws, .ember, .num 24, [(24, 24), (72, 72), (110, 110)], 0, 0⟩,
  ⟨0x2610, 32, 1, 0x03, 0x03, .u32, .rws, .ember, .num 0, [(0, 100000)], 0, 0⟩,
  ⟨0x2610, 32, 1, 0x04, 0x04, .u32, .rws, .ember, .num 5000, [(20, 1000000)], 0, 0⟩,
  ⟨0x2610, 32, 1, 0x05, 0x05, .u16, .rws, .ember, .num 200, [(0, 0), (20, 1000)], 0, 0⟩,
  ⟨0x2610, 32, 1, 0x06, 0x06, .u16, .rws, .ember, .num 100, [(10, 10000)], 0, 0⟩,
  ⟨0x2610, 32, 1, 0x07, 0x07, .bool, .rws, .ember, .num 0, [(0, 1)], 0, 0⟩,
  ⟨0x2610, 32, 1, 0x08, 0x08, .vstring, .rws, .ember, .bytes [], [], 16, 0⟩,
  ⟨0x2610, 32, 1, 0x09, 0x09, .u8, .ro, .mayfly, .num 4, [], 0, 0⟩,
  ⟨0x2610, 32, 1, 0x0A, 0x0A, .u32, .ro, .mayfly, .num 0, [], 0, 0⟩,
  ⟨0x2610, 32, 1, 0x0B, 0x0B, .u32, .ro, .mayfly, .num 0, [], 0, 0⟩]

/-- Rows of 15_field_inputs.md, FIB(k).0C to FIB(k).0E. -/
def rowsFinB : List ObjRow := [
  ⟨0x2610, 32, 1, 0x0C, 0x0C, .time64, .ro, .mayfly, .num 0, [], 0, 0⟩,
  ⟨0x2610, 32, 1, 0x0D, 0x0D, .u32, .ro, .record, .num 0, [], 0, 0⟩,
  ⟨0x2610, 32, 1, 0x0E, 0x0E, .u32, .ro, .record, .num 0, [], 0, 0⟩]

/-- All rows of the block. -/
def rowsFin : List ObjRow := rowsFinA ++ rowsFinB

/-- Rows of 07_effects.md, PEB(e).00 to 0x2710.00. -/
def rowsEffectA : List ObjRow := [
  ⟨0x2700, 16, 1, 0x00, 0x00, .u8, .ro, .mayfly, .num 31, [], 0, 0⟩,
  ⟨0x2700, 16, 1, 0x01, 0x01, .u8, .rws, .ember, .num 0, [(0, 23)], 0, 0⟩,
  ⟨0x2700, 16, 1, 0x02, 0x02, .u16, .rws, .ember, .num 10, [(1, 10000)], 0, 0⟩,
  ⟨0x2700, 16, 1, 0x03, 0x03, .u8, .rws, .ember, .num 0, [(0, 15)], 0, 0⟩,
  ⟨0x2700, 16, 1, 0x04, 0x04, .u16, .rws, .ember, .num 65535, [(0, 511), (65535, 65535)], 0, 0⟩,
  ⟨0x2700, 16, 1, 0x05, 0x05, .u8, .wo, .mayfly, .num 0, [(1, 2)], 0, 0⟩,
  ⟨0x2700, 16, 1, 0x06, 0x06, .u8, .wo, .mayfly, .num 0, [(0, 15)], 0, 0⟩,
  ⟨0x2700, 16, 1, 0x07, 0x07, .u8, .ro, .mayfly, .num 0, [], 0, 0⟩,
  ⟨0x2700, 16, 1, 0x08, 0x08, .u8, .ro, .mayfly, .num 0, [], 0, 0⟩,
  ⟨0x2700, 16, 1, 0x09, 0x09, .u16, .ro, .mayfly, .num 0, [], 0, 0⟩,
  ⟨0x2700, 16, 1, 0x0A, 0x0A, .time64, .ro, .mayfly, .num 0, [], 0, 0⟩,
  ⟨0x2700, 16, 1, 0x0B, 0x0B, .u8, .ro, .mayfly, .num 255, [], 0, 0⟩,
  ⟨0x2700, 16, 1, 0x0C, 0x0C, .u32, .ro, .mayfly, .num 0, [], 0, 0⟩,
  ⟨0x2700, 16, 1, 0x0D, 0x0D, .ostring, .ro, .mayfly, .bytes (List.replicate 16 0), [], 16, 0⟩,
  ⟨0x2700, 16, 1, 0x10, 0x1F, .u64, .rws, .ember, .num 0, [], 0, 0xFFFFFFF0FFFFFFFF⟩,
  ⟨0x2710, 1, 1, 0x00, 0x00, .u8, .ro, .mayfly, .num 96, [], 0, 0⟩]

/-- Rows of 07_effects.md, 0x2710.01–.60 to GWB(k).0C. -/
def rowsEffectB : List ObjRow := [
  ⟨0x2710, 1, 1, 0x01, 0x60, .u8, .rw, .mayfly, .num 255, [(0, 15), (255, 255)], 0, 0⟩,
  ⟨0x2711, 1, 1, 0x00, 0x00, .u8, .ro, .mayfly, .num 96, [], 0, 0⟩,
  ⟨0x2711, 1, 1, 0x01, 0x60, .u8, .rws, .ember, .num 0, [(0, 7)], 0, 0⟩,
  ⟨0x2720, 8, 1, 0x00, 0x00, .u8, .ro, .mayfly, .num 17, [], 0, 0⟩,
  ⟨0x2720, 8, 1, 0x01, 0x01, .u8, .rws, .ember, .num 0, [(0, 2)], 0, 0⟩,
  ⟨0x2720, 8, 1, 0x02, 0x02, .u16, .rws, .ember, .num 1, [(1, 256)], 0, 0⟩,
  ⟨0x2720, 8, 1, 0x03, 0x03, .u8, .rws, .ember, .num 24, [(24, 24), (32, 32)], 0, 0⟩,
  ⟨0x2720, 8, 1, 0x04, 0x04, .u16, .rws, .ember, .num 50, [(10, 400)], 0, 0⟩,
  ⟨0x2720, 8, 1, 0x05, 0x05, .u16, .rws, .ember, .num 300, [(50, 2000)], 0, 0⟩,
  ⟨0x2720, 8, 1, 0x06, 0x06, .u16, .rws, .ember, .num 65535, [(0, 511), (65535, 65535)], 0, 0⟩,
  ⟨0x2720, 8, 1, 0x07, 0x07, .u8, .rws, .ember, .num 255, [(0, 127), (255, 255)], 0, 0⟩,
  ⟨0x2720, 8, 1, 0x08, 0x08, .u8, .rws, .ember, .num 2, [(1, 15)], 0, 0⟩,
  ⟨0x2720, 8, 1, 0x09, 0x09, .domain, .rw, .mayfly, .bytes [], [], 1024, 0⟩,
  ⟨0x2720, 8, 1, 0x0A, 0x0A, .u8, .wo, .mayfly, .num 0, [(1, 1)], 0, 0⟩,
  ⟨0x2720, 8, 1, 0x0B, 0x0B, .u8, .ro, .mayfly, .num 0, [], 0, 0⟩,
  ⟨0x2720, 8, 1, 0x0C, 0x0C, .u32, .ro, .mayfly, .num 0, [], 0, 0⟩]

/-- Rows of 07_effects.md, GWB(k).0D to 0x2730.0A. -/
def rowsEffectC : List ObjRow := [
  ⟨0x2720, 8, 1, 0x0D, 0x0D, .u32, .ro, .mayfly, .num 0, [], 0, 0⟩,
  ⟨0x2720, 8, 1, 0x0E, 0x0E, .u64, .ro, .mayfly, .num 0, [], 0, 0⟩,
  ⟨0x2720, 8, 1, 0x0F, 0x0F, .u32, .ro, .record, .num 0, [], 0, 0⟩,
  ⟨0x2720, 8, 1, 0x10, 0x10, .u8, .ro, .mayfly, .num 0, [], 0, 0⟩,
  ⟨0x2720, 8, 1, 0x11, 0x11, .bool, .ro, .mayfly, .num 0, [], 0, 0⟩,
  ⟨0x2730, 1, 1, 0x00, 0x00, .u8, .ro, .mayfly, .num 20, [], 0, 0⟩,
  ⟨0x2730, 1, 1, 0x01, 0x01, .u8, .rws, .ember, .num 0, [(0, 16)], 0, 0⟩,
  ⟨0x2730, 1, 1, 0x02, 0x02, .u8, .rws, .ember, .num 32, [(1, 32)], 0, 0⟩,
  ⟨0x2730, 1, 1, 0x03, 0x03, .u16, .rws, .ember, .num 200, [(100, 400)], 0, 0⟩,
  ⟨0x2730, 1, 1, 0x04, 0x04, .u8, .rws, .ember, .num 0, [(0, 2)], 0, 0⟩,
  ⟨0x2730, 1, 1, 0x05, 0x05, .u16, .rws, .ember, .num 0, [(0, 9999)], 0, 0⟩,
  ⟨0x2730, 1, 1, 0x06, 0x06, .u8, .rws, .ember, .num 4, [(2, 20)], 0, 0⟩,
  ⟨0x2730, 1, 1, 0x07, 0x07, .u32, .rws, .ember, .num 10000, [(1000, 25000)], 0, 0⟩,
  ⟨0x2730, 1, 1, 0x08, 0x08, .u16, .rws, .ember, .num 500, [(100, 900)], 0, 0⟩,
  ⟨0x2730, 1, 1, 0x09, 0x09, .u16, .rws, .ember, .num 1300, [(1100, 3000)], 0, 0⟩,
  ⟨0x2730, 1, 1, 0x0A, 0x0A, .u8, .rws, .ember, .num 3, [(1, 15)], 0, 0⟩]

/-- Rows of 07_effects.md, 0x2730.0B to 0x2731.01–.10. -/
def rowsEffectD : List ObjRow := [
  ⟨0x2730, 1, 1, 0x0B, 0x0B, .u8, .rws, .ember, .num 64, [(0, 0), (16, 255)], 0, 0⟩,
  ⟨0x2730, 1, 1, 0x0C, 0x0C, .ostring, .rws, .ember, .bytes (List.replicate 32 0xFF), [], 32, 0⟩,
  ⟨0x2730, 1, 1, 0x0E, 0x0E, .u8, .wo, .mayfly, .num 0, [(1, 1)], 0, 0⟩,
  ⟨0x2730, 1, 1, 0x0F, 0x0F, .u8, .ro, .mayfly, .num 0, [], 0, 0⟩,
  ⟨0x2730, 1, 1, 0x10, 0x10, .u32, .ro, .mayfly, .num 0, [], 0, 0⟩,
  ⟨0x2730, 1, 1, 0x11, 0x11, .ostring, .ro, .mayfly, .bytes (List.replicate 64 0), [], 64, 0⟩,
  ⟨0x2730, 1, 1, 0x12, 0x12, .ostring, .ro, .mayfly, .bytes (List.replicate 64 0), [], 64, 0⟩,
  ⟨0x2730, 1, 1, 0x13, 0x13, .u64, .ro, .mayfly, .num 0, [], 0, 0⟩,
  ⟨0x2730, 1, 1, 0x14, 0x14, .u32, .ro, .record, .num 0, [], 0, 0⟩,
  ⟨0x2731, 1, 1, 0x00, 0x00, .u8, .ro, .mayfly, .num 16, [], 0, 0⟩,
  ⟨0x2731, 1, 1, 0x01, 0x10, .ostring, .rw, .mayfly, .bytes (List.replicate 32 0), [], 32, 0⟩]

/-- All rows of the block. -/
def rowsEffect : List ObjRow := rowsEffectA ++ rowsEffectB ++ rowsEffectC ++ rowsEffectD

/-- Rows of 02_lamp_channels.md, PFB(p).00 to PFB(p).0F. -/
def rowsProfileA : List ObjRow := [
  ⟨0x2800, 64, 1, 0x00, 0x00, .u8, .ro, .mayfly, .num 95, [], 0, 0⟩,
  ⟨0x2800, 64, 1, 0x01, 0x01, .vstring, .rws, .ember, .bytes [], [], 16, 0⟩,
  ⟨0x2800, 64, 1, 0x02, 0x02, .u8, .rws, .ember, .num 0, [(0, 3)], 0, 0⟩,
  ⟨0x2800, 64, 1, 0x03, 0x03, .u8, .rws, .ember, .num 0, [(0, 2)], 0, 0⟩,
  ⟨0x2800, 64, 1, 0x04, 0x04, .u8, .rws, .ember, .num 1, [], 0, 7⟩,
  ⟨0x2800, 64, 1, 0x05, 0x05, .u32, .rws, .ember, .num 0, [(1000, 10000000)], 0, 0⟩,
  ⟨0x2800, 64, 1, 0x06, 0x06, .u16, .rws, .ember, .num 300, [(100, 600)], 0, 0⟩,
  ⟨0x2800, 64, 1, 0x07, 0x07, .u32, .rws, .ember, .num 0, [], 0, 0⟩,
  ⟨0x2800, 64, 1, 0x08, 0x08, .u32, .rws, .ember, .num 0, [], 0, 0⟩,
  ⟨0x2800, 64, 1, 0x09, 0x09, .u32, .rws, .ember, .num 0, [], 0, 0⟩,
  ⟨0x2800, 64, 1, 0x0A, 0x0A, .u16, .rws, .ember, .num 100, [(10, 1000)], 0, 0⟩,
  ⟨0x2800, 64, 1, 0x0B, 0x0B, .u32, .rws, .ember, .num 0, [], 0, 0⟩,
  ⟨0x2800, 64, 1, 0x0C, 0x0C, .u32, .rws, .ember, .num 0, [(0, 1000000)], 0, 0⟩,
  ⟨0x2800, 64, 1, 0x0D, 0x0D, .bool, .rws, .ember, .num 0, [(0, 1)], 0, 0⟩,
  ⟨0x2800, 64, 1, 0x0E, 0x0E, .u32, .rws, .ember, .num 0, [], 0, 0⟩,
  ⟨0x2800, 64, 1, 0x0F, 0x0F, .u16, .rws, .ember, .num 655, [(1, 65535)], 0, 0⟩]

/-- Rows of 02_lamp_channels.md, 04_supervision.md, PFB(p).10 to PFB(p).2E. -/
def rowsProfileB : List ObjRow := [
  ⟨0x2800, 64, 1, 0x10, 0x10, .u32, .rws, .ember, .num 0, [], 0, 0⟩,
  ⟨0x2800, 64, 1, 0x20, 0x20, .u16, .rws, .ember, .num 800, [(100, 1000)], 0, 0⟩,
  ⟨0x2800, 64, 1, 0x21, 0x21, .u16, .rws, .ember, .num 1250, [(1000, 3000)], 0, 0⟩,
  ⟨0x2800, 64, 1, 0x22, 0x22, .u16, .rws, .ember, .num 50, [(10, 500)], 0, 0⟩,
  ⟨0x2800, 64, 1, 0x23, 0x23, .u16, .rws, .ember, .num 1150, [(1050, 2000)], 0, 0⟩,
  ⟨0x2800, 64, 1, 0x24, 0x24, .u32, .rws, .ember, .num 1000, [(100, 1000000)], 0, 0⟩,
  ⟨0x2800, 64, 1, 0x25, 0x25, .u16, .rws, .ember, .num 200, [(0, 2000)], 0, 0⟩,
  ⟨0x2800, 64, 1, 0x26, 0x26, .u32, .rws, .ember, .num 2000, [(100, 50000)], 0, 0⟩,
  ⟨0x2800, 64, 1, 0x27, 0x27, .u8, .rws, .ember, .num 3, [(1, 15)], 0, 0⟩,
  ⟨0x2800, 64, 1, 0x28, 0x28, .u8, .rws, .ember, .num 16, [(1, 255)], 0, 0⟩,
  ⟨0x2800, 64, 1, 0x29, 0x29, .u8, .rws, .ember, .num 0, [], 0, 7⟩,
  ⟨0x2800, 64, 1, 0x2A, 0x2A, .u16, .rws, .ember, .num 200, [(50, 350)], 0, 0⟩,
  ⟨0x2800, 64, 1, 0x2B, 0x2B, .u16, .rws, .ember, .num 200, [(50, 500)], 0, 0⟩,
  ⟨0x2800, 64, 1, 0x2C, 0x2C, .u8, .rws, .ember, .num 0, [(0, 5)], 0, 0⟩,
  ⟨0x2800, 64, 1, 0x2D, 0x2D, .u8, .rws, .ember, .num 2, [(1, 8)], 0, 0⟩,
  ⟨0x2800, 64, 1, 0x2E, 0x2E, .u32, .rws, .ember, .num 2000, [(500, 100000)], 0, 0⟩]

/-- Rows of 04_supervision.md, 06_lamp_life.md, PFB(p).2F to PFB(p).4B. -/
def rowsProfileC : List ObjRow := [
  ⟨0x2800, 64, 1, 0x2F, 0x2F, .u16, .rws, .ember, .num 300, [(50, 900)], 0, 0⟩,
  ⟨0x2800, 64, 1, 0x30, 0x30, .u16, .rws, .ember, .num 16, [(4, 256)], 0, 0⟩,
  ⟨0x2800, 64, 1, 0x31, 0x31, .u8, .rws, .ember, .num 3, [(1, 15)], 0, 0⟩,
  ⟨0x2800, 64, 1, 0x32, 0x32, .u16, .rws, .ember, .num 64, [(8, 1000)], 0, 0⟩,
  ⟨0x2800, 64, 1, 0x40, 0x40, .u32, .rws, .ember, .num 0, [(0, 1000000)], 0, 0⟩,
  ⟨0x2800, 64, 1, 0x41, 0x41, .i16, .rws, .ember, .num 550, [((-400), 1500)], 0, 0⟩,
  ⟨0x2800, 64, 1, 0x42, 0x42, .u16, .rws, .ember, .num 400, [(0, 2000)], 0, 0⟩,
  ⟨0x2800, 64, 1, 0x43, 0x43, .u16, .rws, .ember, .num 100, [(0, 3000)], 0, 0⟩,
  ⟨0x2800, 64, 1, 0x44, 0x44, .u16, .rws, .ember, .num 0, [(0, 500)], 0, 0⟩,
  ⟨0x2800, 64, 1, 0x45, 0x45, .u32, .rws, .ember, .num 0, [(0, 1000000)], 0, 0⟩,
  ⟨0x2800, 64, 1, 0x46, 0x46, .i16, .rws, .ember, .num 0, [((-500), 500)], 0, 0⟩,
  ⟨0x2800, 64, 1, 0x47, 0x47, .i16, .rws, .ember, .num 550, [((-400), 1500)], 0, 0⟩,
  ⟨0x2800, 64, 1, 0x48, 0x48, .i16, .rws, .ember, .num 850, [((-400), 1500)], 0, 0⟩,
  ⟨0x2800, 64, 1, 0x49, 0x49, .u16, .rws, .ember, .num 0, [(0, 200)], 0, 0⟩,
  ⟨0x2800, 64, 1, 0x4A, 0x4A, .u16, .rws, .ember, .num 700, [(100, 1000)], 0, 0⟩,
  ⟨0x2800, 64, 1, 0x4B, 0x4B, .bool, .rws, .ember, .num 0, [(0, 1)], 0, 0⟩]

/-- Rows of 06_lamp_life.md, PFB(p).50 to PFB(p).56. -/
def rowsProfileD : List ObjRow := [
  ⟨0x2800, 64, 1, 0x50, 0x50, .bool, .rws, .ember, .num 0, [(0, 1)], 0, 0⟩,
  ⟨0x2800, 64, 1, 0x51, 0x51, .u16, .rws, .ember, .num 3127, [(0, 10000)], 0, 0⟩,
  ⟨0x2800, 64, 1, 0x52, 0x52, .u16, .rws, .ember, .num 3290, [(0, 10000)], 0, 0⟩,
  ⟨0x2800, 64, 1, 0x53, 0x53, .u16, .rws, .ember, .num 50, [(1, 1000)], 0, 0⟩,
  ⟨0x2800, 64, 1, 0x54, 0x54, .ostring, .rws, .ember, .bytes [0x00, 0x10, 0, 0, 0, 0, 0, 0, 0x00, 0x10, 0, 0, 0, 0, 0, 0, 0x00, 0x10], [], 18, 0⟩,
  ⟨0x2800, 64, 1, 0x55, 0x55, .u16, .rws, .ember, .num 500, [(100, 1000)], 0, 0⟩,
  ⟨0x2800, 64, 1, 0x56, 0x56, .u16, .rws, .ember, .num 1500, [(1000, 3000)], 0, 0⟩]

/-- All rows of the block. -/
def rowsProfile : List ObjRow := rowsProfileA ++ rowsProfileB ++ rowsProfileC ++ rowsProfileD

/-- Rows of 02_lamp_channels.md, 03_dimming_timing.md, GB(g).20 to GB(g).02. -/
def rowsGroupA : List ObjRow := [
  ⟨0x2900, 24, 1, 0x20, 0x20, .u8, .rws, .ember, .num 0, [(0, 1)], 0, 0⟩,
  ⟨0x2900, 24, 1, 0x21, 0x21, .u8, .ro, .mayfly, .num 0, [], 0, 0⟩,
  ⟨0x2900, 24, 1, 0x22, 0x22, .u8, .ro, .mayfly, .num 1, [], 0, 0⟩,
  ⟨0x2900, 24, 1, 0x23, 0x23, .u8, .ro, .mayfly, .num 0, [], 0, 0⟩,
  ⟨0x2900, 24, 1, 0x24, 0x24, .u32, .ro, .record, .num 0, [], 0, 0⟩,
  ⟨0x2900, 24, 1, 0x25, 0x25, .u8, .rws, .ember, .num 0, [(0, 1)], 0, 0⟩,
  ⟨0x2900, 24, 1, 0x26, 0x26, .u32, .rws, .ember, .num 10000, [(1000, 100000)], 0, 0⟩,
  ⟨0x2900, 24, 1, 0x27, 0x27, .u16, .rws, .ember, .num 3435, [(2000, 5000)], 0, 0⟩,
  ⟨0x2900, 24, 1, 0x28, 0x28, .i16, .ro, .mayfly, .num 0, [], 0, 0⟩,
  ⟨0x2900, 24, 1, 0x29, 0x29, .u8, .ro, .mayfly, .num 3, [], 0, 0⟩,
  ⟨0x2900, 24, 1, 0x2A, 0x2A, .i16, .ro, .mayfly, .num 0, [], 0, 0⟩,
  ⟨0x2900, 24, 1, 0x2B, 0x2B, .u32, .ro, .mayfly, .num 0, [], 0, 0⟩,
  ⟨0x2900, 24, 1, 0x2C, 0x2C, .u32, .ro, .mayfly, .num 0, [], 0, 0⟩,
  ⟨0x2900, 24, 1, 0x00, 0x00, .u8, .ro, .mayfly, .num 44, [], 0, 0⟩,
  ⟨0x2900, 24, 1, 0x01, 0x01, .u32, .rws, .ember, .num 2000, [(100, 25000)], 0, 0⟩,
  ⟨0x2900, 24, 1, 0x02, 0x02, .u8, .rws, .ember, .num 16, [(8, 16)], 0, 0⟩]

/-- Rows of 03_dimming_timing.md, GB(g).03 to GB(g).0C. -/
def rowsGroupB : List ObjRow := [
  ⟨0x2900, 24, 1, 0x03, 0x03, .u8, .rws, .ember, .num 0, [(0, 2)], 0, 0⟩,
  ⟨0x2900, 24, 1, 0x04, 0x04, .u8, .rws, .ember, .num 0, [(0, 15)], 0, 0⟩,
  ⟨0x2900, 24, 1, 0x05, 0x05, .bool, .rws, .ember, .num 0, [(0, 1)], 0, 0⟩,
  ⟨0x2900, 24, 1, 0x06, 0x06, .u32, .ro, .mayfly, .num 50000, [], 0, 0⟩,
  ⟨0x2900, 24, 1, 0x07, 0x07, .u32, .ro, .mayfly, .num 1600000, [], 0, 0⟩,
  ⟨0x2900, 24, 1, 0x08, 0x08, .u8, .ro, .mayfly, .num 16, [], 0, 0⟩,
  ⟨0x2900, 24, 1, 0x09, 0x09, .u64, .ro, .mayfly, .num 0, [], 0, 0⟩,
  ⟨0x2900, 24, 1, 0x0A, 0x0A, .time64, .ro, .mayfly, .num 0, [], 0, 0⟩,
  ⟨0x2900, 24, 1, 0x0B, 0x0B, .u32, .ro, .mayfly, .num 0, [], 0, 0⟩,
  ⟨0x2900, 24, 1, 0x0C, 0x0C, .i16, .ro, .mayfly, .num 0, [], 0, 0⟩]

/-- All rows of the block. -/
def rowsGroup : List ObjRow := rowsGroupA ++ rowsGroupB

/-- Rows of 02_lamp_channels.md, CHB(n).00 to CHB(n).0D. -/
def rowsCh0 : List ObjRow := [
  ⟨0x3000, 96, 16, 0x00, 0x00, .u8, .ro, .mayfly, .num 13, [], 0, 0⟩,
  ⟨0x3000, 96, 16, 0x01, 0x01, .u8, .rws, .ember, .num 0, [(0, 3)], 0, 0⟩,
  ⟨0x3000, 96, 16, 0x02, 0x02, .u8, .rws, .ember, .num 0, [(0, 63)], 0, 0⟩,
  ⟨0x3000, 96, 16, 0x03, 0x03, .u8, .rws, .ember, .num 0, [(0, 7)], 0, 0⟩,
  ⟨0x3000, 96, 16, 0x04, 0x04, .u32, .rws, .ember, .num 0, [(1000, 1000000)], 0, 0⟩,
  ⟨0x3000, 96, 16, 0x05, 0x05, .u8, .rws, .ember, .num 1, [(0, 2)], 0, 0⟩,
  ⟨0x3000, 96, 16, 0x06, 0x06, .u8, .rws, .ember, .num 2, [(0, 7)], 0, 0⟩,
  ⟨0x3000, 96, 16, 0x07, 0x07, .u8, .rws, .ember, .num 3, [(0, 7)], 0, 0⟩,
  ⟨0x3000, 96, 16, 0x08, 0x08, .u32, .rws, .ember, .num 0, [(0, 1000000)], 0, 0⟩,
  ⟨0x3000, 96, 16, 0x09, 0x09, .u32, .rws, .ember, .num 0, [(0, 10000000)], 0, 0⟩,
  ⟨0x3000, 96, 16, 0x0A, 0x0A, .u16, .rws, .ember, .num 200, [(0, 500)], 0, 0⟩,
  ⟨0x3000, 96, 16, 0x0B, 0x0B, .u16, .rws, .ember, .num 1000, [(200, 3000)], 0, 0⟩,
  ⟨0x3000, 96, 16, 0x0C, 0x0C, .u32, .rws, .ember, .num 0, [(1000, 200000)], 0, 0⟩,
  ⟨0x3000, 96, 16, 0x0D, 0x0D, .vstring, .rws, .ember, .bytes [], [], 16, 0⟩]

/-- Rows of 02_lamp_channels.md, CHB(n)+0x1.00 to CHB(n)+0x1.0F. -/
def rowsCh1 : List ObjRow := [
  ⟨0x3001, 96, 16, 0x00, 0x00, .u8, .ro, .mayfly, .num 15, [], 0, 0⟩,
  ⟨0x3001, 96, 16, 0x01, 0x01, .u8, .ro, .mayfly, .num 0, [], 0, 0⟩,
  ⟨0x3001, 96, 16, 0x02, 0x02, .u16, .ro, .mayfly, .num 0, [], 0, 0⟩,
  ⟨0x3001, 96, 16, 0x03, 0x03, .u32, .ro, .mayfly, .num 0, [], 0, 0⟩,
  ⟨0x3001, 96, 16, 0x04, 0x04, .u32, .ro, .mayfly, .num 0, [], 0, 0⟩,
  ⟨0x3001, 96, 16, 0x05, 0x05, .u32, .ro, .mayfly, .num 0, [], 0, 0⟩,
  ⟨0x3001, 96, 16, 0x06, 0x06, .u32, .ro, .mayfly, .num 0, [], 0, 0⟩,
  ⟨0x3001, 96, 16, 0x07, 0x07, .u32, .ro, .mayfly, .num 0, [], 0, 0⟩,
  ⟨0x3001, 96, 16, 0x08, 0x08, .u32, .ro, .mayfly, .num 0, [], 0, 0⟩,
  ⟨0x3001, 96, 16, 0x09, 0x09, .u32, .ro, .mayfly, .num 0, [], 0, 0⟩,
  ⟨0x3001, 96, 16, 0x0A, 0x0A, .u32, .ro, .mayfly, .num 0, [], 0, 0⟩,
  ⟨0x3001, 96, 16, 0x0B, 0x0B, .u8, .ro, .mayfly, .num 0, [], 0, 0⟩,
  ⟨0x3001, 96, 16, 0x0C, 0x0C, .u8, .ro, .mayfly, .num 0, [], 0, 0⟩,
  ⟨0x3001, 96, 16, 0x0D, 0x0D, .u16, .ro, .mayfly, .num 0, [], 0, 0⟩,
  ⟨0x3001, 96, 16, 0x0E, 0x0E, .u64, .ro, .record, .num 0, [], 0, 0⟩,
  ⟨0x3001, 96, 16, 0x0F, 0x0F, .u32, .ro, .record, .num 0, [], 0, 0⟩]

/-- Rows of 03_dimming_timing.md, CHB(n)+0x2.00 to CHB(n)+0x2.06. -/
def rowsCh2 : List ObjRow := [
  ⟨0x3002, 96, 16, 0x00, 0x00, .u8, .ro, .mayfly, .num 6, [], 0, 0⟩,
  ⟨0x3002, 96, 16, 0x01, 0x01, .u16, .rw, .mayfly, .num 0, [], 0, 0⟩,
  ⟨0x3002, 96, 16, 0x02, 0x02, .u16, .rws, .ember, .num 0, [(0, 65535)], 0, 0⟩,
  ⟨0x3002, 96, 16, 0x03, 0x03, .u16, .ro, .mayfly, .num 0, [], 0, 0⟩,
  ⟨0x3002, 96, 16, 0x04, 0x04, .u16, .ro, .mayfly, .num 0, [], 0, 0⟩,
  ⟨0x3002, 96, 16, 0x05, 0x05, .u32, .ro, .mayfly, .num 0, [], 0, 0⟩,
  ⟨0x3002, 96, 16, 0x06, 0x06, .u8, .ro, .mayfly, .num 0, [], 0, 0⟩]

/-- Rows of 04_supervision.md, CHB(n)+0x3.00 to CHB(n)+0x3.03. -/
def rowsCh3 : List ObjRow := [
  ⟨0x3003, 96, 16, 0x00, 0x00, .u8, .ro, .mayfly, .num 3, [], 0, 0⟩,
  ⟨0x3003, 96, 16, 0x01, 0x01, .u8, .rws, .ember, .num 255, [(0, 23), (255, 255)], 0, 0⟩,
  ⟨0x3003, 96, 16, 0x02, 0x02, .bool, .rws, .ember, .num 0, [(0, 1)], 0, 0⟩,
  ⟨0x3003, 96, 16, 0x03, 0x03, .u32, .rws, .ember, .num 0, [], 0, 0⟩]

/-- Rows of 04_supervision.md, CHB(n)+0x4.00 to CHB(n)+0x4.0F. -/
def rowsCh4A : List ObjRow := [
  ⟨0x3004, 96, 16, 0x00, 0x00, .u8, .ro, .mayfly, .num 18, [], 0, 0⟩,
  ⟨0x3004, 96, 16, 0x01, 0x01, .u8, .ro, .mayfly, .num 0, [], 0, 0⟩,
  ⟨0x3004, 96, 16, 0x02, 0x02, .u8, .ro, .mayfly, .num 0, [], 0, 0⟩,
  ⟨0x3004, 96, 16, 0x03, 0x03, .u16, .ro, .mayfly, .num 0, [], 0, 0⟩,
  ⟨0x3004, 96, 16, 0x04, 0x04, .u16, .ro, .mayfly, .num 0, [], 0, 0⟩,
  ⟨0x3004, 96, 16, 0x05, 0x05, .u8, .ro, .mayfly, .num 0, [], 0, 0⟩,
  ⟨0x3004, 96, 16, 0x06, 0x06, .u8, .ro, .mayfly, .num 0, [], 0, 0⟩,
  ⟨0x3004, 96, 16, 0x07, 0x07, .u16, .ro, .mayfly, .num 0, [], 0, 0⟩,
  ⟨0x3004, 96, 16, 0x08, 0x08, .time64, .ro, .mayfly, .num 0, [], 0, 0⟩,
  ⟨0x3004, 96, 16, 0x09, 0x09, .u32, .ro, .mayfly, .num 0, [], 0, 0⟩,
  ⟨0x3004, 96, 16, 0x0A, 0x0A, .u32, .ro, .mayfly, .num 0, [], 0, 0⟩,
  ⟨0x3004, 96, 16, 0x0B, 0x0B, .u32, .ro, .mayfly, .num 0, [], 0, 0⟩,
  ⟨0x3004, 96, 16, 0x0C, 0x0C, .u8, .ro, .mayfly, .num 0, [], 0, 0⟩,
  ⟨0x3004, 96, 16, 0x0D, 0x0D, .time64, .ro, .mayfly, .num 0, [], 0, 0⟩,
  ⟨0x3004, 96, 16, 0x0E, 0x0E, .time64, .ro, .mayfly, .num 0, [], 0, 0⟩,
  ⟨0x3004, 96, 16, 0x0F, 0x0F, .u16, .wo, .mayfly, .num 0, [], 0, 0⟩]

/-- Rows of 04_supervision.md, CHB(n)+0x4.10 to CHB(n)+0x4.12. -/
def rowsCh4B : List ObjRow := [
  ⟨0x3004, 96, 16, 0x10, 0x10, .u32, .ro, .record, .num 0, [], 0, 0⟩,
  ⟨0x3004, 96, 16, 0x11, 0x11, .u32, .ro, .record, .num 0, [], 0, 0⟩,
  ⟨0x3004, 96, 16, 0x12, 0x12, .u32, .ro, .record, .num 0, [], 0, 0⟩]

/-- All rows of the block. -/
def rowsCh4 : List ObjRow := rowsCh4A ++ rowsCh4B

/-- Rows of 06_lamp_life.md, CHB(n)+0x5.00 to CHB(n)+0x5.0F. -/
def rowsCh5A : List ObjRow := [
  ⟨0x3005, 96, 16, 0x00, 0x00, .u8, .ro, .mayfly, .num 21, [], 0, 0⟩,
  ⟨0x3005, 96, 16, 0x01, 0x01, .u64, .ro, .record, .num 0, [], 0, 0⟩,
  ⟨0x3005, 96, 16, 0x02, 0x02, .u64, .ro, .record, .num 0, [], 0, 0⟩,
  ⟨0x3005, 96, 16, 0x03, 0x03, .u32, .ro, .record, .num 0, [], 0, 0⟩,
  ⟨0x3005, 96, 16, 0x04, 0x04, .u32, .ro, .record, .num 0, [], 0, 0⟩,
  ⟨0x3005, 96, 16, 0x05, 0x05, .u16, .ro, .record, .num 1000, [], 0, 0⟩,
  ⟨0x3005, 96, 16, 0x06, 0x06, .u32, .ro, .record, .num 0, [], 0, 0⟩,
  ⟨0x3005, 96, 16, 0x07, 0x07, .u16, .ro, .mayfly, .num 1000, [], 0, 0⟩,
  ⟨0x3005, 96, 16, 0x08, 0x08, .u16, .ro, .mayfly, .num 1000, [], 0, 0⟩,
  ⟨0x3005, 96, 16, 0x09, 0x09, .u16, .ro, .mayfly, .num 1000, [], 0, 0⟩,
  ⟨0x3005, 96, 16, 0x0A, 0x0A, .u32, .ro, .mayfly, .num 4294967295, [], 0, 0⟩,
  ⟨0x3005, 96, 16, 0x0B, 0x0B, .u16, .ro, .mayfly, .num 1000, [], 0, 0⟩,
  ⟨0x3005, 96, 16, 0x0C, 0x0C, .u16, .ro, .mayfly, .num 1000, [], 0, 0⟩,
  ⟨0x3005, 96, 16, 0x0D, 0x0D, .i16, .ro, .mayfly, .num 0, [], 0, 0⟩,
  ⟨0x3005, 96, 16, 0x0E, 0x0E, .i16, .ro, .record, .num (-400), [], 0, 0⟩,
  ⟨0x3005, 96, 16, 0x0F, 0x0F, .u64, .ro, .record, .num 0, [], 0, 0⟩]

/-- Rows of 06_lamp_life.md, CHB(n)+0x5.10 to CHB(n)+0x5.15. -/
def rowsCh5B : List ObjRow := [
  ⟨0x3005, 96, 16, 0x10, 0x10, .u16, .ro, .record, .num 1000, [], 0, 0⟩,
  ⟨0x3005, 96, 16, 0x11, 0x11, .u16, .ro, .mayfly, .num 0, [], 0, 0⟩,
  ⟨0x3005, 96, 16, 0x12, 0x12, .u16, .ro, .mayfly, .num 0, [], 0, 0⟩,
  ⟨0x3005, 96, 16, 0x13, 0x13, .u8, .ro, .mayfly, .num 0, [], 0, 0⟩,
  ⟨0x3005, 96, 16, 0x14, 0x14, .u8, .wo, .mayfly, .num 0, [(1, 1)], 0, 0⟩,
  ⟨0x3005, 96, 16, 0x15, 0x15, .u16, .ro, .record, .num 1000, [], 0, 0⟩]

/-- All rows of the block. -/
def rowsCh5 : List ObjRow := rowsCh5A ++ rowsCh5B

/-- Rows of 08_lanes_clients.md, CHB(n)+0x6.00 to CHB(n)+0x6.06. -/
def rowsCh6 : List ObjRow := [
  ⟨0x3006, 96, 16, 0x00, 0x00, .u8, .ro, .mayfly, .num 6, [], 0, 0⟩,
  ⟨0x3006, 96, 16, 0x01, 0x01, .u16, .ro, .mayfly, .num 65535, [], 0, 0⟩,
  ⟨0x3006, 96, 16, 0x02, 0x02, .u8, .ro, .mayfly, .num 255, [], 0, 0⟩,
  ⟨0x3006, 96, 16, 0x03, 0x03, .time64, .ro, .mayfly, .num 0, [], 0, 0⟩,
  ⟨0x3006, 96, 16, 0x04, 0x04, .u16, .ro, .mayfly, .num 0, [], 0, 0⟩,
  ⟨0x3006, 96, 16, 0x05, 0x05, .u32, .ro, .mayfly, .num 0, [], 0, 0⟩,
  ⟨0x3006, 96, 16, 0x06, 0x06, .bool, .ro, .mayfly, .num 0, [], 0, 0⟩]

/-- Rows of 05_aspects.md, SGB(s).00 to SGB(s).0F. -/
def rowsSgA : List ObjRow := [
  ⟨0x3800, 32, 1, 0x00, 0x00, .u8, .ro, .mayfly, .num 20, [], 0, 0⟩,
  ⟨0x3800, 32, 1, 0x01, 0x01, .ostring, .rws, .ember, .bytes (List.replicate 12 0), [], 12, 0⟩,
  ⟨0x3800, 32, 1, 0x02, 0x02, .vstring, .rws, .ember, .bytes [], [], 16, 0⟩,
  ⟨0x3800, 32, 1, 0x03, 0x03, .bool, .rws, .ember, .num 0, [(0, 1)], 0, 0⟩,
  ⟨0x3800, 32, 1, 0x04, 0x04, .u8, .rws, .ember, .num 255, [], 0, 0⟩,
  ⟨0x3800, 32, 1, 0x05, 0x05, .u16, .rws, .ember, .num 200, [(10, 2000)], 0, 0⟩,
  ⟨0x3800, 32, 1, 0x06, 0x06, .u16, .rws, .ember, .num 100, [(50, 5000)], 0, 0⟩,
  ⟨0x3800, 32, 1, 0x07, 0x07, .ostring, .rws, .ember, .bytes (List.replicate 16 0xFF), [], 16, 0⟩,
  ⟨0x3800, 32, 1, 0x08, 0x08, .u8, .rw, .mayfly, .num 255, [(0, 255)], 0, 0⟩,
  ⟨0x3800, 32, 1, 0x09, 0x09, .u8, .ro, .mayfly, .num 255, [], 0, 0⟩,
  ⟨0x3800, 32, 1, 0x0A, 0x0A, .u8, .ro, .mayfly, .num 0, [], 0, 0⟩,
  ⟨0x3800, 32, 1, 0x0B, 0x0B, .u8, .ro, .mayfly, .num 0, [], 0, 0⟩,
  ⟨0x3800, 32, 1, 0x0C, 0x0C, .u8, .ro, .mayfly, .num 0, [], 0, 0⟩,
  ⟨0x3800, 32, 1, 0x0D, 0x0D, .time64, .ro, .mayfly, .num 0, [], 0, 0⟩,
  ⟨0x3800, 32, 1, 0x0E, 0x0E, .u8, .ro, .mayfly, .num 255, [], 0, 0⟩,
  ⟨0x3800, 32, 1, 0x0F, 0x0F, .time64, .ro, .mayfly, .num 0, [], 0, 0⟩]

/-- Rows of 05_aspects.md, SGB(s).10 to SGB(s).14. -/
def rowsSgB : List ObjRow := [
  ⟨0x3800, 32, 1, 0x10, 0x10, .u32, .ro, .mayfly, .num 0, [], 0, 0⟩,
  ⟨0x3800, 32, 1, 0x11, 0x11, .u32, .ro, .mayfly, .num 0, [], 0, 0⟩,
  ⟨0x3800, 32, 1, 0x12, 0x12, .u32, .ro, .mayfly, .num 0, [], 0, 0⟩,
  ⟨0x3800, 32, 1, 0x13, 0x13, .u32, .ro, .record, .num 0, [], 0, 0⟩,
  ⟨0x3800, 32, 1, 0x14, 0x14, .u32, .ro, .record, .num 0, [], 0, 0⟩]

/-- All rows of the block. -/
def rowsSg : List ObjRow := rowsSgA ++ rowsSgB

/-- Rows of 05_aspects.md, ASB(a).00 to ASB(a).10–.2F. -/
def rowsAspect : List ObjRow := [
  ⟨0x3900, 256, 1, 0x00, 0x00, .u8, .ro, .mayfly, .num 47, [], 0, 0⟩,
  ⟨0x3900, 256, 1, 0x01, 0x01, .u8, .rws, .ember, .num 255, [(0, 31), (255, 255)], 0, 0⟩,
  ⟨0x3900, 256, 1, 0x02, 0x02, .vstring, .rws, .ember, .bytes [], [], 16, 0⟩,
  ⟨0x3900, 256, 1, 0x10, 0x2F, .u32, .rws, .ember, .num 0, [], 0, 0⟩]

/-- Rows of 08_lanes_clients.md, CLB(k).00 to CLB(k).0F. -/
def rowsClientA : List ObjRow := [
  ⟨0x4000, 512, 1, 0x00, 0x00, .u8, .ro, .mayfly, .num 19, [], 0, 0⟩,
  ⟨0x4000, 512, 1, 0x01, 0x01, .vstring, .rws, .ember, .bytes [], [], 16, 0⟩,
  ⟨0x4000, 512, 1, 0x02, 0x02, .u8, .rws, .ember, .num 255, [(0, 3), (255, 255)], 0, 0⟩,
  ⟨0x4000, 512, 1, 0x03, 0x03, .ostring, .rws, .ember, .bytes (List.replicate 192 0), [], 192, 0⟩,
  ⟨0x4000, 512, 1, 0x04, 0x04, .ostring, .rws, .ember, .bytes (List.replicate 64 0), [], 64, 0⟩,
  ⟨0x4000, 512, 1, 0x05, 0x05, .u32, .rws, .ember, .num 4294967295, [], 0, 0⟩,
  ⟨0x4000, 512, 1, 0x06, 0x06, .u32, .rw, .mayfly, .num 0xFFFFFFFF, [], 0, 0⟩,
  ⟨0x4000, 512, 1, 0x07, 0x07, .u32, .rws, .ember, .num 0, [], 0, 0⟩,
  ⟨0x4000, 512, 1, 0x08, 0x08, .u8, .rws, .ember, .num 255, [(0, 7), (255, 255)], 0, 0⟩,
  ⟨0x4000, 512, 1, 0x09, 0x09, .bool, .rws, .ember, .num 0, [(0, 1)], 0, 0⟩,
  ⟨0x4000, 512, 1, 0x0A, 0x0A, .u16, .rws, .ember, .num 0, [(0, 65535)], 0, 0⟩,
  ⟨0x4000, 512, 1, 0x0B, 0x0B, .u16, .ro, .mayfly, .num 0, [], 0, 0⟩,
  ⟨0x4000, 512, 1, 0x0C, 0x0C, .domain, .rw, .record, .bytes [], [], 1024, 0⟩,
  ⟨0x4000, 512, 1, 0x0D, 0x0D, .u32, .ro, .mayfly, .num 0, [], 0, 0⟩,
  ⟨0x4000, 512, 1, 0x0E, 0x0E, .u32, .ro, .mayfly, .num 65536, [], 0, 0⟩,
  ⟨0x4000, 512, 1, 0x0F, 0x0F, .u32, .ro, .mayfly, .num 0, [], 0, 0⟩]

/-- Rows of 08_lanes_clients.md, CLB(k).10 to CLB(k).13. -/
def rowsClientB : List ObjRow := [
  ⟨0x4000, 512, 1, 0x10, 0x10, .u16, .ro, .mayfly, .num 0, [], 0, 0⟩,
  ⟨0x4000, 512, 1, 0x11, 0x11, .u32, .ro, .mayfly, .num 0, [], 0, 0⟩,
  ⟨0x4000, 512, 1, 0x12, 0x12, .u32, .ro, .mayfly, .num 0, [], 0, 0⟩,
  ⟨0x4000, 512, 1, 0x13, 0x13, .u16, .ro, .mayfly, .num 0, [], 0, 0⟩]

/-- All rows of the block. -/
def rowsClient : List ObjRow := rowsClientA ++ rowsClientB

/-- Rows of 16_dictionary.md, 0x4800.00 to 0x4801.00. -/
def rowsCond : List ObjRow := [
  ⟨0x4800, 1, 1, 0x00, 0x00, .u8, .ro, .mayfly, .num 6, [], 0, 0⟩,
  ⟨0x4800, 1, 1, 0x01, 0x01, .u16, .ro, .mayfly, .num 0, [], 0, 0⟩,
  ⟨0x4800, 1, 1, 0x02, 0x02, .domain, .ro, .mayfly, .bytes [], [], 1024, 0⟩,
  ⟨0x4800, 1, 1, 0x03, 0x03, .u32, .ro, .record, .num 0, [], 0, 0⟩,
  ⟨0x4800, 1, 1, 0x04, 0x04, .u32, .ro, .record, .num 0, [], 0, 0⟩,
  ⟨0x4800, 1, 1, 0x05, 0x05, .u32, .ro, .record, .num 0, [], 0, 0⟩,
  ⟨0x4800, 1, 1, 0x06, 0x06, .time64, .ro, .mayfly, .num 0, [], 0, 0⟩,
  ⟨0x4801, 1, 1, 0x00, 0x00, .domain, .ro, .record, .bytes [], [], 1024, 0⟩]

/-- Rows of 16_dictionary.md, 0x4900.00 to 0x4900.0D. -/
def rowsSvc : List ObjRow := [
  ⟨0x4900, 1, 1, 0x00, 0x00, .u8, .ro, .mayfly, .num 13, [], 0, 0⟩,
  ⟨0x4900, 1, 1, 0x01, 0x01, .bool, .rws, .ember, .num 1, [(0, 1)], 0, 0⟩,
  ⟨0x4900, 1, 1, 0x02, 0x02, .u32, .rws, .ember, .num 3232260104, [], 0, 0⟩,
  ⟨0x4900, 1, 1, 0x03, 0x03, .u32, .rws, .ember, .num 4294967040, [], 0, 0⟩,
  ⟨0x4900, 1, 1, 0x04, 0x04, .u32, .rws, .ember, .num 0, [], 0, 0⟩,
  ⟨0x4900, 1, 1, 0x05, 0x05, .u16, .rws, .ember, .num 45968, [(1024, 65535)], 0, 0⟩,
  ⟨0x4900, 1, 1, 0x06, 0x06, .u8, .rws, .ember, .num 0, [(0, 3)], 0, 0⟩,
  ⟨0x4900, 1, 1, 0x07, 0x07, .u8, .rws, .ember, .num 0, [(0, 31)], 0, 0⟩,
  ⟨0x4900, 1, 1, 0x08, 0x08, .ostring, .ro, .fuse, .bytes (List.replicate 6 0), [], 6, 0⟩,
  ⟨0x4900, 1, 1, 0x09, 0x09, .u8, .ro, .mayfly, .num 0, [], 0, 0⟩,
  ⟨0x4900, 1, 1, 0x0A, 0x0A, .u32, .ro, .mayfly, .num 0, [], 0, 0⟩,
  ⟨0x4900, 1, 1, 0x0B, 0x0B, .u32, .ro, .mayfly, .num 0, [], 0, 0⟩,
  ⟨0x4900, 1, 1, 0x0C, 0x0C, .u64, .ro, .mayfly, .num 0, [], 0, 0⟩,
  ⟨0x4900, 1, 1, 0x0D, 0x0D, .u32, .ro, .mayfly, .num 0, [], 0, 0⟩]

/-- The rows in which an index can stand, by the ranges of Table 16.1. -/
def rowsOf (idx : Nat) : List ObjRow :=
  if idx < 0x2000 then rowsCom
  else if idx < 0x2100 then rowsArch
  else if idx < 0x2200 then rowsPower
  else if idx < 0x2300 then rowsLane
  else if idx < 0x23C0 then rowsEmber
  else if idx < 0x2400 then rowsReplay
  else if idx < 0x2500 then rowsRing
  else if idx < 0x2580 then rowsLife
  else if idx < 0x2600 then rowsTest
  else if idx < 0x2700 then rowsFin
  else if idx < 0x2800 then rowsEffect
  else if idx < 0x2900 then rowsProfile
  else if idx < 0x3000 then rowsGroup
  else if idx < 0x3800 then
    (match idx % 16 with
     | 0 => rowsCh0 | 1 => rowsCh1 | 2 => rowsCh2 | 3 => rowsCh3 | 4 => rowsCh4 | 5 => rowsCh5 | 6 => rowsCh6
     | _ => [])
  else if idx < 0x3900 then rowsSg
  else if idx < 0x4000 then rowsAspect
  else if idx < 0x4800 then rowsClient
  else if idx < 0x4900 then rowsCond
  else rowsSvc

/-- Does the row stand at the index? -/
def ObjRow.atIndex (r : ObjRow) (idx : Nat) : Bool :=
  decide (r.base ≤ idx) && (idx - r.base) % r.stride == 0 && decide ((idx - r.base) / r.stride < r.cnt)

/-- The row of an object, by its key. -/
def objRow (k : Nat) : Option ObjRow :=
  (rowsOf (k / 256)).find? fun r => decide (r.lo ≤ k % 256) && decide (k % 256 ≤ r.hi) && r.atIndex (k / 256)

/-- Does the index exist (R493)? -/
def indexExists (idx : Nat) : Bool := (rowsOf idx).any fun r => r.atIndex idx

/-- The highest sub-index a row tells of: its own, or the one that sub-index .00 of a device object declares. -/
def ObjRow.top (r : ObjRow) (idx : Nat) : Nat :=
  match r.dflt with
  | .num v => if r.lo = 0 ∧ 0x2000 ≤ idx then max r.hi v.toNat else r.hi
  | .bytes _ => r.hi

/-- The highest sub-index of an index (R494). -/
def highestSub (idx : Nat) : Nat :=
  (rowsOf idx).foldl (fun m r => if r.atIndex idx then max m (r.top idx) else m) 0

/-- The default of an object; a reserved sub-index reads 0 (R21). TPDO 16 has defaults of its own (Table 16.4): its
event time is 100, and its COB-ID, 0x480 plus the node-ID, is held as -1 until one is written. -/
def objDefault (k : Nat) : Val :=
  if k = 256 * 0x180F + 1 then .num (-1)
  else if k = 256 * 0x180F + 5 then .num 100
  else match objRow k with
    | some r => r.dflt
    | none => .num 0

end Sys2Proof.Machine
end

