-- ==== Sys2Proof/Machine/Dict.lean ====
section
/-! DEFINITION. Sparse tables and the object dictionary: reading and writing one entry in canonical form, the bytes of
a value (R495), counters, and the accessors of the entities of the state. -/
namespace Sys2Proof.Machine

/-! ### Sparse tables -/

/-- The entry of a key, if listed. -/
def look {α : Type} (m : Tab α) (k : Nat) : Option α :=
  match m with
  | [] => none
  | (j, v) :: r => if j = k then some v else look r k

/-- The entry of a key, or the default. -/
def lookD {α : Type} (d : α) (m : Tab α) (k : Nat) : α := (look m k).getD d

/-- The table without a key. -/
def tabDrop {α : Type} (m : Tab α) (k : Nat) : Tab α :=
  match m with
  | [] => []
  | (j, v) :: r => if j = k then tabDrop r k else (j, v) :: tabDrop r k

/-- The table with an entry at a key, in rising order. -/
def tabIns {α : Type} (m : Tab α) (k : Nat) (v : α) : Tab α :=
  match m with
  | [] => [(k, v)]
  | (j, w) :: r => if j = k then (k, v) :: r else if k < j then (k, v) :: (j, w) :: r else (j, w) :: tabIns r k v

/-- The table with an entry at a key; the default is not listed. -/
def tabPut {α : Type} [DecidableEq α] (d : α) (m : Tab α) (k : Nat) (v : α) : Tab α :=
  if v = d then tabDrop m k else tabIns m k v

/-! ### Bytes and numbers (R495) -/

/-- The n little-endian bytes of a number. -/
def leBytes (n v : Nat) : List Byte :=
  match n with
  | 0 => []
  | n + 1 => BitVec.ofNat 8 v :: leBytes n (v / 256)

/-- The number of little-endian bytes. -/
def leNat (b : List Byte) : Nat :=
  match b with
  | [] => 0
  | x :: r => x.toNat + 256 * leNat r

/-- The size in bytes of a fixed-size type, none for a string or a domain (Table 16.2). -/
def Ty.size : Ty → Option Nat
  | .bool | .u8 | .i8 => some 1
  | .u16 | .i16 => some 2
  | .u32 | .i32 => some 4
  | .u64 | .i64 | .time64 => some 8
  | .vstring | .ostring | .domain => none

/-- Is the type two's complement? -/
def Ty.signed : Ty → Bool
  | .i8 | .i16 | .i32 | .i64 => true
  | .bool | .u8 | .u16 | .u32 | .u64 | .time64 | .vstring | .ostring | .domain => false

/-- Two's complement of a number of n bytes. -/
def toSigned (n v : Nat) : Int := if v < 2 ^ (8 * n - 1) then (v : Int) else (v : Int) - (2 ^ (8 * n) : Nat)

/-- The little-endian two's complement bytes of an integer. -/
def intBytes (n : Nat) (v : Int) : List Byte := leBytes n (v % (2 ^ (8 * n) : Nat)).toNat

/-- A value of a type from the bytes written (R495). -/
def decodeVal (t : Ty) (b : List Byte) : Val :=
  match t.size with
  | none => .bytes b
  | some n => if t.signed then .num (toSigned n (leNat b)) else .num (leNat b)

/-- The bytes of a value of a type (R495). -/
def encodeVal (t : Ty) (v : Val) : List Byte :=
  match v with
  | .bytes b => b
  | .num i => match t.size with
    | none => []
    | some n => intBytes n i

/-- Bit i of a byte string: bit (i mod 8) of byte floor(i / 8) (R495). -/
def bitOf (b : List Byte) (i : Nat) : Bool := ((b.getD (i / 8) 0).toNat / 2 ^ (i % 8)) % 2 == 1

/-- n bytes holding the bits of a list of positions. -/
def bitmap (n : Nat) (is : List Nat) : List Byte :=
  (List.range n).map fun j =>
    BitVec.ofNat 8 ((List.range 8).foldl (fun a i => if is.contains (8 * j + i) then a + 2 ^ i else a) 0)

/-- Bit i of a number. -/
def bit (v i : Nat) : Bool := (v / 2 ^ i) % 2 == 1

/-- The number with a bit set. -/
def setBit (v i : Nat) : Nat := if bit v i then v else v + 2 ^ i

/-- The number with a bit cleared. -/
def clrBit (v i : Nat) : Nat := if bit v i then v - 2 ^ i else v

/-- floor division rounded up. -/
def cdiv (a b : Nat) : Nat := (a + b - 1) / b

/-- 65536 and the like: the smaller of a value and a ceiling. -/
def sat (m v : Nat) : Nat := if v ≤ m then v else m

/-- The bits of a boolean as a number. -/
def b2n (b : Bool) : Nat := if b then 1 else 0

/-! ### The dictionary -/

/-- The value of an object: its listed entry, or its default. -/
def storeVal (m : Store) (k : Nat) : Val := (look m k).getD (objDefault k)

/-- The store with an object set; a value equal to the default is not listed. -/
def storePut (m : Store) (k : Nat) (v : Val) : Store := if v = objDefault k then tabDrop m k else tabIns m k v

/-- The number of a value; bytes count as 0. -/
def Val.int : Val → Int
  | .num v => v
  | .bytes _ => 0

/-- The bytes of a value; a number has none. -/
def Val.raw : Val → List Byte
  | .num _ => []
  | .bytes b => b

/-- The value of an object in the dictionary. -/
def Dev.val (d : Dev) (k : Nat) : Val := storeVal d.dict k

/-- The number of an object. -/
def Dev.num (d : Dev) (k : Nat) : Int := (d.val k).int

/-- The number of an unsigned object. -/
def Dev.nat (d : Dev) (k : Nat) : Nat := (d.num k).toNat

/-- The bytes of an object. -/
def Dev.bytesOf (d : Dev) (k : Nat) : List Byte := (d.val k).raw

/-- The dictionary with an object set. -/
def Dev.putVal (d : Dev) (k : Nat) (v : Val) : Dev := { d with dict := storePut d.dict k v }

/-- The dictionary with a number set. -/
def Dev.putInt (d : Dev) (k : Nat) (v : Int) : Dev := d.putVal k (.num v)

/-- The dictionary with an unsigned number set. -/
def Dev.put (d : Dev) (k v : Nat) : Dev := d.putVal k (.num (v : Int))

/-- The dictionary with bytes set. -/
def Dev.putBytes (d : Dev) (k : Nat) (b : List Byte) : Dev := d.putVal k (.bytes b)

/-- How many values a counter of the object's type has. -/
def counterMod (k : Nat) : Nat :=
  match objRow k with
  | some r => (match r.ty.size with
    | some n => 2 ^ (8 * n)
    | none => 1)
  | none => 1

/-- A counter raised by n. The spec says of most counters only that they count; past the top of the type the value
is a free one, of the object and the count. -/
def Dev.count (d : Dev) (k : Nat) (n : Nat := 1) : Dev :=
  let v := d.nat k + n
  d.put k (if v < counterMod k then v else Config.counterPast k v % counterMod k)

/-- A counter the spec calls wrapping, raised by n. -/
def Dev.countWrap (d : Dev) (k : Nat) (n : Nat := 1) : Dev := d.put k ((d.nat k + n) % counterMod k)

/-- A counter that holds at a ceiling the spec names. -/
def Dev.countSat (d : Dev) (k m : Nat) (n : Nat := 1) : Dev := d.put k (sat m (d.nat k + n))

/-- An object raised to a value where that is larger. -/
def Dev.putMax (d : Dev) (k v : Nat) : Dev := if d.nat k < v then d.put k v else d

/-! ### Profiles during a switch (R403) -/

/-- The profile of a channel. -/
def Dev.prof (d : Dev) (n : Nat) : Nat := d.nat (Obj.CH_PROFILE n)

/-- A profile field as a channel uses it. While a configuration switch is in progress, the dictionary shows new
profile values from G00's boundary, and a channel uses them from its own group's boundary; where only one of the two
has passed, the channel's value is the one the other half holds. -/
def Dev.pval (d : Dev) (n k : Nat) : Val :=
  match d.cfg.switch with
  | some w =>
    if w.started && (w.passed.contains (n / 4) != w.passed.contains 0) then storeVal d.staged k else d.val k
  | none => d.val k

def Dev.pnum (d : Dev) (n k : Nat) : Int := (d.pval n k).int
def Dev.pnat (d : Dev) (n k : Nat) : Nat := (d.pnum n k).toNat
def Dev.pbytes (d : Dev) (n k : Nat) : List Byte := (d.pval n k).raw

/-! ### The entities -/

def Dev.ch (d : Dev) (n : Nat) : Chan := lookD {} d.chan n
def Dev.setCh (d : Dev) (n : Nat) (c : Chan) : Dev := { d with chan := tabPut {} d.chan n c }
def Dev.lf (d : Dev) (n : Nat) : LifeSt := lookD {} d.life n
def Dev.setLf (d : Dev) (n : Nat) (c : LifeSt) : Dev := { d with life := tabPut {} d.life n c }
def Dev.gr (d : Dev) (g : Nat) : Grp := lookD {} d.grp g
def Dev.setGr (d : Dev) (g : Nat) (c : Grp) : Dev := { d with grp := tabPut {} d.grp g c }
def Dev.sgp (d : Dev) (s : Nat) : SigGrp := lookD {} d.sg s
def Dev.setSgp (d : Dev) (s : Nat) (c : SigGrp) : Dev := { d with sg := tabPut {} d.sg s c }
def Dev.eng (d : Dev) (e : Nat) : Pe := lookD {} d.pe e
def Dev.setEng (d : Dev) (e : Nat) (c : Pe) : Dev := { d with pe := tabPut {} d.pe e c }
def Dev.port (d : Dev) (k : Nat) : Gw := lookD {} d.gw k
def Dev.setPort (d : Dev) (k : Nat) (c : Gw) : Dev := { d with gw := tabPut {} d.gw k c }
def Dev.fi (d : Dev) (k : Nat) : Fin' := lookD {} d.fin k
def Dev.setFi (d : Dev) (k : Nat) (c : Fin') : Dev := { d with fin := tabPut {} d.fin k c }
def Dev.ln (d : Dev) (l : Nat) : LaneSt := lookD {} d.lanes.lane l
def Dev.setLn (d : Dev) (l : Nat) (c : LaneSt) : Dev := { d with lanes := { d.lanes with lane := tabPut {} d.lanes.lane l c } }
def Dev.cl (d : Dev) (k : Nat) : Client := lookD {} d.lanes.client k
def Dev.setCl (d : Dev) (k : Nat) (c : Client) : Dev :=
  { d with lanes := { d.lanes with client := tabPut {} d.lanes.client k c } }
def Dev.fg (d : Dev) (f : Nat) : Fence := lookD {} d.lanes.fence f
def Dev.setFg (d : Dev) (f : Nat) (c : Fence) : Dev :=
  { d with lanes := { d.lanes with fence := tabPut {} d.lanes.fence f c } }
def Dev.hop (d : Dev) (p : Nat) : Hop := lookD {} d.ring.hop p
def Dev.setHop (d : Dev) (p : Nat) (c : Hop) : Dev := { d with ring := { d.ring with hop := tabPut {} d.ring.hop p c } }
def Dev.pos (d : Dev) (p : Nat) : Pos := lookD {} d.ring.pos p
def Dev.setPos (d : Dev) (p : Nat) (c : Pos) : Dev := { d with ring := { d.ring with pos := tabPut {} d.ring.pos p c } }
def Dev.slot (d : Dev) (i : Nat) : Slot := lookD {} d.admin.slot i
def Dev.setSlot (d : Dev) (i : Nat) (c : Slot) : Dev :=
  { d with admin := { d.admin with slot := tabPut {} d.admin.slot i c } }

/-- The level of a gate; an unlisted gate is low. -/
def Dev.gate (d : Dev) (n : Nat) : GateLevel := lookD .low d.outs.gate n
def Dev.setGate (d : Dev) (n : Nat) (l : GateLevel) : Dev :=
  { d with outs := { d.outs with gate := tabPut .low d.outs.gate n l } }

/-- The level of an isolator output; an unlisted one is high impedance. -/
def Dev.iso (d : Dev) (g : Nat) : Tri := lookD .z d.outs.iso g
def Dev.setIso (d : Dev) (g : Nat) (l : Tri) : Dev := { d with outs := { d.outs with iso := tabPut .z d.outs.iso g l } }

/-- The block with one more output. -/
def Dev.emit (d : Dev) (o : Out) : Dev := { d with sent := d.sent ++ [o] }

/-- A fold of a change of the block over numbers. -/
def Dev.each (d : Dev) (ns : List Nat) (f : Dev → Nat → Dev) : Dev := ns.foldl f d

end Sys2Proof.Machine
end

