-- ==== Sys2Proof/Machine/Crypto.lean ====
section
/-! DEFINITION. Checksums and digests the spec names: CRC-32C, SHA-256, HMAC-SHA-256 and the P-256 signature check. Their
algorithms are the published ones; the spec names them and gives no formula (PRESUMED, log entry 10). Words are numbers
below 2^32. -/
namespace Sys2Proof.Machine

/-! ### CRC-32C -/

/-- Eight shifts of the reflected register with the polynomial 0x82F63B78. -/
def crcShift (n r : Nat) : Nat :=
  match n with
  | 0 => r
  | n + 1 => crcShift n (if r % 2 = 1 then Nat.xor (r / 2) 0x82F63B78 else r / 2)

/-- The register after the bytes. -/
def crcFold (r : Nat) (b : List Byte) : Nat := b.foldl (fun r x => crcShift 8 (Nat.xor r x.toNat)) r

/-- CRC-32C of bytes. -/
def crc32c (b : List Byte) : Nat := Nat.xor (crcFold 0xFFFFFFFF b) 0xFFFFFFFF

/-- CRC-8 with polynomial 0x07 over a byte string, register from 0. -/
def crc8 (b : List Byte) : Nat :=
  b.foldl (fun r x => (List.range 8).foldl
    (fun r _ => if 128 ≤ r then Nat.xor (2 * r % 256) 7 else 2 * r) (Nat.xor r x.toNat)) 0

/-! ### SHA-256 -/

/-- Rotation of a word to the right. -/
def rotr (n x : Nat) : Nat := (x / 2 ^ n + x * 2 ^ (32 - n)) % 2 ^ 32

/-- The low k bits of the largest number whose e-th power is not above n, the higher bits given. -/
def rootLow (e n : Nat) : Nat → Nat → Nat
  | 0, high => high
  | k + 1, high => rootLow e n k (if (high + 2 ^ k) ^ e ≤ n then high + 2 ^ k else high)

/-- The first 32 fraction bits of the e-th root of a number below 2^(3 e). -/
def rootFraction (e p : Nat) : Nat := rootLow e (p * 2 ^ (32 * e)) 35 0 % 2 ^ 32

/-- The first 64 primes. -/
def shaPrimes : List Nat := ((List.range 312).drop 2).filter fun p => (List.range 18).all fun i => decide (i < 2 ∨ p ≤ i ∨ p % i ≠ 0)

/-- One constant for each of the 64 rounds: the cube roots. -/
def shaRounds : List Nat := shaPrimes.map (rootFraction 3)

/-- The eight working words. -/
structure ShaState where
  a : Nat
  b : Nat
  c : Nat
  d : Nat
  e : Nat
  f : Nat
  g : Nat
  h : Nat
  deriving DecidableEq, Repr

/-- The words in order. -/
def ShaState.words (s : ShaState) : List Nat := [s.a, s.b, s.c, s.d, s.e, s.f, s.g, s.h]

/-- The working words from eight in order. -/
def ShaState.ofWords (w : List Nat) : ShaState :=
  ⟨w.getD 0 0, w.getD 1 0, w.getD 2 0, w.getD 3 0, w.getD 4 0, w.getD 5 0, w.getD 6 0, w.getD 7 0⟩

/-- The words a message begins with: the square roots. -/
def shaStart : ShaState := .ofWords ((shaPrimes.take 8).map (rootFraction 2))

/-- The number of big-endian bytes. -/
def beNat (b : List Byte) : Nat := b.foldl (fun a x => 256 * a + x.toNat) 0

/-- The n big-endian bytes of a number. -/
def beBytes (n v : Nat) : List Byte := (leBytes n v).reverse

/-- The exclusive or of a word turned right by each count, and of a last word. -/
def turned (counts : List Nat) (x last : Nat) : Nat := counts.foldl (fun y n => Nat.xor y (rotr n x)) last

/-- The word that follows a window of sixteen. -/
def nextWord (w : List Nat) : Nat :=
  let early := w.getD 1 0
  let late := w.getD 14 0
  (w.getD 0 0 + turned [7, 18] early (early / 8) + w.getD 9 0 + turned [17, 19] late (late / 1024)) % 2 ^ 32

/-- A round with its constant and the first word of the window added up. -/
def ShaState.round (s : ShaState) (kw : Nat) : ShaState :=
  let choice := Nat.xor s.g (Nat.land s.e (Nat.xor s.f s.g))
  let majority := Nat.lor (Nat.land s.a s.b) (Nat.land s.c (Nat.lor s.a s.b))
  let up := s.h + turned [6, 11, 25] s.e 0 + choice + kw
  { a := (up + turned [2, 13, 22] s.a 0 + majority) % 2 ^ 32, b := s.a, c := s.b, d := s.c,
    e := (s.d + up) % 2 ^ 32, f := s.e, g := s.f, h := s.g }

/-- A round on the working words and the window, which moves on by one word. -/
def shaTurn (x : ShaState × List Nat) (k : Nat) : ShaState × List Nat :=
  (x.1.round (k + x.2.getD 0 0), x.2.drop 1 ++ [nextWord x.2])

/-- A message of whole blocks of 64 bytes, n of them. -/
def ShaState.absorb (n : Nat) (s : ShaState) (b : List Byte) : ShaState :=
  match n with
  | 0 => s
  | n + 1 =>
    let window := (List.range 16).map fun i => beNat ((b.drop (4 * i)).take 4)
    let done := (shaRounds.foldl shaTurn (s, window)).1
    absorb n (.ofWords ((s.words.zip done.words).map fun x => (x.1 + x.2) % 2 ^ 32)) (b.drop 64)

/-- SHA-256 of bytes: one bit, zeros, and the length in bits end the last block. -/
def sha256 (b : List Byte) : List Byte :=
  let blocks := (b.length + 72) / 64
  let zeros := List.replicate (64 * blocks - b.length - 9) (0 : Byte)
  (shaStart.absorb blocks (b ++ 0x80 :: zeros ++ beBytes 8 (8 * b.length))).words.flatMap (beBytes 4)

/-- HMAC-SHA-256 of bytes under a key. -/
def hmac256 (key b : List Byte) : List Byte :=
  let k0 := if 64 < key.length then sha256 key else key
  let k := padTo' 64 k0
  sha256 (k.map (fun x => x ^^^ 0x5C) ++ sha256 (k.map (fun x => x ^^^ 0x36) ++ b))
where
  /-- Zeros up to a length. -/
  padTo' (n : Nat) (b : List Byte) : List Byte := b ++ List.replicate (n - b.length) 0

/-! ### ECDSA over P-256 -/

/-- The field prime of P-256. -/
def p256P : Nat := 0xFFFFFFFF00000001000000000000000000000000FFFFFFFFFFFFFFFFFFFFFFFF
/-- The group order of P-256. -/
def p256N : Nat := 0xFFFFFFFF00000000FFFFFFFFFFFFFFFFBCE6FAADA7179E84F3B9CAC2FC632551
/-- The curve coefficient b. -/
def p256B : Nat := 0x5AC635D8AA3A93E7B3EBBD55769886BC651D06B0CC53B0F63BCE3C3E27D2604B
/-- The base point. -/
def p256G : Nat × Nat :=
  (0x6B17D1F2E12C4247F8BCE6E563A440F277037D812DEB33A0F4A13945D898C296,
   0x4FE342E2FE1A7F9B8EE7EB4A7C0F9E162BCE33576B315ECECBB6406837BF51F5)

/-- The power of a number to an exponent of at most `fuel` bits, modulo m. -/
def powMod (fuel m b e : Nat) : Nat :=
  match fuel with
  | 0 => 1 % m
  | f + 1 => if e % 2 = 1 then b * powMod f m (b * b % m) (e / 2) % m else powMod f m (b * b % m) (e / 2)

/-- The inverse modulo a prime. -/
def invMod (m a : Nat) : Nat := powMod 256 m a (m - 2)

/-- The sum of two points of the curve; none is the point at infinity. -/
def ecAdd (p q : Option (Nat × Nat)) : Option (Nat × Nat) :=
  match p, q with
  | none, q => q
  | p, none => p
  | some (x1, y1), some (x2, y2) =>
    if x1 = x2 ∧ (y1 + y2) % p256P = 0 then none
    else
      let m := if x1 = x2 then (3 * x1 * x1 + (p256P - 3)) * invMod p256P (2 * y1 % p256P) % p256P
        else ((y2 + p256P - y1) * invMod p256P ((x2 + p256P - x1) % p256P)) % p256P
      let x3 := (m * m + 2 * p256P - x1 - x2) % p256P
      some (x3, (m * (x1 + p256P - x3) + p256P - y1) % p256P)

/-- A multiple of a point, for a multiplier of at most `fuel` bits. -/
def ecMul (fuel k : Nat) (p : Option (Nat × Nat)) : Option (Nat × Nat) :=
  match fuel with
  | 0 => none
  | f + 1 => let r := ecMul f (k / 2) (ecAdd p p); if k % 2 = 1 then ecAdd p r else r

/-- Is the point on the curve? -/
def onCurve (x y : Nat) : Bool :=
  decide (x < p256P) && decide (y < p256P) && (y * y) % p256P == (x * x * x + (p256P - 3) * x + p256B) % p256P

/-- The signature check: public key and signature are 64 bytes each, big-endian halves, over a 32-byte digest. -/
def ecdsaOk (pub digest sig : List Byte) : Bool :=
  let x := beNat (pub.take 32)
  let y := beNat (pub.drop 32)
  let r := beNat (sig.take 32)
  let s := beNat (sig.drop 32)
  if pub.length ≠ 64 ∨ sig.length ≠ 64 ∨ !onCurve x y ∨ r = 0 ∨ p256N ≤ r ∨ s = 0 ∨ p256N ≤ s then false
  else
    let w := invMod p256N s
    let u1 := beNat digest * w % p256N
    let u2 := r * w % p256N
    match ecAdd (ecMul 256 u1 (some p256G)) (ecMul 256 u2 (some (x, y))) with
    | none => false
    | some (x1, _) => x1 % p256N == r

end Sys2Proof.Machine
end

