-- ==== Sys2Proof/Machine/Cosine.lean ====
section
/-! DEFINITION. The table C of the BREATHE segment (R240): C[k] = round(32768 * (1 - cos(2 pi k / 1024))), k = 0 to 1023.
The first quarter is listed; the rest follows from the symmetries of the cosine. -/
namespace Sys2Proof.Machine

/-- C[0] to C[31]. -/
def cosQuarter0 : List Nat := [0, 1, 2, 6, 10, 15, 22, 30, 39, 50, 62, 75, 89, 104, 121, 139, 158, 178, 200, 222, 246, 272, 298, 326, 355, 385, 416, 449, 482, 517, 554, 591]

/-- C[32] to C[63]. -/
def cosQuarter1 : List Nat := [630, 669, 710, 753, 796, 841, 887, 934, 982, 1031, 1082, 1134, 1187, 1241, 1297, 1353, 1411, 1470, 1530, 1591, 1654, 1718, 1782, 1848, 1915, 1984, 2053, 2124, 2196, 2269, 2343, 2418]

/-- C[64] to C[95]. -/
def cosQuarter2 : List Nat := [2494, 2572, 2650, 2730, 2811, 2893, 2976, 3061, 3146, 3233, 3320, 3409, 3499, 3590, 3682, 3775, 3869, 3965, 4061, 4158, 4257, 4357, 4457, 4559, 4662, 4766, 4871, 4977, 5084, 5192, 5301, 5411]

/-- C[96] to C[127]. -/
def cosQuarter3 : List Nat := [5522, 5635, 5748, 5862, 5977, 6094, 6211, 6329, 6448, 6569, 6690, 6812, 6935, 7060, 7185, 7311, 7438, 7566, 7695, 7825, 7956, 8088, 8220, 8354, 8489, 8624, 8760, 8898, 9036, 9175, 9315, 9456]

/-- C[128] to C[159]. -/
def cosQuarter4 : List Nat := [9598, 9740, 9884, 10028, 10173, 10319, 10466, 10614, 10762, 10912, 11062, 11213, 11365, 11517, 11671, 11825, 11980, 12136, 12293, 12450, 12608, 12767, 12927, 13087, 13248, 13410, 13573, 13736, 13900, 14065, 14230, 14396]

/-- C[160] to C[191]. -/
def cosQuarter5 : List Nat := [14563, 14731, 14899, 15068, 15237, 15407, 15578, 15750, 15922, 16095, 16268, 16442, 16617, 16792, 16968, 17144, 17321, 17499, 17677, 17856, 18035, 18215, 18395, 18576, 18758, 18940, 19122, 19305, 19489, 19673, 19858, 20043]

/-- C[192] to C[223]. -/
def cosQuarter6 : List Nat := [20228, 20414, 20601, 20788, 20975, 21163, 21351, 21540, 21729, 21918, 22108, 22299, 22489, 22680, 22872, 23064, 23256, 23449, 23641, 23835, 24028, 24222, 24417, 24611, 24806, 25001, 25197, 25392, 25588, 25785, 25981, 26178]

/-- C[224] to C[255]. -/
def cosQuarter7 : List Nat := [26375, 26573, 26770, 26968, 27166, 27364, 27563, 27761, 27960, 28159, 28358, 28557, 28757, 28956, 29156, 29356, 29556, 29756, 29957, 30157, 30357, 30558, 30759, 30959, 31160, 31361, 31562, 31763, 31964, 32165, 32366, 32567]

/-- C[256] to C[256]. -/
def cosQuarter8 : List Nat := [32768]

/-- C[0] to C[256]. -/
def cosQuarter : List Nat := cosQuarter0 ++ cosQuarter1 ++ cosQuarter2 ++ cosQuarter3 ++ cosQuarter4 ++ cosQuarter5 ++ cosQuarter6 ++ cosQuarter7 ++ cosQuarter8

/-- C[k] for k = 0 to 1023 (R240). -/
def cosC (k : Nat) : Nat :=
  let j := if k ≤ 512 then k else 1024 - k
  if j ≤ 256 then cosQuarter.getD j 0 else 65536 - cosQuarter.getD (512 - j) 0

end Sys2Proof.Machine
end

