-- ==== Sys2Proof/Machine/Ops.lean ====
section
/-! DEFINITION. The shared shape of every command: the requests that wait beside it, its change of the block, and the
output stage every level passes (R48, R50, R83, R92, R204, R205, R330, R411). -/
namespace Sys2Proof.Machine

/-- The lane's number. -/
def laneNo : LaneId → Nat
  | .a => 0
  | .b => 1
  | .c => 2

/-- The requests at mutex points that a write makes by where it comes from: lanes at M00, M01 and M09, the service port
at M09 (Table 1.4). -/
def originRequests : Origin → List (Nat × Nat)
  | .lane l _ _ _ => [(0, laneNo l), (9, 0), (1, 0)]
  | .svc _ _ _ _ => [(9, 2)]

/-- The requests of a write that is granted at the duty-register port M12. -/
def dutyRequests (o : Origin) : List (Nat × Nat) := originRequests o ++ [(12, 0)]

/-- The requests at mutex points that a waiting command makes as it arrives (Table 1.4): of each row of the table the
commands that stand for a request of it. Telemetry, which gives way at M05, is listed as requester 0 + 4 (R379). -/
def requestsOf (i : Instr) : List (Nat × Nat) :=
  match i with
  | .laneHeartbeatRx l _ _ | .laneTimeRx l _ | .laneSyncRx l _ => [(0, laneNo l)]
  | .nmtStartRemoteNode l _ | .nmtStopRemoteNode l _ | .nmtEnterPreOperational l _ | .nmtResetNode l _
  | .nmtResetCommunication l _ => [(0, laneNo l), (1, 0)]
  | .usdoUpload l _ _ => [(0, laneNo l), (9, 0), (7, 2)]
  | .writeRegister w =>
    (match w with
     | .voted l _ _ _ _ _ | .rpdo l _ _ _ _ => [(0, laneNo l), (9, 0), (1, 0)]
     | .download l _ _ _ | .malformed l | .segment l _ _ _ _ => [(0, laneNo l), (9, 0)]
     | .svc _ _ _ _ _ _ _ => [(9, 2)])
  | .dimLevel o _ _ | .sgRequest o _ _ | .peChBind o _ _ | .peStart o _ | .peStop o _ | .peJumpSeg o _ _ | .gwData o _ _
  | .gwSwap o _ | .mxRow o _ _ | .mxSwap o | .supClear o _ _ | .lifeReset o _ => dutyRequests o
  | .clBudgetNowMw o _ _ | .clRetain o _ _ | .fenceIssue o _ _ | .tkFence o _ _ | .stagedWrite o _ _ => originRequests o
  | .ringCommandRx _ => [(8, 0), (1, 1)]
  | .timeMapRx _ _ _ | .aspectCommitRx _ _ _ _ _ | .fenceMarkRx _ _ _ | .nakRx _ _ _ | .dictRespRx _ _ _ _ _ | .statusRx _
  | .conditionFrameRx _ _ _ _ _ _ _ _ | .telemetryRx _ _ _ | .joinRx _ | .admitRx _ _ _ | .joinRefusalRx _ _
  | .testGrantRx _ _ => [(8, 0)]
  | .periodicBankDue | .earlyBankDue => [(2, 0)]
  | .stageOpenDone | .fwEraseDone | .emberCompaction => [(2, 1)]
  | .patrolStart => [(2, 2)]
  | .segmentSeal => [(3, 0), (4, 2)]
  | .extractLoad _ _ _ _ _ _ | .extractLoadFinal _ _ _ _ _ _ => [(3, 2)]
  | .authResponse _ _ _ _ => [(4, 0)]
  | .stagingChecksDone => [(4, 1)]
  | .fwVerifyDone => [(4, 3)]
  | .telemetrySend => [(5, 4)]
  | .ringTimeSend | .statusSend | .joinRetry | .testGrantSend | .commitRepeat | .delayReqPeriod _ => [(5, 0)]
  | .evidenceClose _ _ | .dcEIntervalEnd _ _ | .litWhenDarkDebounce _ | .probeEnd _ _ | .warmingPulseJudge _ _ _ => [(6, 0)]
  | .railDipDebounce _ _ | .railDipClear _ _ | .laneSilentTimeout _ | .laneTimeout _ | .finBreakEnter _ | .finBreakExit _
  | .voteDisagreeClear _ => [(6, 1)]
  | .claimConflictClear _ => [(6, 2)]
  | .emcyWindow _ => [(7, 0)]
  | .tpdoEventTimer _ | .statusPdoSend => [(7, 1)]
  | .heartbeatPeriod _ => [(7, 3)]
  | .svcRead _ _ _ _ _ _ => [(9, 2)]
  | .dictReqRx _ _ _ => [(8, 0), (9, 1)]
  | .ringTimeRx r => [(8, r.port.val)]
  | .finRawEdge _ _ => [(10, 0)]
  | .opticalWindowClose _ _ => [(10, 1)]
  | .preTriggerWindowFilled | .captureSramFull => [(11, 0)]
  | .captureDrainDone _ _ => [(11, 1)]
  | .deratingUpdate => [(12, 2)]
  | .autonomyUpdate => [(12, 3)]
  | .slicePhase _ => [(13, 0)]
  | .sliceEnd => [(13, 1)]
  | _ => []

/-- The requests of the commands that wait behind the one that runs (log entry 13). -/
def waits (q : List Instr) : List (Nat × Nat) := q.flatMap requestsOf

/-- The test state of R474. -/
def Dev.testState (d : Dev) : Bool := d.nat Obj.TT_ENGINE_STATE != 0

/-- Are the isolators released and both safe-state outputs asserted whatever their sources ask: in HALT-SAFE, in
REPLAY, in the loader, in reset, in FACTORY and RETIRED, and in the test state (R204, R205, R411, R438, R474)? -/
def Dev.isolates (d : Dev) : Bool :=
  d.op == .haltSafe || d.op == .replay || d.op == .loader || d.power.inReset || d.lc == .factory || d.lc == .retired ||
    d.testState

/-- Is every lamp output held off: where the block isolates, after the watchdog acted, or in a power-fail bank (R48,
R330)? -/
def Dev.darkened (d : Dev) : Bool := d.isolates || d.guard.tripped || d.power.banked

/-- Has this boot reached KINDLED? -/
def Dev.kindledPast (d : Dev) : Bool := decide (5 ≤ d.nat Obj.KINDLE_PHASE)

/-- Is the ring bypass closed (R375, R474, R476)? -/
def Dev.bypassClosed (d : Dev) : Bool :=
  if d.power.inReset || d.op == .replay || d.op == .loader || d.ring.yielded then true
  else if d.testState then !(d.nat Obj.LK_STATE == 2 && d.nat Obj.LK_PATH == 1)
  else if d.nat Obj.RING_ROLE = 2 then !d.ring.inserted
  else if d.nat Obj.RING_ROLE = 1 then !d.kindledPast
  else true

/-- The standby outputs of the lanes (Table 8.1). -/
def Dev.standby (d : Dev) : Tri :=
  if d.power.inReset then .z
  else if !d.kindledPast || d.op == .replay || d.op == .loader || d.nat Obj.RING_ROLE == 2 || d.testState then .high
  else .low

/-- The HANDOVER output (R430). -/
def Dev.handoverOut (d : Dev) : Tri :=
  if d.power.inReset then .z
  else if !d.isolates && d.op == .operating && (d.nat Obj.HO_STATE == 2 || d.nat Obj.HO_STATE == 3) then .high
  else .low

/-- Is IRQ_N low: a condition is active, or the block is in HALT-SAFE, REPLAY or the loader (R525)? In reset it is high
impedance. -/
def Dev.irqLow (d : Dev) : Bool :=
  !d.power.inReset && (!d.rep.conds.isEmpty || d.op == .haltSafe || d.op == .replay || d.op == .loader)

/-- The output stage: every level as the state of the block has it. Where the lamp outputs are held off, every gate is
low, glowworm lines and the matrix are off; where the block isolates or the watchdog acted, every ISO output is high
impedance. SAFE0_N is asserted until KINDLED, SAFE1_N until the watchdog has both tokens since then. IRQ_N is low while
a condition is active, and in HALT-SAFE, REPLAY and the loader. SVC_PHYRST_N is low until KINDLED and while the service
port is not used (R48, R50, R92, R204, R205, R330, R411, R430, R525, R533). -/
def Dev.outStage (d : Dev) : Dev :=
  { d with outs := {
      gate := if d.darkened then [] else d.outs.gate
      iso := if d.isolates || d.guard.tripped then [] else d.outs.iso
      safe0 := d.darkened || d.op == .kindling
      safe1 := d.darkened || d.op == .kindling || !(d.guard.supIn && d.guard.stokerIn)
      stb := d.standby
      handover := d.handoverOut
      irq := d.irqLow
      phyRst := d.power.inReset || !d.kindledPast || d.nat Obj.SVC_USE == 0
      bypass := d.bypassClosed
      gwOn := !d.darkened && d.outs.gwOn
      mxRow := if d.darkened then none else d.outs.mxRow
      mxCols := if d.darkened then [] else d.outs.mxCols } }

/-- A change of the block as a next state: the requests of the waiting commands stand beside it while it runs, and the
levels it leaves pass the output stage. The queue is as it was. -/
def State.on (s : State) (f : Dev → Dev) : Host.Outcome State Fault Refusal :=
  .next { s with dev := { (f { s.dev with waiters := waits s.pending }).outStage with waiters := [] } }

/-- Objects whose values a run of the replay leaves as the block's own: the fuses, replay and extract control, life
cycle, sessions and firmware (R362, R365). -/
def ownKey (k : Nat) : Bool :=
  let i := k / 256
  (match objRow k with
   | some r => r.pers == .fuse
   | none => false) || (decide (0x23C0 ≤ i) && decide (i < 0x2400)) || (decide (0x2500 ≤ i) && decide (i < 0x2600))

/-- The block's own values come back when a run is left (R362, R365, Table 10.8). -/
def Dev.ownBack (d : Dev) : Dev :=
  match d.replay.own with
  | some o =>
    { now := d.now, ticks := d.ticks, op := d.op, lc := d.lc
      dict := (o.dict.filter fun (e : Nat × Val) => !ownKey e.1) |>.foldl (fun (m : Store) e => storePut m e.1 e.2)
        (d.dict.filter fun (e : Nat × Val) => ownKey e.1)
      banked := d.banked, staged := o.staged, sent := d.sent, digests := d.digests, waiters := d.waiters, freeCount := d.freeCount
      outs := d.outs, ins := d.ins, rep := o.rep, jnl := d.jnl, ember := d.ember, cfg := o.cfg, guard := d.guard
      power := d.power, admin := d.admin, test := d.test
      replay := { d.replay with own := none, run := false, inputs := [], made := [] } }
  | none => d

/-- A run of the replay stands, in progress or ended, and no step of it is being computed: of the commands only those
of the service port, of reset and of power act, and REPLAY_INPUT drives the run (R361, R365). -/
def Dev.frozen (d : Dev) : Bool := d.op == .replay && d.replay.own.isSome

/-- A command that acts only while the block is neither in HALT-SAFE nor held in reset: there its machinery is stopped
and nothing changes (R51, R204, R409). -/
def Dev.alive (d : Dev) : Bool := d.op != .haltSafe && !d.power.inReset && !d.frozen

/-- A change of the block that only an active block makes. -/
def State.live (s : State) (f : Dev → Dev) : Host.Outcome State Fault Refusal :=
  s.on fun d => if d.alive then f d else d

/-- A change made by the lanes, the ring, the service port, the capture, the journal or the termite: an active block
makes it, and a power-fail bank stops it (R330). -/
def State.serve (s : State) (f : Dev → Dev) : Host.Outcome State Fault Refusal :=
  s.on fun d => if d.alive && !d.power.banked then f d else d

/-- A change that HALT-SAFE makes too: reads, heartbeats, reports and what R51 and R459 permit there. -/
def State.talk (s : State) (f : Dev → Dev) : Host.Outcome State Fault Refusal :=
  s.on fun d => if !d.power.inReset && !d.power.banked && !d.frozen then f d else d

/-- A change by the service port, which answers in HALT-SAFE and during a run of the replay too (R365, R519). -/
def State.port (s : State) (f : Dev → Dev) : Host.Outcome State Fault Refusal :=
  s.on fun d => if !d.power.inReset && !d.power.banked then f d else d

/-- A change by the watchdog, the tempo monitor, the crickets, the supply monitors and the store's banks, which go on in
HALT-SAFE and in a power-fail bank (R43, R48 to R50, R330, R410). -/
def State.guarded (s : State) (f : Dev → Dev) : Host.Outcome State Fault Refusal :=
  s.on fun d => if !d.power.inReset then f d else d

/-- The calendar of the cicada domain counts one tick; it runs in reset too (R417, R419). -/
def Dev.calendarTick (d : Dev) : Dev :=
  if d.power.calTick + 1 < 100000000 then { d with power := { d.power with calTick := d.power.calTick + 1 } }
  else ({ d with power := { d.power with calTick := 0 } }).countWrap Obj.CAL_NOW

/-- One tick of 10 ns (R52). Powered time counts whole seconds of device time; in reset only the calendar counts. -/
def tick (d : Dev) : Dev :=
  let d := d.calendarTick
  if d.power.inReset then d
  else
    let unattended := d.lc == .maintenance && !d.admin.sessionOpen
    let d := { d with now := d.now + 1, ticks := d.ticks + 1
                      admin := { d.admin with maintRun := if unattended then d.admin.maintRun + 1 else d.admin.maintRun } }
    if d.now % 100000000 = 0 then d.count Obj.POWERED_TIME_S else d

end Sys2Proof.Machine
end

