-- ==== Sys2Proof/Machine/Report.lean ====
section
/-! DEFINITION. The journal's event records (R36, R339), ring frames the block sends (R378), capture triggers (R347), and
conditions: raised, cleared and reported into the condition queue (R168, R171, R276, R504 to R510). -/
namespace Sys2Proof.Machine

/-! ### Roles -/

/-- On a ring member (RING_ROLE 2, R371). -/
def Dev.isMember (d : Dev) : Bool := d.nat Obj.RING_ROLE == 2

/-- On the master of a ring (RING_ROLE 1, R371). -/
def Dev.isMaster (d : Dev) : Bool := d.nat Obj.RING_ROLE == 1

/-- The block's own ring position; a standalone device is position 0. -/
def Dev.ownPos (d : Dev) : Nat := d.nat Obj.RING_POSITION

/-- OPERATING_STATE by its number. -/
def OpState.code : OpState → Nat
  | .kindling => 1 | .kindled => 2 | .operating => 3 | .haltSafe => 4 | .replay => 5 | .loader => 6

/-! ### Journal records -/

/-- The bytes a record takes in the event buffer: 4 of header and its payload (R339). -/
def JRec.size (r : JRec) : Nat := 4 + (Config.recordPayload r.ty r.fields r.data).length

/-- The bytes the event buffer holds. -/
def Dev.bufFill (d : Dev) : Nat := (d.jnl.buf.map JRec.size).sum

/-- The bytes of the event records of a span of ticks up to now. -/
def Dev.eventBytes (d : Dev) (span : Nat) : Nat :=
  ((d.jnl.recent.filter fun e => decide (d.now < e.1 + span)).map Prod.snd).sum

/-- An event record in the event rates: JNL_RATE_AVG looks at the last 60 s, JNL_RATE_PEAK at the fullest second (Table 9.14). -/
def Dev.eventRate (d : Dev) (size : Nat) : Dev :=
  let d := { d with jnl := { d.jnl with
    recent := (d.now, size) :: d.jnl.recent.filter fun e => decide (d.now < e.1 + 6000000000) } }
  { d with jnl := { d.jnl with ratePeak := max d.jnl.ratePeak (d.eventBytes 100000000) } }

/-- A record into the event buffer of 512 KiB; a record that finds no room is counted as lost with its time (R341,
R344). In REPLAY the records produced go to the comparison instead (R357). -/
def Dev.jrec (d : Dev) (ty : Nat) (fields : List Int) (data : List Byte := []) : Dev :=
  let r : JRec := ⟨ty, fields, data, d.now⟩
  if d.replay.run then { d with replay := { d.replay with made := d.replay.made ++ [r] } }
  else if d.op = .replay then d
  else
    let fits := d.bufFill + r.size ≤ 524288
    let d := d.eventRate r.size
    { d with jnl := { d.jnl with
        peak := if fits then max d.jnl.peak (d.bufFill + r.size) else d.jnl.peak
        buf := if fits then d.jnl.buf ++ [r] else d.jnl.buf
        lost := if fits then d.jnl.lost else d.jnl.lost + 1
        lostFirst := if fits then d.jnl.lostFirst else if d.jnl.lost = 0 then d.now else d.jnl.lostFirst
        lostLast := if fits then d.jnl.lostLast else d.now } }

/-! ### Mutex grants -/

/-- The event buffer with one more grant in the record of a run, where the record has not left it yet. -/
def bumpRun (l : List JRec) (fields : List Int) (n : Int) : Option (List JRec) :=
  match l with
  | [] => none
  | r :: rest =>
    match bumpRun rest fields n with
    | some rest' => some (r :: rest')
    | none =>
      if r.ty = 0x05 ∧ r.fields = fields then some ({ r with fields := fields.take 2 ++ [n] } :: rest) else none

/-- A grant to a requester is journalled. The record of a run is made at its first grant, with that grant's time; further
grants to the same requester count in it while it stands in the event buffer, and begin a new record once it has left
(R36). -/
def Dev.runRecord (d : Dev) (p w : Nat) : Dev :=
  let r := lookD {} d.jnl.runs p
  let fresh := { d.jrec 0x05 [(p : Int), (w : Int), 1] with jnl := { (d.jrec 0x05 [(p : Int), (w : Int), 1]).jnl with
    runs := tabPut {} d.jnl.runs p ⟨w, 1⟩ } }
  if r.winner = w ∧ r.count ≠ 0 then
    match bumpRun d.jnl.buf [(p : Int), (w : Int), (r.count : Int)] (r.count + 1) with
    | some l => { d with jnl := { d.jnl with buf := l, runs := tabPut {} d.jnl.runs p ⟨w, r.count + 1⟩ } }
    | none => fresh
  else fresh

/-- A grant at mutex point p to a requester: journalled (R36), and counted where it is made while another requester
waits at the point (Table 1.7). In a run of the replay the request waits for its recorded grant (R36, R367). -/
def Dev.grantAt (d : Dev) (p w : Nat) : Dev :=
  if d.replay.run then
    { d with replay := { d.replay with asked := tabIns d.replay.asked p (lookD [] d.replay.asked p ++ [(w, d.now)]) } }
  else
    let e := d.runRecord p w
    if d.waiters.any (fun x => x.1 == p && x.2 % 4 != w) then e.countWrap (Obj.MUTEX_CONTESTED p) else e

/-! ### The digest engine (R38) -/

/-- The requester that the digest engine works for: of the messages under way the one of highest priority. -/
def Dev.digestOwner (d : Dev) : Option Nat := (List.range 4).find? fun r => d.digests.contains r

/-- A message begins at the digest engine: one of higher priority pre-empts the message under way at its next block
boundary, another waits for its turn (R38). -/
def Dev.digestBegin (d : Dev) (r : Nat) : Dev :=
  let e := { d with digests := if d.digests.contains r then d.digests else d.digests ++ [r] }
  if e.digestOwner = some r ∧ d.digestOwner ≠ some r then e.grantAt 4 r else e

/-- The message of highest priority that waits goes on; one that is digested within its command, listed as r + 4, is
done with its turn. -/
def Dev.digestNext (d : Dev) (fuel : Nat) : Dev :=
  match fuel with
  | 0 => d
  | n + 1 =>
    match (List.range 4).find? fun r => d.digests.contains r || d.digests.contains (r + 4) with
    | some r =>
      let d := d.grantAt 4 r
      if d.digests.contains (r + 4) then Dev.digestNext { d with digests := d.digests.erase (r + 4) } n else d
    | none => d

/-- A message is done at the digest engine: the one of highest priority that is left resumes unchanged (R38). -/
def Dev.digestEnd (d : Dev) (r : Nat) : Dev :=
  let e := { d with digests := d.digests.filter (· != r) }
  if d.digestOwner = some r then e.digestNext (e.digests.length + 1) else e

/-- A message that is digested within one command: at once where it pre-empts what is under way, which then resumes;
behind a message of higher priority its turn comes when that one is done. -/
def Dev.digestOnce (d : Dev) (r : Nat) : Dev :=
  match d.digestOwner with
  | some q => if r ≤ q then (d.grantAt 4 r).grantAt 4 q else { d with digests := d.digests ++ [r + 4] }
  | none => d.grantAt 4 r

/-- A message is done, whether it was begun by an earlier command or not. -/
def Dev.digestDone (d : Dev) (r : Nat) : Dev := if d.digests.contains r then d.digestEnd r else d.digestOnce r

/-! ### Ring frames sent -/

/-- A ring frame of a class to a destination, with the next sequence of that class and destination (R378). -/
def Dev.ringOut (d : Dev) (cls dst : Nat) (payload : List Byte) (flags : Nat) : Out :=
  .ring cls flags d.ownPos dst (lookD 0 d.ring.txSeq (16 * cls + dst)) payload

/-- The sequence of a frame is taken. The last 256 COMMAND and DICT frames to each member are kept for retransmission
(R380). -/
def Dev.ringTake (d : Dev) (cls dst : Nat) (payload : List Byte) : Dev :=
  let q := lookD 0 d.ring.txSeq (16 * cls + dst)
  let kept := if cls = 0x10 ∨ cls = 0x20 then
      let mine := d.ring.sentFrames.filter fun f => f.1 == cls && f.2.1 == dst
      let others := d.ring.sentFrames.filter fun f => !(f.1 == cls && f.2.1 == dst)
      others ++ ((mine ++ [(cls, dst, q, payload)]).drop (mine.length + 1 - 256))
    else d.ring.sentFrames
  { d with ring := { d.ring with txSeq := tabPut 0 d.ring.txSeq (16 * cls + dst) ((q + 1) % 2 ^ 32), sentFrames := kept } }

/-- A ring frame goes out through M05 as an own frame (R379). -/
def Dev.ringSend (d : Dev) (cls dst : Nat) (payload : List Byte) (flags : Nat := 0) : Dev :=
  let d := d.grantAt 5 0
  (d.ringTake cls dst payload).emit (d.ringOut cls dst payload flags)

/-! ### Capture triggers (R347) -/

/-- The capture rate in bytes per second (R346). -/
def Dev.captureRate (d : Dev) : Nat :=
  let chs := ((List.range 96).filter fun n => bitOf (d.bytesOf Obj.CAP_CH_MASK) n).length
  let ffs := ((List.range 24).filter fun k => bit (d.nat Obj.CAP_FF_MASK) k).length
  let rate := [1000000, 500000, 250000, 100000].getD (d.nat Obj.CAP_RATE) 1000000
  3 * rate * chs / 2 + 40000 * ffs

/-- A capture trigger from a source: a condition code, 0xF000 + k for a field input, or 0xFFFF for a write. It starts a
capture when the pre-trigger window is full and rung 5 is not shed; otherwise it is recorded and counted as missed. A
disarmed capture takes no trigger. -/
def Dev.capTrigger (d : Dev) (source : Nat) : Dev :=
  if d.nat Obj.CAP_ARM = 0 ∨ d.nat Obj.CAP_STATE = 0 then d
  else if d.nat Obj.CAP_STATE = 2 ∧ bit (d.nat Obj.SHED_STATE) 2 = false then
    let d := d.count Obj.CAP_NUMBER
    let d := d.put Obj.CAP_TRIG_TIME d.now
    let d := d.put Obj.CAP_TRIG_SOURCE source
    let d := d.put Obj.CAP_STATE 3
    let d := d.put Obj.CAP_DECIMATION 1
    let d := d.put Obj.CAP_FIRST_SEG d.jnl.head
    let d := { d with jnl := { d.jnl with
      capStart := d.now, capPost := d.nat Obj.CAP_POST_MS, capRate := d.captureRate, freezeDue := d.nat Obj.CAP_AUTO_FREEZE == 1 } }
    d.jrec 0x0D [source, d.nat Obj.CAP_NUMBER]
  else (d.count Obj.CAP_TRIG_MISSED).jrec 0x0D [source, -1]

/-- The eight trigger codes of CAP_TRIG_CODES; 0 is unused. -/
def Dev.trigCodes (d : Dev) : List Nat :=
  (List.range 8).map fun i => leNat ((d.bytesOf Obj.CAP_TRIG_CODES).drop (2 * i) |>.take 2)

/-! ### Conditions: what is active -/

/-- The active condition of a code and source, if any. -/
def Dev.cond (d : Dev) (code source : Nat) : Option Cond :=
  d.rep.conds.find? fun c => c.code == code && c.source == source

/-- Is the condition active? -/
def Dev.active (d : Dev) (code source : Nat) : Bool := (d.cond code source).isSome

/-- Is the condition active and latched? -/
def Dev.latchedC (d : Dev) (code source : Nat) : Bool :=
  match d.cond code source with
  | some c => c.latched
  | none => false

/-- The codes active on a source. -/
def Dev.codesOf (d : Dev) (source : Nat) : List Nat := (d.rep.conds.filter fun c => c.source == source).map Cond.code

/-- SUP_ACTIVE of a channel: bit k - 1 for code 0x0100 + k (R176). -/
def Dev.supActive (d : Dev) (n : Nat) : Nat :=
  ((d.rep.conds.filter fun c => c.source == n && c.code / 256 == 1).map fun c => 2 ^ (c.code % 256 - 1)).foldl (· + ·) 0

/-- SUP_LATCHED of a channel (R176). -/
def Dev.supLatched (d : Dev) (n : Nat) : Nat :=
  ((d.rep.conds.filter fun c => c.source == n && c.code / 256 == 1 && c.latched).map
    fun c => 2 ^ (c.code % 256 - 1)).foldl (· + ·) 0

/-- ERROR_REGISTER: any condition, any condition of class 0x02, HALT-SAFE (Table 16.4). -/
def Dev.errorRegister (d : Dev) : Nat :=
  b2n (!d.rep.conds.isEmpty) + 16 * b2n (d.rep.conds.any fun c => c.code / 256 == 2) + 128 * b2n (d.op == .haltSafe)

/-! ### Source blocks (R505, Table 16.9) -/

/-- The first source and the size in bytes of the map of a source's block, or of its half for indicators and clients;
none for the device. -/
def blockOf (source : Nat) : Option (Nat × Nat) :=
  if source < 0x60 then some (0, 12)
  else if source < 0x100 then none
  else if source < 0x108 then some (0x100, 1)
  else if source < 0x200 then none
  else if source < 0x300 then some (0x200, 32)
  else if source < 0x400 then some (0x300, 32)
  else if source < 0x420 then some (0x400, 4)
  else if source < 0x500 then none
  else if source < 0x503 then some (0x500, 1)
  else if source < 0x600 then none
  else if source < 0x700 then some (0x600, 32)
  else if source < 0x800 then some (0x700, 32)
  else if source < 0x820 then some (0x800, 4)
  else if source < 0xA00 then none
  else if source < 0xA08 then some (0xA00, 1)
  else if source < 0xC00 then none
  else if source < 0xC10 then some (0xC00, 2)
  else if source < 0xE01 then none
  else if source < 0xE0E then some (0xE01, 2)
  else none

/-- The block a source belongs to, both halves of indicators and of clients being one block. -/
def blockId (source : Nat) : Option Nat :=
  match blockOf source with
  | some (o, _) => some (if o = 0x300 then 0x200 else if o = 0x700 then 0x600 else o)
  | none => none

/-- The maps of a list of sources, one list for each block or half that has a set bit. -/
def mapFrames (sources : List Nat) : List (List Nat) :=
  let lo := sources.filter fun s => s < 0x300 || (0x400 ≤ s && s < 0x700) || 0x800 ≤ s
  let hi := sources.filter fun s => (0x300 ≤ s && s < 0x400) || (0x700 ≤ s && s < 0x800)
  (if lo = [] then [] else [lo]) ++ (if hi = [] then [] else [hi])

/-! ### EMCY layout (R504) -/

/-- The data lengths a CAN FD frame can have, the least that holds n bytes. -/
def canFdLen (n : Nat) : Nat :=
  if n ≤ 8 then n else if n ≤ 12 then 12 else if n ≤ 16 then 16 else if n ≤ 20 then 20 else if n ≤ 24 then 24
  else if n ≤ 32 then 32 else if n ≤ 48 then 48 else 64

/-- Bytes padded with zeros to a length. -/
def padTo (n : Nat) (b : List Byte) : List Byte := b ++ List.replicate (n - b.length) 0

/-- The map of a report. -/
def Report.mapBytes (r : Report) : List Byte :=
  if r.kind = 3 then bitmap 2 r.map
  else if r.kind = 4 then bitmap 1 (r.map.map fun s => s - r.source)
  else match r.map with
    | [] => []
    | s :: _ => match blockOf s with
      | some (o, n) => bitmap n (r.map.map fun x => x - o)
      | none => []

/-- An EMCY frame: the header of Table 16.7, the map, and padding to a CAN FD length. -/
def emcyBytes (errReg : Nat) (r : Report) : List Byte :=
  let head := leBytes 2 (if r.kind = 0 then 0 else 0xFF00) ++ leBytes 1 errReg ++ leBytes 1 r.kind ++
    leBytes 2 (if r.kind = 0 then 0 else if r.kind = 3 then 0x0100 else r.code) ++ leBytes 2 r.source ++
    leBytes 4 r.detail ++ leBytes 4 r.at'
  let all := head ++ r.mapBytes
  padTo (canFdLen all.length) all

/-! ### EMCY on the lanes (R275, R276) -/

/-- The node-ID of the device: NODE_BASE plus the straps as read at reset release (R272). -/
def Dev.nodeId (d : Dev) : Nat := d.nat Obj.NODE_BASE + d.ins.straps

/-- Does a lane send and receive: from KINDLED on, not on a ring member, not in bus-off (Table 8.1, R275)? In the test
state the lanes stand by (R474), and a power-fail bank stops them (R330). -/
def Dev.laneOn (d : Dev) (l : Nat) : Bool :=
  !d.isMember && !d.testState && !d.power.banked && d.op != .replay && d.nat (Obj.LN_STATE l) != 0 && d.nat (Obj.LN_STATE l) != 5

/-- A frame on a lane that sends, by requester w of M07 (Table 1.4). -/
def Dev.laneSend (d : Dev) (w l id : Nat) (data : List Byte) : Dev :=
  if d.laneOn l then (d.grantAt 7 w).emit (.can l id data) else d

/-- The 2 ms window of device time, counted from 1. -/
def Dev.emcyIndex (d : Dev) : Nat := d.now / 200000 + 1

/-- May a lane send an EMCY frame in the present window? -/
def Dev.emcyFree (d : Dev) (l : Nat) : Bool := d.laneOn l && lookD 0 d.rep.emcyWin l != d.emcyIndex

/-- The EMCY frame of a report, under the node-ID of the position it is for. The error register of a member is its
own, which no rule conveys to the master. -/
def Dev.emcySend (d : Dev) (l : Nat) (e : Nat × Report) : Dev :=
  let err := if e.1 = 0 then d.errorRegister else Config.openNat 506 [(e.1 : Int), (d.now : Int)] % 256
  let d := d.laneSend 0 l (0x80 + d.nodeId + e.1) (emcyBytes err e.2)
  { d with rep := { d.rep with emcyWin := tabPut 0 d.rep.emcyWin l d.emcyIndex } }

/-- The sources a report covers. -/
def Report.sources (r : Report) : List Nat := if r.kind = 1 then [r.source] else r.map

/-- The raises a report covers. -/
def Report.covered (r : Report) : Nat := if r.kind = 1 then 1 else r.detail

/-- May a new report join a waiting one: kinds 1, 4 or 5, or a merge summary that waits, of one position, code and
block, or half of one (R276, R505)? Reports of the device belong to no block. -/
def mergeable (w e : Nat × Report) : Bool :=
  let kind := fun (k : Nat) => k == 1 || k == 4 || k == 5
  let blk := fun (r : Report) => blockOf (r.sources.headD 0xFFFF)
  w.1 == e.1 && w.2.code == e.2.code && (kind w.2.kind || w.2.kind == 6) && kind e.2.kind && (blk w.2).isSome &&
    blk w.2 == blk e.2

/-- The merge summary of a waiting report and a new one: kind 6, from the first source of the block, with the raises
and the map of both and the time of the first raise. -/
def Report.merge (w e : Report) : Report :=
  let origin := match blockOf (w.sources.headD 0) with
    | some (o, _) => o
    | none => w.source
  ⟨6, w.code, origin, w.covered + e.covered, min w.at' e.at', (w.sources ++ e.sources).eraseDups⟩

/-- The queue with a report merged into the waiting one it belongs to, if there is one. -/
def mergeInto (q : List (Nat × Report)) (e : Nat × Report) : Option (List (Nat × Report)) :=
  match q with
  | [] => none
  | w :: r => if mergeable w e then some ((w.1, w.2.merge e.2) :: r) else (mergeInto r e).map (w :: ·)

/-- A report reaches a lane: it is sent in a window that is still free, merges with what waits, or waits. -/
def Dev.emcyAdd (d : Dev) (l : Nat) (e : Nat × Report) : Dev :=
  let q := lookD [] d.rep.emcy l
  if q.isEmpty && d.emcyFree l then d.emcySend l e
  else match mergeInto q e with
    | some q => { d with rep := { d.rep with emcy := tabPut [] d.rep.emcy l q } }.count (Obj.LN_EMCY_MERGED l)
    | none => { d with rep := { d.rep with emcy := tabPut [] d.rep.emcy l (q ++ [e]) } }

/-- Reports of a ring position on every lane. -/
def Dev.emcyAll (d : Dev) (p : Nat) (rs : List Report) : Dev :=
  rs.foldl (fun (d : Dev) r => [0, 1, 2].foldl (fun (d : Dev) l => d.emcyAdd l (p, r)) d) d

/-! ### Reports (R171) -/

/-- CAL_NOW as a history entry holds it: 0 where the calendar is not valid (R510). -/
def Dev.calStamp (d : Dev) : Nat := if d.nat Obj.CAL_VALID = 1 then d.nat Obj.CAL_NOW else 0

/-- The requester index of a condition at M06 (Table 1.4). -/
def condRequester (source : Nat) : Nat := if source < 0x60 then 0 else if 0x600 ≤ source ∧ source < 0x800 then 2 else 1

/-- A report into the condition queue, through M06. Kinds 1 to 5 make one history entry; with 32 waiting for a bank it is lost. The frames wait on every lane; a member
sends them to its master instead, and none goes out in a power-fail bank (R330, R397, R506, R510). -/
def Dev.report (d : Dev) (r : Report) (frames : List Report) : Dev :=
  let d := d.grantAt 6 (condRequester r.source)
  let d := if 1 ≤ r.kind ∧ r.kind ≤ 5 then
      (if d.rep.histWait.length < 32 then
        ({ d with rep := { d.rep with
          histWait := d.rep.histWait ++ [(⟨r.code, r.source, r.detail, d.calStamp, r.kind⟩ : HistEntry)] } }).count Obj.COND_HIST_TOTAL
       else d.count Obj.COND_HIST_LOST)
    else d
  if d.power.banked then d
  else if d.isMember then frames.foldl (fun d f => d.ringSend 0x22 0 (emcyBytes d.errorRegister f)) d
  else d.emcyAll 0 frames

/-- The reporting record of a source. -/
def Dev.srcOf (d : Dev) (source : Nat) : SrcRep := lookD {} d.rep.src source

/-- The reporting record of a source replaced. -/
def Dev.setSrc (d : Dev) (source : Nat) (r : SrcRep) : Dev :=
  { d with rep := { d.rep with src := tabPut {} d.rep.src source r } }

/-- The coalescing window of a code replaced. -/
def Dev.setWin (d : Dev) (code : Nat) (w : CoalWin) : Dev :=
  { d with rep := { d.rep with win := tabPut {} d.rep.win code w } }

/-- The hold-off of a source is running. -/
def SrcRep.holding (r : SrcRep) (now : Nat) : Bool :=
  match r.holdEnd with
  | some t => decide (now < t)
  | none => false

/-- The record of a source after a report about one of its conditions: the report counts as the last one, and a new
hold-off of 10 ms begins. -/
def SrcRep.told (r : SrcRep) (now code : Nat) (raised : Bool) : SrcRep :=
  { r with
    reported := if raised then (if r.reported.contains code then r.reported else r.reported ++ [code])
      else r.reported.filter (· != code)
    holdEnd := some (now + 1000000)
    changes := r.changes.filter (fun c => c.1 != code) }

/-- The summary of one block in a window: a group summary where every source that raised the code in the window is a
channel of one group, otherwise a summary of the block, one frame for each half. A summary of the channel block is a
device summary and is counted (R345). -/
def Dev.summary (d : Dev) (code n at' : Nat) (group : Bool) (srcs : List Nat) : Dev :=
  let f := srcs.headD 0
  if group then
    let r : Report := ⟨4, code, 4 * (f / 4), n, at', srcs⟩
    d.report r [r]
  else
    let origin := fun (m : List Nat) => match blockOf (m.headD f) with
      | some (o, _) => o
      | none => f
    let fs := (mapFrames srcs).map fun m => (⟨5, code, origin m, n, at', m⟩ : Report)
    let d := if f < 0x60 then d.count Obj.LAD_STORM_COUNT else d
    d.report ⟨5, code, origin srcs, n, at', srcs⟩ fs

/-- A coalescing window closes (rule 3 of R171): each block with held raises gets its summary. For rule 1 a summary
counts as the report of the raise for every source in its map. -/
def Dev.closeWin (d : Dev) (code : Nat) : Dev :=
  let w := lookD {} d.rep.win code
  match w.first with
  | none => d
  | some f =>
    let d := d.setWin code {}
    let all := (f, w.firstAt) :: w.held
    let group := all.all fun s => decide (s.1 < 0x60) && s.1 / 4 == f / 4
    let blocks := (w.held.map fun s => blockId s.1).eraseDups
    let d := blocks.foldl (fun d b =>
      let raised := all.filter fun s => blockId s.1 == b
      d.summary code raised.length ((raised.map Prod.snd).headD 0) group (raised.map Prod.fst).eraseDups) d
    (w.held.map Prod.fst).eraseDups.foldl (fun d s =>
      let r := d.srcOf s
      d.setSrc s { r with reported := (if r.reported.contains code then r.reported else r.reported ++ [code])
                          changes := r.changes.filter fun c => !(c.1 == code && c.2.1) }) d

/-- The frames of a raise report: one, or one for each half of the map a condition carries (Table 16.10). -/
def raiseFrames (code source detail at' : Nat) (map : List Nat) : List Report :=
  if map = [] then [⟨1, code, source, detail, at', []⟩]
  else (mapFrames map).map fun m => ⟨1, code, source, detail, at', m⟩

/-- Rules 1 to 3 of R171 at a raise. -/
def Dev.reportRaise (d : Dev) (code source detail : Nat) (map : List Nat) : Dev :=
  let r := d.srcOf source
  let one : Report := ⟨1, code, source, detail, d.now, map⟩
  if (blockOf source).isNone then
    if r.holding d.now then
      d.setSrc source { r with changes := r.changes ++ [(code, true, d.now)] }
    else (d.report one (raiseFrames code source detail d.now map)).setSrc source (r.told d.now code true)
  else
    let w0 := lookD {} d.rep.win code
    let d := if w0.win ≠ d.now / 1000000 then d.closeWin code else d
    let w := lookD {} d.rep.win code
    match w.first with
    | none =>
      let d := d.setWin code ⟨d.now / 1000000, some source, d.now, []⟩
      (d.report one (raiseFrames code source detail d.now map)).setSrc source ((d.srcOf source).told d.now code true)
    | some _ =>
      let r := d.srcOf source
      (d.setWin code { w with held := w.held ++ [(source, d.now)] }).setSrc source
        { r with changes := r.changes ++ [(code, true, d.now)] }

/-- Rule 1 of R171 at a clear; a clear report carries the detail the condition had (Table 16.7). -/
def Dev.reportClear (d : Dev) (code source detail : Nat) : Dev :=
  let r := d.srcOf source
  if r.holding d.now then
    d.setSrc source { r with changes := r.changes ++ [(code, false, d.now)]
                             details := tabIns r.details code detail }
  else
    let rep : Report := ⟨2, code, source, detail, d.now, []⟩
    (d.report rep [rep]).setSrc source (r.told d.now code false)

/-- A condition is raised: it is active at once, journalled, counted, entered in ERR_FIELD and reported; a code named
in CAP_TRIG_CODES triggers the capture (R168, R171, R347, R508). -/
def Dev.raiseC (d : Dev) (code source detail : Nat) (latched : Bool := false) (map : List Nat := []) : Dev :=
  let d := d.jrec 0x0A [code, source, detail, 1]
  let was := d.latchedC code source
  let d := { d with rep := { d.rep with
    conds := (d.rep.conds.filter fun (c : Cond) => !(c.code == code && c.source == source)) ++
      [(⟨code, source, detail, latched || was, map, d.now⟩ : Cond)]
    errField := ((65536 * code + 0xFF00) :: d.rep.errField).take 16 } }
  let d := d.count Obj.COND_RAISES
  let d := d.put Obj.COND_LAST_RAISE d.now
  let d := if code ≠ 0 ∧ d.trigCodes.contains code then d.capTrigger code else d
  d.reportRaise code source detail map

/-- An active condition takes another detail and map; a raise of what is active already makes no other change. -/
def Dev.redetail (d : Dev) (code source detail : Nat) (map : List Nat := []) : Dev :=
  { d with rep := { d.rep with
    conds := d.rep.conds.map fun (c : Cond) =>
      if c.code == code && c.source == source then { c with detail := detail, map := map } else c } }

/-- A condition is raised, or where it is active takes the new detail. -/
def Dev.raiseAnew (d : Dev) (code source detail : Nat) (map : List Nat := []) : Dev :=
  if d.active code source then d.redetail code source detail map else d.raiseC code source detail false map

/-- A condition that is not yet active is raised; one that is stays as it is. -/
def Dev.raiseOnce (d : Dev) (code source detail : Nat) (latched : Bool := false) (map : List Nat := []) : Dev :=
  if d.active code source then d else d.raiseC code source detail latched map

/-- An active condition is cleared, latched or not; the last clear sends the error reset, kind 0, of the device
(R508). -/
def Dev.clearC (d : Dev) (code source : Nat) : Dev :=
  match d.cond code source with
  | some c =>
    let d := d.jrec 0x0A [code, source, c.detail, 0]
    let d := { d with rep := { d.rep with
      stands := tabDrop d.rep.stands (65536 * code + source)
      conds := d.rep.conds.filter fun (c : Cond) => !(c.code == code && c.source == source) } }
    let d := d.reportClear code source c.detail
    if d.rep.conds = [] then
      let r : Report := ⟨0, 0, 0xFFFF, 0, d.now, []⟩
      d.report r [r]
    else d
  | none => d

/-- An active condition that is not latched is cleared. -/
def Dev.clearFree (d : Dev) (code source : Nat) : Dev := if d.latchedC code source then d else d.clearC code source

/-- An active condition becomes latched. -/
def Dev.latchC (d : Dev) (code source : Nat) : Dev :=
  { d with rep := { d.rep with
    conds := d.rep.conds.map fun (c : Cond) => if c.code == code && c.source == source then { c with latched := true } else c } }

/-- The details for which a condition stands, in the order raised, each with its latch. -/
def Dev.standing (d : Dev) (code source : Nat) : List (Nat × Bool) := lookD [] d.rep.stands (65536 * code + source)

/-- A condition shown as its details stand: active with the last one, latched while one of them is, and cleared with the
last of them (Table 4.6, R225). -/
def Dev.standAs (d : Dev) (code source : Nat) (l : List (Nat × Bool)) : Dev :=
  match l.getLast? with
  | none => d.clearC code source
  | some x =>
    let latched := l.any Prod.snd
    let d := { d with rep := { d.rep with stands := tabPut [] d.rep.stands (65536 * code + source) l } }
    if d.active code source then
      { d with rep := { d.rep with conds := d.rep.conds.map fun (c : Cond) =>
          if c.code == code && c.source == source then { c with detail := x.1, latched := latched } else c } }
    else d.raiseC code source x.1 latched

/-- One detail of a condition is raised beside those that stand; one that stands already stays as it is. -/
def Dev.raiseDetail (d : Dev) (code source k : Nat) (latched : Bool := false) : Dev :=
  let l := d.standing code source
  if l.any (fun x => x.1 == k) && d.active code source then d
  else d.standAs code source ((l.filter fun x => x.1 != k) ++ [(k, latched)])

/-- One detail of a condition becomes latched. -/
def Dev.latchDetail (d : Dev) (code source k : Nat) : Dev :=
  let l := d.standing code source
  if l.any (fun x => x.1 == k) then d.standAs code source (l.map fun x => if x.1 = k then (k, true) else x) else d

/-- One detail of a condition ends, unless it is latched. -/
def Dev.endDetail (d : Dev) (code source k : Nat) : Dev :=
  let l := d.standing code source
  if l.contains (k, false) then d.standAs code source (l.filter fun x => x.1 != k) else d

/-- The reports due at the end of a source's hold-off (rule 1 of R171). Raises still held for a summary are left to
it. A channel whose changes were more than one raise or one clear is reported by one set report. -/
def Dev.holdOffEnd (d : Dev) (source : Nat) : Dev :=
  let r := d.srcOf source
  let heldCodes := (d.rep.win.filter fun w => w.2.held.any fun s => s.1 == source).map Prod.fst
  let now := (d.codesOf source).filter fun c => !(heldCodes.contains c && !r.reported.contains c)
  let up := now.filter fun c => !r.reported.contains c
  let down := r.reported.filter fun c => !now.contains c
  let kept := r.changes.filter fun c => heldCodes.contains c.1 && c.2.1 && !r.reported.contains c.1
  let rest := r.changes.filter fun c => !(heldCodes.contains c.1 && c.2.1 && !r.reported.contains c.1)
  let since := fun (p : Nat × Bool × Nat → Bool) => ((rest.find? p).map fun c => c.2.2).getD d.now
  if up = [] ∧ down = [] then d.setSrc source { r with holdEnd := none, changes := kept }
  else
    let d := if source < 0x60 ∧ 1 < rest.length then
        let rep : Report := ⟨3, 0x0100, source, (rest.filter fun c => c.2.1).length, since fun c => c.2.1,
          (d.codesOf source).map fun c => c % 256 - 1⟩
        d.report rep [rep]
      else
        let d := up.foldl (fun d c =>
          let det := match d.cond c source with
            | some x => x.detail
            | none => 0
          let m := match d.cond c source with
            | some x => x.map
            | none => []
          let t := since fun x => x.1 == c && x.2.1
          d.report ⟨1, c, source, det, t, m⟩ (raiseFrames c source det t m)) d
        down.foldl (fun d c =>
          let rep : Report := ⟨2, c, source, lookD 0 r.details c, since fun x => x.1 == c && !x.2.1, []⟩
          d.report rep [rep]) d
    d.setSrc source { reported := now, holdEnd := some (d.now + 1000000), changes := kept }

/-- COND_HISTORY: entries newest first, those that wait for a bank among them. -/
def Dev.condHistory (d : Dev) : List Byte :=
  ((d.rep.histWait.reverse ++ d.rep.hist).take 256).flatMap fun (h : HistEntry) =>
    leBytes 2 h.code ++ leBytes 2 h.source ++ leBytes 4 h.detail ++ leBytes 4 h.cal ++ leBytes 1 h.kind ++ leBytes 3 0

/-! ### Sessions of the service port (R447) -/

/-- AUTH_STATE as the session, the lockout and an open challenge have it. -/
def Dev.authShow (d : Dev) : Dev :=
  d.put Obj.AUTH_STATE (if d.admin.sessionOpen then 2 else if d.admin.lockEnd.isSome then 3 else if d.admin.nonce.isSome then 1 else 0)

/-- The open session ends. -/
def Dev.endSession (d : Dev) : Dev :=
  { d with admin := { d.admin with
      sessionOpen := false, sessionKey := [], sessionPeer := 0, lastCounter := 0, lastTag := [], lastAnswer := none
      maintRun := 0 } }.authShow

/-! ### Committed values -/

/-- RECORD values that are committed on their own, outside a bank; a bank in progress carries them too (R234, R402,
R404). -/
def Dev.commitKeys (d : Dev) (ks : List Nat) : Dev :=
  let put := fun (m : Store) => ks.foldl (fun (m : Store) k => storePut m k (d.val k)) m
  { d with banked := put d.banked, ember := { d.ember with bank := d.ember.bank.map fun (b : Bank) => { b with snap := put b.snap } } }

end Sys2Proof.Machine
end

