-- ==== Sys2Proof/Machine/Effects.lean ====
section
/-! DEFINITION. Pattern engines, glowworm strings and the desk matrix (chapter 07), and the frame-grid helpers every
family shares. -/
namespace Sys2Proof.Machine

/-! ### Instants and grids -/

/-- A quotient whose rounding no rule states: the exact one, or one of its two neighbours, which one being open
(log entry 8). -/
def roundOpen (place num den : Nat) : Nat :=
  if den = 0 then Config.openNat place [(num : Int), 0] else if num % den = 0 then num / den
  else num / den + Config.openNat place [(num : Int), (den : Int)] % 2

/-- Is the instant the first tick at or after a multiple of 1 / hz? -/
def onGrid (hz now : Nat) : Bool := decide (0 < hz) && decide (now * hz % 100000000 < hz)

/-- Is a group in the closing 2.0 us of its frame, or at the boundary that ends it (R119)? -/
def Dev.closing (d : Dev) (g : Nat) : Bool := decide ((d.gr g).next ≤ d.now + 200)

/-- The instant at which a write requested now counts as granted for a group: in the closing 2.0 us of its frame that is
the frame's closing boundary (R119). -/
def Dev.grantInstant (d : Dev) (g : Nat) : Nat := if d.closing g then max d.now (d.gr g).next else d.now

/-- A request at M12 for a group: granted at once, or in the closing 2.0 us of the frame at its boundary, where the journal
has the grant (R119). -/
def Dev.askDuty (d : Dev) (g r : Nat) : Dev :=
  if d.now < d.grantInstant g then { d with asks := d.asks ++ [(g, r)] } else d.grantAt 12 r

/-- The boundary of a group grants what was requested in the closing 2.0 us before it (R119). -/
def Dev.grantAsks (d : Dev) (g : Nat) : Dev :=
  let mine := d.asks.filter fun a => a.1 == g
  mine.foldl (fun (d : Dev) a => d.grantAt 12 a.2) { d with asks := d.asks.filter fun a => a.1 != g }

/-- A swap executed in the closing 2.0 us before a frame start, or at it, waits one frame more (R256, R262). -/
def swapDue (swapAt : Option Nat) (now : Nat) : Bool :=
  match swapAt with
  | some t => decide (t + 200 < now)
  | none => false

/-- Effects run from the end of kindling while the block operates (R258, R265). -/
def Dev.effectsOn (d : Dev) : Bool := d.op == .operating && d.power.kindlingEnded && !d.power.banked

/-! ### Pattern engines -/

/-- Fields of a segment (Table 7.1). -/
def segKind (s : Nat) : Nat := s / 2 ^ 60
def segNext (s : Nat) : Nat := s / 2 ^ 55 % 32
def segCount (s : Nat) : Nat := s / 2 ^ 44 % 2048
def segTaps (s : Nat) : Nat := s / 2 ^ 36 % 256
def segA (s : Nat) : Nat := s / 2 ^ 16 % 65536
def segB (s : Nat) : Nat := s % 65536

/-- The level of tap t in sample i of a segment (R240, Table 7.2). -/
def segLevel (s i t : Nat) : Nat :=
  let a : Int := segA s
  let b : Int := segB s
  let n := segCount s
  if segKind s = 1 then segA s
  else if segKind s = 2 then (if n = 1 then segA s else (a + Int.fdiv ((b - a) * i) ((n : Int) - 1)).toNat)
  else if segKind s = 3 then (a + Int.fdiv ((b - a) * (cosC (i * 1024 / n) : Int)) 65536).toNat
  else if segKind s = 4 then (if bit (segTaps s) t then segB s else segA s)
  else 0

/-- The eight tap levels as PE_TAP_LEVELS holds them. -/
def tapBytes (ls : List Nat) : List Byte := ls.flatMap (leBytes 2)

/-- The level of a tap of an engine: 0 while it is idle (R244). -/
def Dev.tapLevel (d : Dev) (e t : Nat) : Nat := leNat (((d.bytesOf (Obj.PE_TAP_LEVELS e)).drop (2 * t)).take 2)

/-- Is the engine named by an aspect in use, by a PATTERN target (R245, R247)? -/
def Dev.engineInAspect (d : Dev) (e : Nat) : Bool :=
  (List.range 256).any fun a => decide (d.nat (Obj.AS_SG a) ≠ 0xFF) && (List.range 32).any fun k =>
    let t := d.nat (Obj.AS_TARGET a k)
    t / 2 ^ 24 == 2 && t / 2 ^ 16 % 256 == e

/-- The engine plays sample i of a segment. -/
def Dev.peSample (d : Dev) (e seg i : Nat) : Dev :=
  let s := d.nat (Obj.PE_SEG e seg)
  let d := d.put (Obj.PE_SEGMENT e) seg
  let d := d.put (Obj.PE_SAMPLE_INDEX e) i
  let d := d.putBytes (Obj.PE_TAP_LEVELS e) (tapBytes ((List.range 8).map (segLevel s i)))
  d.setEng e { d.eng e with framesLeft := d.nat (Obj.PE_SAMPLE_FRAMES e) }

/-- The jumps of an engine, each with the instant at which it counts as executed; PE_JUMP_PENDING shows the last. -/
def Dev.peJumps (d : Dev) (e : Nat) (l : List (Nat × Nat)) : Dev :=
  (d.setEng e { d.eng e with jumps := l }).put (Obj.PE_JUMP_PENDING e) ((l.getLast?.map Prod.fst).getD 0xFF)

/-- The jumps executed before now. -/
def Dev.peDue (d : Dev) (e : Nat) : List (Nat × Nat) := (d.eng e).jumps.filter fun j => decide (j.2 < d.now)

/-- The jumps executed on this tick, which belong to the sample that begins (R248). -/
def Dev.peLater (d : Dev) (e : Nat) : List (Nat × Nat) := (d.eng e).jumps.filter fun j => !decide (j.2 < d.now)

/-- The engine starts from the first sample of PE_START_SEG at a boundary; a jump latched in the sample that it ends is
discarded. -/
def Dev.peBegin (d : Dev) (e : Nat) : Dev :=
  let d := d.put (Obj.PE_STATE e) 1
  let d := d.put (Obj.PE_START_TIME e) d.now
  let d := d.count (Obj.PE_JUMPS_DISCARDED e) (d.peDue e).length
  let d := d.peJumps e (d.peLater e)
  let d := d.setEng e { d.eng e with startAt := none, stopAt := none }
  d.peSample e (d.nat (Obj.PE_START_SEG e)) 0

/-- The engine stops: IDLE, every tap level 0. -/
def Dev.peIdle (d : Dev) (e : Nat) : Dev :=
  let d := d.put (Obj.PE_STATE e) 0
  let d := d.put (Obj.PE_JUMP_PENDING e) 0xFF
  let d := d.putBytes (Obj.PE_TAP_LEVELS e) (List.replicate 16 0)
  d.setEng e { d.eng e with startAt := none, stopAt := none, jumps := [], framesLeft := 0 }

/-- An aspect starts the engine; a jump due at the same boundary yields to it and is counted as discarded, were it taken
already (R249). -/
def Dev.peAspectStart (d : Dev) (e : Nat) : Dev :=
  let d := if (d.eng e).jumpAt = some d.now then d.count (Obj.PE_JUMPS_DISCARDED e) else d
  let d := d.setEng e { d.eng e with lastAt := some d.now, jumpAt := none }
  d.peBegin e

/-- A start, a stop or a jump counts at a boundary when it was executed before it. -/
def before (t : Option Nat) (now : Nat) : Bool :=
  match t with
  | some t => decide (t < now)
  | none => false

/-- The engine takes a jump: of the jumps latched in the sample that closes, the last one; the others are discarded
(R248). Jumps executed at the boundary itself stay for the sample that begins. -/
def Dev.peJump (d : Dev) (e : Nat) : Dev :=
  let due := d.peDue e
  let d := d.count (Obj.PE_JUMPS_DISCARDED e) (due.length - 1)
  let d := d.peJumps e (d.peLater e)
  let d := d.setEng e { d.eng e with jumpAt := some d.now }
  let d := d.put (Obj.PE_STATE e) 1
  match due.getLast? with
  | some j => d.peSample e j.1 0
  | none => d

/-- One boundary of the engine's reference group (Table 7.3, R241, R242, R248). -/
def Dev.peBoundary (d : Dev) (e : Nat) : Dev :=
  let d := d.setEng e { d.eng e with lastAt := some d.now }
  let p := d.eng e
  let st := d.nat (Obj.PE_STATE e)
  if before p.startAt d.now then d.peBegin e
  else if before p.stopAt d.now then (d.count (Obj.PE_JUMPS_DISCARDED e) p.jumps.length).peIdle e
  else if st = 2 ∧ d.peDue e ≠ [] then d.peJump e
  else if st = 1 then
    if 1 < p.framesLeft then d.setEng e { p with framesLeft := p.framesLeft - 1 }
    else if d.peDue e ≠ [] then d.peJump e
    else
      let seg := d.nat (Obj.PE_SEGMENT e)
      let i := d.nat (Obj.PE_SAMPLE_INDEX e)
      let s := d.nat (Obj.PE_SEG e seg)
      if i + 1 < segCount s then d.peSample e seg (i + 1)
      else if segNext s < 16 then d.peSample e (segNext s) 0
      else d.put (Obj.PE_STATE e) 2
  else d

/-- Do two groups share every boundary: one group, or one lock set? -/
def Dev.sameLock (d : Dev) (g h : Nat) : Bool :=
  g == h || (decide (d.nat (Obj.GRP_LOCK_SET g) ≠ 0) && d.nat (Obj.GRP_LOCK_SET g) == d.nat (Obj.GRP_LOCK_SET h))

/-- Does other than the sample in progress play from the next boundary of the engine's reference group on? -/
def Dev.peChanges (d : Dev) (e : Nat) : Bool :=
  let p := d.eng e
  let st := d.nat (Obj.PE_STATE e)
  let s := d.nat (Obj.PE_SEG e (d.nat (Obj.PE_SEGMENT e)))
  p.startAt.isSome || p.stopAt.isSome || (st == 2 && p.jumps != []) ||
    (st == 1 && decide (p.framesLeft ≤ 1) &&
      (p.jumps != [] || decide (d.nat (Obj.PE_SAMPLE_INDEX e) + 1 < segCount s) || decide (segNext s < 16)))

/-- The levels of the sample that begins at the next boundary are submitted at M12, as requester 1, in the frame before it
and ahead of its closing 2.0 us (R243). -/
def Dev.peSubmit (d : Dev) (e : Nat) : Dev := if d.peChanges e then d.grantAt 12 1 else d

/-- A boundary of the engine's reference group. A start or a stop that counts at this very boundary discards what is still
pending of the jumps before it; what plays at the next boundary is submitted. -/
def Dev.pePass (d : Dev) (e : Nat) : Dev :=
  let d := d.peBoundary e
  let p := d.eng e
  let d := if p.startAt.isSome || p.stopAt.isSome then d.peJumps e (d.peLater e) else d
  d.peSubmit e

/-- The engines whose reference group has its boundary at this instant pass it once, before any level is taken from
them (R242, R243). -/
def Dev.peBoundaries (d : Dev) : Dev :=
  (List.range 16).foldl (fun d e =>
    if decide ((d.gr (d.nat (Obj.PE_REF_GROUP e))).next ≤ d.now) && decide ((d.eng e).lastAt ≠ some d.now)
    then d.pePass e else d) d

/-- The jumps that a start or a stop leaves: none, or in the closing 2.0 us those that may still play at the boundary. -/
def Dev.peKept (d : Dev) (e : Nat) : List (Nat × Nat) :=
  let g := d.nat (Obj.PE_REF_GROUP e)
  if d.closing g then (d.eng e).jumps.filter fun j => decide (j.2 < d.grantInstant g) else []

/-- A change of an engine is submitted at once, in the closing 2.0 us by the boundary. -/
def Dev.peAsk (d : Dev) (e : Nat) : Dev := if d.closing (d.nat (Obj.PE_REF_GROUP e)) then d else d.peSubmit e

/-- START executed (Table 7.3). -/
def Dev.peStart (d : Dev) (e : Nat) : Dev :=
  let t := d.grantInstant (d.nat (Obj.PE_REF_GROUP e))
  let d := d.peJumps e (d.peKept e)
  (d.setEng e { d.eng e with startAt := some t, stopAt := none }).peAsk e

/-- STOP executed: no row of Table 7.3 stops an idle engine, except that a start not yet in effect is withdrawn. -/
def Dev.peStop (d : Dev) (e : Nat) : Dev :=
  let t := d.grantInstant (d.nat (Obj.PE_REF_GROUP e))
  let d := d.peJumps e (d.peKept e)
  (d.setEng e { d.eng e with startAt := none, stopAt := some t }).peAsk e

/-- A jump request executed (R248). -/
def Dev.peJumpReq (d : Dev) (e seg : Nat) : Dev :=
  let t := d.grantInstant (d.nat (Obj.PE_REF_GROUP e))
  (d.peJumps e ((d.eng e).jumps ++ [(seg, t)])).peAsk e

/-! ### Glowworm strings -/

/-- The bytes of node data a port declares. -/
def Dev.gwBytes (d : Dev) (k : Nat) : Nat := d.nat (Obj.GW_NODES k) * d.nat (Obj.GW_NODE_BITS k) / 8

/-- D of R253 in ns. -/
def Dev.gwDelay (d : Dev) (k : Nat) : Nat := d.nat (Obj.GW_NODES k) * d.nat (Obj.GW_NODE_DELAY_NS k)

/-- The frame time t_f in tenths of ns, so that 1.5 D is whole (R253, Table 7.5). -/
def Dev.gwFrameTenths (d : Dev) (k : Nat) : Nat :=
  let bits := d.nat (Obj.GW_NODES k) * d.nat (Obj.GW_NODE_BITS k)
  if d.nat (Obj.GW_MODE k) = 2 then (bits + 64) * 6250 + max 500000 (15 * d.gwDelay k + 20000)
  else bits * 12500 + 1000000

/-- A byte of node data as sent under GW_SCALE_ENGINE (R257). -/
def Dev.gwScale (d : Dev) (k : Nat) (b : Byte) : Byte :=
  let s := d.nat (Obj.GW_SCALE_ENGINE k)
  if s = 0xFF then b else BitVec.ofNat 8 (b.toNat * d.tapLevel (s % 16) (s / 16 % 8) / 65535)

/-- A byte string of a length, missing bytes 0. -/
def resize (n : Nat) (b : List Byte) : List Byte := (b ++ List.replicate (n - b.length) 0).take n

/-- Is the path of a port, or a column of the matrix, held by a termite slice or the link checker (Table 7.6)? Paths
are numbered as in Table 14.2. -/
def Dev.pathHeld (d : Dev) (path i : Nat) : Bool := d.test.hold == some (path, i)

/-- Does a frame of a glowworm port start now (R253, R258)? -/
def Dev.gwDue (d : Dev) (k : Nat) : Bool :=
  d.effectsOn && d.nat (Obj.GW_MODE k) != 0 && onGrid (d.nat (Obj.GW_FRAME_HZ k)) d.now

/-- A frame of a glowworm port starts (R253, R256, R257); one whose actions are not complete repeats the frame before it
(R47). -/
def Dev.gwFrame (d : Dev) (k : Nat) (complete : Bool) : Dev :=
  let mode := d.nat (Obj.GW_MODE k)
  if d.gwDue k then
    let p := d.port k
    let due := complete && swapDue p.swapAt d.now
    let front := if due then d.bytesOf (Obj.GW_DATA k) else p.front
    let data := if complete then (resize (d.gwBytes k) front).map (d.gwScale k) else p.last
    let seq := p.seq % 65536
    let check := if !complete then p.check
      else if mode = 2 then (seq * 2 ^ 48 + d.nat (Obj.GW_NODES k) * 2 ^ 32 + crc32c data) else 0
    let d := d.setPort k { p with front := front, swapAt := if due then none else p.swapAt
                                  seq := if complete then (p.seq + 1) % 65536 else p.seq
                                  check := check, last := data, awaiting := mode == 2 }
    let d := d.count (Obj.GW_FRAME_COUNT k)
    let d := d.put (Obj.GW_FRAME_TIME_US k) (roundOpen 253 (d.gwFrameTenths k) 10000)
    let d := if mode = 1 then d.put (Obj.GW_SUP_STATE k) 0 else d
    d.emit (.gw k data check)
  else d

/-- The source number of a glowworm port (Table 16.9). -/
def gwSource (k : Nat) : Nat := 0x100 + k

/-- The outcome of a supervised frame, as GW_SUP_STATE codes it (R254). A correct word outside the window is late; any
other return without an edge in the window is no return; the rest is a mismatch. -/
def Dev.gwOutcome (d : Dev) (k : Nat) (r : GwReturn) : Nat :=
  let p := d.port k
  match r with
  | .nothing => 2
  | .word bits value delay =>
    let inWin := decide (d.gwDelay k ≤ 2 * delay) && decide (2 * delay ≤ 3 * d.gwDelay k + 4000)
    let same := bits == 64 && value == p.check
    if same && inWin then 1 else if same then 4 else if inWin then 3 else 2

/-- The return window of a port closes and the frame is judged (R254, R255). -/
def Dev.gwJudge (d : Dev) (k : Nat) (r : GwReturn) : Dev :=
  let p := d.port k
  if !p.awaiting then d
  else
    let d := d.setPort k { p with awaiting := false }
    if d.pathHeld 3 k then d
    else
      let o := d.gwOutcome k r
      let d := d.put (Obj.GW_SUP_STATE k) o
      let d := match r with
        | .word _ _ delay => d.put (Obj.GW_RETURN_DELAY_NS k) delay
        | .nothing => d
      let d := if o = 1 then d else d.count (Obj.GW_BAD_FRAMES k)
      let nr := if o = 2 then p.noReturn + 1 else 0
      let mm := if o = 3 ∨ o = 4 then p.mismatch + 1 else 0
      let gd := if o = 1 then p.good + 1 else 0
      let d := d.setPort k { d.port k with noReturn := nr, mismatch := mm, good := gd }
      let deb := d.nat (Obj.GW_DEB k)
      let d := if o = 2 ∧ deb ≤ nr then d.raiseOnce 0x0104 (gwSource k) 0 else d
      let d := if (o = 3 ∨ o = 4) ∧ deb ≤ mm then d.raiseOnce 0x010A (gwSource k) 0 else d
      if 16 ≤ gd then (d.clearC 0x0104 (gwSource k)).clearC 0x010A (gwSource k) else d

/-! ### The desk matrix -/

/-- The nominal period of the matrix in ticks (R261). -/
def Dev.mxNominal (d : Dev) : Nat := roundOpen 261 100000000 (d.nat Obj.MX_FRAME_HZ)

/-- The length of a slot in edge units of 312.5 ps, for the frame in progress (R260). -/
def Dev.mxSlotEdges (d : Dev) : Nat := d.mx.period * 32 / d.mx.rows

/-- The level of an indicator in the front buffer. -/
def Dev.mxLevel (d : Dev) (r c : Nat) : Nat := ((d.mx.front.getD r []).getD c 0).toNat

/-- The on-time of an indicator in edge units (R260). -/
def Dev.mxOnEdges (d : Dev) (r c : Nat) : Nat :=
  d.mxLevel r c * (d.mxSlotEdges - d.nat Obj.MX_BLANK_US * 3200) / 255

/-- Has the frame begun before an activation changed the rate run its length, so that the new layout can start (Table 7.6)? -/
def Dev.mxDone (d : Dev) : Bool :=
  d.mx.hz == d.nat Obj.MX_FRAME_HZ || decide (100000000 ≤ (d.now - d.mx.frameAt) * d.mx.hz)

/-- Is a frame of the matrix due: free running on the nominal grid, after a loss one nominal period after the last
frame start, or at the instant a qualifying edge set (R261)? -/
def Dev.mxFrameDue (d : Dev) : Bool :=
  if d.nat Obj.MX_SYNC = 0 then onGrid (d.nat Obj.MX_FRAME_HZ) d.now && d.mxDone
  else if d.nat Obj.MX_SYNC_STATE = 1 then (match d.mx.startAt with
    | some t => decide (t ≤ d.now)
    | none => false)
  else decide (d.mx.frameAt + d.mxNominal ≤ d.now)

/-- Does a frame of the matrix start now (R261, R265)? -/
def Dev.mxStarts (d : Dev) : Bool := d.effectsOn && d.nat Obj.MX_ROWS != 0 && d.mxFrameDue

/-- A frame of the matrix starts (R260 to R262); one whose actions are not complete repeats the frame before it (R47). -/
def Dev.mxFrame (d : Dev) (complete : Bool) : Dev :=
  if d.mxStarts then
    let m := d.mx
    let due := complete && swapDue m.swapAt d.now
    let front := if due then (List.range 16).map fun r => d.bytesOf (Obj.MX_ROW r) else m.front
    let pf := d.nat Obj.MX_PROBE_FRAMES
    let probe := if complete then decide (pf ≠ 0) && decide (pf ≤ m.probeCount + 1) else m.probeFrame
    let d := if d.nat Obj.MX_SYNC = 0 ∨ d.nat Obj.MX_SYNC_STATE = 2 then d.put Obj.MX_PERIOD_TICKS d.mxNominal else d
    let d := if d.nat Obj.MX_SYNC = 0 then d.put Obj.MX_SYNC_STATE 0 else d
    let d := { d with mx := { m with front := front, swapAt := if due then none else m.swapAt, frameAt := d.now
                                     rows := d.nat Obj.MX_ROWS, cols := d.nat Obj.MX_COLS
                                     hz := d.nat Obj.MX_FRAME_HZ, period := d.nat Obj.MX_PERIOD_TICKS
                                     frameOpen := true, slot := 0, startAt := none, probeFrame := probe, ready := true
                                     probeCount := if !complete then m.probeCount else if probe then 0 else m.probeCount + 1 } }
    d.count Obj.MX_FRAME_COUNT
  else d

/-- The source number of an indicator (Table 16.9). -/
def mxSource (r c : Nat) : Nat := 0x200 + 32 * r + c

/-- One check of an indicator: failing open, failing short, or passing (R263, R264). -/
def Dev.mxCheck (d : Dev) (r c ua : Nat) : Dev :=
  let i := 32 * r + c
  let nom := d.nat Obj.MX_I_NOM
  let opn := decide (ua * 1000 < d.nat Obj.MX_OPEN_PM * nom)
  let sht := decide (d.nat Obj.MX_SHORT_PM * nom < ua * 1000)
  let o := if opn then lookD 0 d.mx.openRun i + 1 else 0
  let s := if sht then lookD 0 d.mx.shortRun i + 1 else 0
  let p := if opn || sht then 0 else sat 16 (lookD 0 d.mx.passRun i + 1)
  let d := { d with mx := { d.mx with openRun := tabPut 0 d.mx.openRun i o, shortRun := tabPut 0 d.mx.shortRun i s
                                      passRun := tabPut 0 d.mx.passRun i p } }
  let deb := d.nat Obj.MX_DEB
  let raise := fun (d : Dev) (code : Nat) =>
    if d.active code (mxSource r c) then d else (d.raiseC code (mxSource r c) 0).count Obj.MX_FAULTS
  let d := if opn && decide (deb ≤ o) then raise d 0x0104 else d
  let d := if sht && decide (deb ≤ s) then raise d 0x0103 else d
  if 16 ≤ p then (d.clearC 0x0104 (mxSource r c)).clearC 0x0103 (mxSource r c) else d

/-- The next slot of the frame in progress: its row and the columns of its lit indicators are energised, and its
indicators are checked on the currents sampled (R260, R263). A lit indicator with less than 8.0 us, and a column that a
termite slice holds, give neutral evidence. What the core says of the next frame's actions is kept for its start (R46). -/
def Dev.mxSlot (d : Dev) (x : MxSlot) : Dev :=
  let m := d.mx
  let r := m.slot
  if d.effectsOn ∧ m.frameOpen ∧ r < m.rows ∧ m.frameAt + r * d.mxSlotEdges / 32 ≤ d.now then
    let cols := m.cols
    let lit := (List.range cols).filter fun c => decide (0 < d.mxLevel r c)
    let checked := (List.range cols).filter fun c =>
      (if 0 < d.mxLevel r c then decide (8 * 3200 ≤ d.mxOnEdges r c) else m.probeFrame) && !d.pathHeld 4 c
    let d := { d with outs := { d.outs with mxRow := some r, mxCols := lit }
                      mx := { m with slot := r + 1, frameOpen := decide (r + 1 < m.rows), ready := x.ready } }
    checked.foldl (fun d c => d.mxCheck r c (x.currents.getD c 0)) d
  else d

/-- An MSYNC edge (R261). The first edge of the chosen polarity, and one that comes more than 10 % late, starts a new
reference; one that comes more than 10 % early is passed over. A qualifying edge before the period in use is over
ends the frame in progress. -/
def Dev.msyncEdge (d : Dev) (rising : Bool) : Dev :=
  let sync := d.nat Obj.MX_SYNC
  if !d.effectsOn ∨ sync = 0 ∨ (sync = 1 ∧ !rising) ∨ (sync = 2 ∧ rising) then d
  else
    let m := d.mx
    let hz := d.nat Obj.MX_FRAME_HZ
    match m.edgeAt with
    | none => { d with mx := { m with edgeAt := some d.now, edgeRun := 0 } }
    | some e =>
      let dt := (d.now - e) * hz * 10
      if dt < 900000000 then d
      else if 1100000000 < dt then { d with mx := { m with edgeAt := some d.now, edgeRun := 0 } }
      else
        let run := m.edgeRun + 1
        let lock := !m.lostOnce || decide (4 ≤ run) || d.nat Obj.MX_SYNC_STATE == 1
        let d := { d with mx := { m with edgeAt := some d.now, edgeRun := run } }
        if lock then
          let early := decide (d.now - e < d.nat Obj.MX_PERIOD_TICKS)
          let d := d.put Obj.MX_SYNC_STATE 1
          let d := d.put Obj.MX_PERIOD_TICKS (d.now - e)
          { d with mx := { d.mx with frameOpen := d.mx.frameOpen && !early, startAt := some (d.now + d.nat Obj.MX_SYNC_OFFSET_US * 100) } }
        else d

/-- No qualifying edge for twice the nominal period: the matrix runs free from its last frame start (R261). -/
def Dev.msyncLoss (d : Dev) : Dev :=
  if d.effectsOn ∧ d.nat Obj.MX_SYNC ≠ 0 ∧ d.nat Obj.MX_SYNC_STATE ≠ 2 ∧
      (d.mx.edgeAt.getD 0 + 2 * d.mxNominal ≤ d.now) then
    let d := d.put Obj.MX_SYNC_STATE 2
    { d with mx := { d.mx with edgeRun := 0, lostOnce := true, startAt := none } }
  else d

/-- GWOn held low, matrix rows and columns off (R258, R265). -/
def Dev.effectsDark (d : Dev) : Dev := { d with outs := { d.outs with mxRow := none, mxCols := [], gwOn := false } }

end Sys2Proof.Machine
end

