-- ==== Sys2Proof/Machine/Reals.lean ====
section
/-! DEFINITION. Logarithms and exponentials of the rules that use them (R98, R214, R216, R220, R221), as fixed-point
numbers in units of 2^-64 (log entry 8). -/
namespace Sys2Proof.Machine

/-- One, in units of 2^-64. -/
def fxOne : Nat := 2 ^ 64

/-- The sum of t z2^i / (j + 2i) over the next terms. -/
def oddSeries (z2 : Nat) : Nat → Nat → Nat → Nat
  | 0, _, _ => 0
  | fuel + 1, j, t => t / j + oddSeries z2 fuel (j + 2) (t * z2 / fxOne)

/-- Twice the inverse hyperbolic tangent of num / den, at most one third. -/
def atanh2 (num den : Nat) : Nat :=
  2 * oddSeries (num * num * fxOne / (den * den)) 24 1 (num * fxOne / den)

/-- The logarithm of 2. -/
def fxLn2 : Nat := atanh2 1 3

/-- The logarithm of a ratio of at least 1: halved into [1, 2), of which it is twice the atanh of (m - 1) / (m + 1). -/
def lnUp (num den : Nat) : Nat :=
  let k := Nat.log2 (num / den)
  let b := den * 2 ^ k
  k * fxLn2 + atanh2 (num - b) (num + b)

/-- The natural logarithm of num / den, both positive. -/
def lnFx (num den : Nat) : Int := if den ≤ num then (lnUp num den : Int) else -(lnUp den num : Int)

/-- The sum of t r^i / (j (j + 1) ...) over the next terms. -/
def expSeries (r : Nat) : Nat → Nat → Nat → Nat
  | 0, _, _ => 0
  | fuel + 1, j, t => t + expSeries r fuel (j + 1) (t * r / (fxOne * j))

/-- e to the power x. -/
def expFx (x : Int) : Nat :=
  let k := Int.fdiv x fxLn2
  let e := expSeries (x - k * fxLn2).toNat 30 1 fxOne
  if 0 ≤ k then e * 2 ^ k.toNat else if k < -70 then 0 else e / 2 ^ (-k).toNat

/-- num / den to the power e / 100. -/
def powFx (num den e : Nat) : Nat := expFx (Int.fdiv (lnFx num den * e) 100)

end Sys2Proof.Machine
end

