-- ==== Sys2Proof/Machine/Life.lean ====
section
/-! DEFINITION. Lamp temperature, the life model, derating and the colour loop (chapter 06). -/
namespace Sys2Proof.Machine

/-- The mode of a channel. -/
def Dev.mode (d : Dev) (n : Nat) : Nat := d.nat (Obj.CH_MODE n)

/-- An integer held between two bounds. -/
def clampInt (lo hi v : Int) : Int := if v < lo then lo else if hi < v then hi else v

/-- Has a state held since an instant for a number of ticks? -/
def sinceAtLeast (t : Option Nat) (ticks now : Nat) : Bool :=
  match t with
  | some v => decide (v + ticks ≤ now)
  | none => false

/-- A signed quotient whose rounding no rule states (log entry 8). -/
def roundOpenInt (place : Nat) (num den : Int) : Int :=
  if den = 0 then (Config.openNat place [num, 0] : Int) else if Int.fmod num den = 0 then Int.fdiv num den
  else Int.fdiv num den + (Config.openNat place [num, den] % 2 : Nat)

/-! ### Temperature (R98, R212, R213) -/

/-- What a thermistor resistance stands for: GRP_NTC_STATUS, 1 where the temperature is below -60 degrees and 2 where it is
above +200 degrees, and the temperature in 0.1 degrees. T is 298.15 B / (B + 298.15 ln(Rt / R25)) (R98). -/
def ntcTemp (ohm res25 beta : Nat) : Nat × Int :=
  if ohm = 0 then (2, 0)
  else
    let num : Int := 2981500 * beta * fxOne
    let den : Int := 100 * beta * fxOne + 29815 * lnFx ohm res25
    if den ≤ 0 ∨ 47315 * den < num then (2, 0)
    else if num < 21315 * den then (1, 0)
    else (0, roundOpenInt 98 (num - 27315 * den) (10 * den))

/-- The lamp temperature the life model uses (Table 6.1). -/
def Dev.lifeTemp (d : Dev) (n : Nat) : Int :=
  let st := d.nat (Obj.GRP_NTC_STATUS (n / 4))
  let assumed := d.pnum n (Obj.LF_T_ASSUMED (d.prof n))
  if st = 0 then d.num (Obj.LIFE_T_LAMP n)
  else if st = 3 then assumed
  else match (d.lf n).tLast with
    | some t => max t assumed
    | none => assumed

/-- One channel takes a valid lamp temperature: reported, the highest kept, the last ten readings kept. -/
def Dev.lampReading (d : Dev) (n : Nat) (t : Int) : Dev :=
  let d := d.putInt (Obj.LIFE_T_LAMP n) t
  let d := if d.num (Obj.LIFE_T_MAX n) < t then d.putInt (Obj.LIFE_T_MAX n) t else d
  let l := d.lf n
  d.setLf n { l with tLast := some t, tInvalidAt := none
                     tValidAt := (match l.tValidAt with
                       | some x => some x
                       | none => some d.now)
                     readings := (t :: l.readings).take 10 }

/-- One channel takes an invalid reading. -/
def Dev.lampInvalid (d : Dev) (n : Nat) : Dev :=
  let l := d.lf n
  d.setLf n { l with tValidAt := none, readings := []
                     tInvalidAt := (match l.tInvalidAt with
                       | some x => some x
                       | none => some d.now) }

/-- Without a derating slope or a thermistor the derating factor is 1000 at all times, and no derating is reported (R223,
Table 6.1). -/
def Dev.derateNone (d : Dev) (n : Nat) : Bool :=
  decide (d.pnat n (Obj.LF_DERATE_SLOPE (d.prof n)) = 0) || decide (d.nat (Obj.GRP_NTC_STATUS (n / 4)) = 3)

/-- The derating of a channel ends where it has none. -/
def Dev.derateOff (d : Dev) (n : Nat) : Dev :=
  if d.derateNone n then
    ((d.put (Obj.LIFE_DERATE_PM n) 1000).setLf n { d.lf n with floorAt := none, aboveFloorAt := none }).clearC 0x0108 n
  else d

/-- A thermistor conversion of a group, every 10 ms (R98, R212). -/
def Dev.ntcConversion (d : Dev) (g ohm : Nat) : Dev :=
  if d.now / 1000000 ≤ lookD 0 d.power.ntcAt g then d
  else
    let d := { d with power := { d.power with ntcAt := tabPut 0 d.power.ntcAt g (d.now / 1000000) } }
    let chans := [4 * g, 4 * g + 1, 4 * g + 2, 4 * g + 3]
    if d.nat (Obj.GRP_NTC_USE g) = 0 then chans.foldl Dev.derateOff (d.put (Obj.GRP_NTC_STATUS g) 3)
    else
      let t := ntcTemp ohm (d.nat (Obj.GRP_NTC_RES25 g)) (d.nat (Obj.GRP_NTC_BETA g))
      let d := d.put (Obj.GRP_NTC_STATUS g) t.1
      if t.1 ≠ 0 then chans.foldl Dev.lampInvalid d
      else chans.foldl (fun d n => d.lampReading n (t.2 + d.pnum n (Obj.LF_NTC_OFFSET (d.prof n))))
        (d.putInt (Obj.GRP_NTC_TEMP g) t.2)

/-! ### Flux, compensation, end of life (R216 to R220) -/

/-- The flux ratio in units of 2^-64, the exponential of minus alpha k H (R216). -/
def Dev.fluxFx (d : Dev) (n : Nat) : Nat :=
  let a := d.pnat n (Obj.LF_ALPHA_PPB_H (d.prof n))
  expFx (-((a * d.nat (Obj.LIFE_CAL_PM n) * d.nat (Obj.LIFE_EQ_MS n) * fxOne / 3600000000000000000 : Nat) : Int))

/-- The compensation needed, 1 over the flux ratio, in units of 2^-64 (R216). -/
def Dev.needFx (d : Dev) (n : Nat) : Nat := fxOne * fxOne / max 1 (d.fluxFx n)

/-- No headroom, or no flux loss: c is 1 at all times (R218). -/
def Dev.compNone (d : Dev) (n : Nat) : Bool :=
  decide (d.pnat n (Obj.LF_HEADROOM_PM (d.prof n)) = 0) || decide (d.pnat n (Obj.LF_ALPHA_PPB_H (d.prof n)) = 0)

/-- The target of the compensation factor, in units of 10^-12 (R217, R218). -/
def Dev.compTarget (d : Dev) (n : Nat) : Nat :=
  if d.compNone n then 1000000000000
  else min (d.needFx n * 1000000000000 / fxOne) ((1000 + d.pnat n (Obj.LF_HEADROOM_PM (d.prof n))) * 1000000000)

/-- The compensation factor takes a value, which LIFE_COMP_PM reports. -/
def Dev.setComp (d : Dev) (n c : Nat) : Dev :=
  (d.setLf n { d.lf n with comp := c }).put (Obj.LIFE_COMP_PM n) (roundOpen 217 c 1000000000)

/-- The compensation set to its target at once (R217). -/
def Dev.compSet (d : Dev) (n : Nat) : Dev := d.setComp n (d.compTarget n)

/-- F in units of 10^-12 (R226). The colour factor is 1 outside a colour lamp. -/
def Dev.lifeF (d : Dev) (n : Nat) : Nat :=
  let p := d.prof n
  let q := if d.pnat n (Obj.LF_COLOUR p) = 1 then d.nat (Obj.LIFE_COL_Q_PM n) else 1000
  min ((d.lf n).comp * d.nat (Obj.LIFE_DERATE_PM n) * q / 1000000) ((1000 + d.pnat n (Obj.LF_HEADROOM_PM p)) * 1000000000)

/-- A changed life factor is granted at M12 as requester 2, and takes effect at the next boundary (R228, R39). -/
def Dev.lifeSubmit (d : Dev) (n : Nat) : Dev :=
  let l := d.lf n
  let f := d.lifeF n
  let last := match l.fNext with
    | some x => x.1
    | none => l.fUse
  if d.mode n = 0 ∨ f = last then d
  else
    let t := d.grantInstant (n / 4)
    let l := if t = d.now ∧ !d.closing (n / 4) then { l with fUse := f, fNext := none } else { l with fNext := some (f, t) }
    (d.setLf n l).askDuty (n / 4) 2

/-- One step of the compensation at a bank, at most 2 permille; held while the channel is OFF or commanded dark (R217,
Table 6.3). -/
def Dev.compStep (d : Dev) (n : Nat) : Dev :=
  if d.mode n = 0 ∨ !(d.ch n).lit then d
  else
    let c : Int := (d.lf n).comp
    (d.setComp n (c + clampInt (-2000000000) 2000000000 ((d.compTarget n : Int) - c)).toNat).lifeSubmit n

/-- The remaining headroom times LF_HEADROOM_PM, in units of 2^-64 of a permille (R219). -/
def Dev.headroomFx (d : Dev) (n : Nat) : Int :=
  (((1000 + d.pnat n (Obj.LF_HEADROOM_PM (d.prof n))) * fxOne : Nat) : Int) - 1000 * d.needFx n

/-- The remaining headroom in permille (R219). -/
def Dev.headroomLeft (d : Dev) (n : Nat) : Nat :=
  let h := d.pnat n (Obj.LF_HEADROOM_PM (d.prof n))
  if h = 0 then 1000 else (clampInt 0 1000 (roundOpenInt 219 (1000 * d.headroomFx n) (h * fxOne))).toNat

/-- The rated-hours trigger of R219: H at 0.9 of the rated hours. -/
def Dev.ratedReached (d : Dev) (n : Nat) : Bool :=
  let r := d.pnat n (Obj.LF_RATED_H (d.prof n))
  decide (r ≠ 0) && decide (9 * r * 3600000 ≤ 10 * d.nat (Obj.LIFE_EQ_MS n))

/-- The headroom trigger of R219: r below 10 %. -/
def Dev.headroomLow (d : Dev) (n : Nat) : Bool :=
  !d.compNone n && decide (10 * d.headroomFx n < d.pnat n (Obj.LF_HEADROOM_PM (d.prof n)) * fxOne)

/-- H_end in equivalent ms: the earlier of the exhaustion of the headroom and the rated hours, if either applies (R220). -/
def Dev.endMs (d : Dev) (n : Nat) : Option Nat :=
  let p := d.prof n
  let r := d.pnat n (Obj.LF_RATED_H p)
  let ex := (lnFx (1000 + d.pnat n (Obj.LF_HEADROOM_PM p)) 1000).toNat * 3600000000000000000 /
    (d.pnat n (Obj.LF_ALPHA_PPB_H p) * d.nat (Obj.LIFE_CAL_PM n) * fxOne)
  if d.compNone n then (if r = 0 then none else some (r * 3600000))
  else some (if r = 0 then ex else min ex (r * 3600000))

/-- LIFE_HOURS_LEFT (R220): 0 once the end is passed. -/
def Dev.hoursLeft (d : Dev) (n : Nat) : Nat :=
  match d.endMs n with
  | none => 0xFFFFFFFF
  | some e =>
    let v := roundOpen 220 ((e - d.nat (Obj.LIFE_EQ_MS n)) * 1000) (d.nat (Obj.LIFE_RATE_PM n) * 3600000)
    if v < 2 ^ 32 then v else Config.openNat 220 [(v : Int)] % 2 ^ 32

/-- The reported quantities of the flux model, and the warning of its end for a channel in use (R216, R219, R220). -/
def Dev.lifeJudge (d : Dev) (n : Nat) : Dev :=
  let d := d.put (Obj.LIFE_FLUX_PM n) (roundOpen 216 (1000 * d.fluxFx n) fxOne)
  let d := d.put (Obj.LIFE_HEADROOM_LEFT_PM n) (d.headroomLeft n)
  let d := d.put (Obj.LIFE_HOURS_LEFT n) (d.hoursLeft n)
  if d.mode n ≠ 0 ∧ (d.headroomLow n ∨ d.ratedReached n) then d.raiseOnce 0x0109 n (d.headroomLeft n) else d

/-! ### Accumulation (R214) -/

/-- The acceleration factor of temperature in units of 2^-64, between 0.01 and 100. Temperatures are in 0.1 degrees. -/
def accel (ea tref t : Int) : Nat :=
  let a := 10 * tref + 27315
  let b := 10 * t + 27315
  max (fxOne / 100) (min (expFx (Int.fdiv (ea * (b - a) * 10000000000 * fxOne) (8617333 * a * b))) (100 * fxOne))

/-- The factor of current, num over den, in units of 2^-64. -/
def currentFactor (num den iexp : Nat) : Nat :=
  if iexp = 0 ∨ num = den then fxOne
  else if num = 0 then 0
  else if den = 0 then Config.openNat 214 [(num : Int), (iexp : Int)]
  else powFx num den iexp

/-- The factor w of a channel over the second just over, in units of 2^-64. -/
def Dev.lifeWeight (d : Dev) (n : Nat) : Nat :=
  let p := d.prof n
  let l := d.lf n
  accel (d.pnum n (Obj.LF_EA_MEV p)) (d.pnum n (Obj.LF_T_REF p)) (d.lifeTemp n) *
    currentFactor l.onCharge (l.onTime * d.pnat n (Obj.PF_I_NOM p)) (d.pnat n (Obj.LF_I_EXP p)) / fxOne

/-- LIFE_RATE_PM in units of 10^-12 permille, moved toward 1000 w with a time constant of 30 days of conduction. -/
def nextRate (rate w edges : Nat) : Nat :=
  ((rate : Int) + Int.fdiv (((1000000000000000 * w / fxOne : Nat) - (rate : Int)) * edges) 8294400000000000).toNat

/-- One second of one channel: conduction of the second just over goes into the record; fractions of 1 ms are carried
forward. -/
def Dev.lifeSecond (d : Dev) (n : Nat) : Dev :=
  let l := d.lf n
  if l.onTime = 0 then d
  else if d.mode n = 0 then d.setLf n { l with onTime := 0, onCharge := 0 }
  else
    let w := d.lifeWeight n
    let eq := l.fracEq + l.onTime * w
    let lit := l.fracLit + l.onTime
    let hot := decide (d.pnum n (Obj.LF_KNEE (d.prof n)) < d.lifeTemp n)
    let knee := l.fracKnee + (if hot then l.onTime else 0)
    let d := d.count (Obj.LIFE_EQ_MS n) (eq / (3200000 * fxOne))
    let d := d.count (Obj.LIFE_LIT_MS n) (lit / 3200000)
    let d := d.count (Obj.LIFE_ABOVE_KNEE_MS n) (knee / 3200000)
    let rate := nextRate (l.rate.getD (d.nat (Obj.LIFE_RATE_PM n) * 1000000000000)) w l.onTime
    let d := d.put (Obj.LIFE_RATE_PM n) (sat 65535 (roundOpen 214 rate 1000000000000))
    let d := d.setLf n { l with fracEq := eq % (3200000 * fxOne), fracLit := lit % 3200000, fracKnee := knee % 3200000
                                rate := some rate, onTime := 0, onCharge := 0 }
    d.lifeJudge n

/-- Conduction of a lit pulse or E-interval, in edge units, at its mean current. -/
def Dev.lifeConduct (d : Dev) (n edges iMean : Nat) : Dev :=
  let l := d.lf n
  d.setLf n { l with onTime := l.onTime + edges, onCharge := l.onCharge + edges * iMean }

/-- A new lamp epoch (R233, R235): the conduction of the second in progress belongs to the old epoch and is dropped. -/
def Dev.lifeReset (d : Dev) (n : Nat) : Dev :=
  let d := d.put (Obj.LIFE_EQ_MS n) 0
  let d := d.put (Obj.LIFE_LIT_MS n) 0
  let d := d.putInt (Obj.LIFE_T_MAX n) 0
  let d := d.put (Obj.LIFE_ABOVE_KNEE_MS n) 0
  let d := (d.put (Obj.LIFE_CAL_PM n) 1000).put (Obj.LIFE_CAL_COUNT n) 0
  let d := d.put (Obj.LIFE_RATE_PM n) 1000
  let d := d.put (Obj.LIFE_COL_Q_PM n) 1000
  let d := d.count (Obj.LIFE_LAMP_EPOCH n)
  let d := d.put (Obj.LIFE_INSTALL_DAY n) (d.calStamp / 86400)
  let l := d.lf n
  let d := d.setLf n { l with winSum := 0, winCount := 0, fracEq := 0, fracLit := 0, fracKnee := 0, onTime := 0, onCharge := 0
                              rate := none, setOne := some (d.grantInstant (n / 4)) }
  (d.clearC 0x0109 n).lifeJudge n

/-! ### Recalibration (R221) -/

/-- A PRESENT window enters the day's mean, as a ratio to the new lamp's flux. -/
def Dev.calWindow (d : Dev) (n na iMean : Nat) : Dev :=
  let p := d.prof n
  if d.pnat n (Obj.LF_CAL_ENABLE p) = 1 ∧ d.nat (Obj.SUP_FF_INPUT n) ≠ 0xFF then
    let den := iMean * d.nat (Obj.SUP_OPT_REF_NA n)
    let f := if den = 0 then Config.openNat 221 [(na : Int)] else na * d.pnat n (Obj.PF_I_NOM p) * fxOne / den
    let l := d.lf n
    d.setLf n { l with winSum := l.winSum + f, winCount := l.winCount + 1 }
  else d

/-- LIFE_CAL_PM after a day: a quarter of the way to k_target, minus the logarithm of the mean over alpha H, rounded to
1 permille and held between 250 and 4000 (R221). -/
def nextCal (k sum count alpha h : Nat) : Nat :=
  let den := alpha * h * fxOne
  let num := 3 * k * den + (lnFx (count * fxOne) sum).toNat * 3600000000000000000
  max 250 (min ((num + 2 * den) / (4 * den)) 4000)

/-- The end of 24 h of powered time for one channel. -/
def Dev.calDay (d : Dev) (n : Nat) : Dev :=
  let p := d.prof n
  let l := d.lf n
  let h := d.nat (Obj.LIFE_EQ_MS n)
  let a := d.pnat n (Obj.LF_ALPHA_PPB_H p)
  let d0 := d.setLf n { l with winSum := 0, winCount := 0 }
  if d.mode n ≠ 0 ∧ d.pnat n (Obj.LF_CAL_ENABLE p) = 1 ∧ 64 ≤ l.winCount ∧ 0 < l.winSum ∧ l.winSum < fxOne * l.winCount ∧
      1800000000 ≤ h ∧ 0 < a then
    let d := (d0.put (Obj.LIFE_CAL_PM n) (nextCal (d.nat (Obj.LIFE_CAL_PM n)) l.winSum l.winCount a h)).count
      (Obj.LIFE_CAL_COUNT n)
    let d := d.lifeJudge n
    if 12 * (d.pnat n (Obj.LF_HEADROOM_PM p) * fxOne : Nat) ≤ 100 * d.headroomFx n ∧ !d.ratedReached n then d.clearC 0x0109 n
    else d
  else d0

/-! ### Derating (R223 to R225) -/

/-- The raw derating factor from a sum of readings, never below 0. -/
def derateRaw (slope : Nat) (knee sum : Int) (count : Nat) : Nat :=
  1000 - roundOpen 223 (slope * (max (sum - knee * (count : Int)) 0).toNat) (10 * count)

/-- The factor of a lit channel toward a target: down at once, up by at most 10 permille (R223). -/
def Dev.derateTo (d : Dev) (n t : Nat) : Dev :=
  let cur := d.nat (Obj.LIFE_DERATE_PM n)
  if (d.ch n).lit then d.put (Obj.LIFE_DERATE_PM n) (if t < cur then t else min t (cur + 10)) else d

/-- An invalid reading has lasted 10 s: the floor, and detail 2 (Table 6.1). Before that the factor stays. -/
def Dev.derateBlind (d : Dev) (n : Nat) : Dev :=
  let l := d.lf n
  let d := d.setLf n { l with floorAt := none, aboveFloorAt := none }
  if sinceAtLeast l.tInvalidAt 1000000000 d.now then
    let d := if (d.ch n).lit then d.put (Obj.LIFE_DERATE_PM n) (d.pnat n (Obj.LF_DERATE_FLOOR_PM (d.prof n))) else d
    d.raiseDetail 0x0108 n 2
  else d

/-- The factor of one channel every 100 ms, held while it is dark, and DERATED_AT_FLOOR (R223, R225, Table 6.3). -/
def Dev.derate (d : Dev) (n : Nat) : Dev :=
  let p := d.prof n
  let floor := d.pnat n (Obj.LF_DERATE_FLOOR_PM p)
  let l := d.lf n
  if d.derateNone n then d.derateOff n
  else if d.mode n = 0 then d
  else if d.nat (Obj.GRP_NTC_STATUS (n / 4)) ≠ 0 then d.derateBlind n
  else if l.readings = [] then d
  else
    let raw := derateRaw (d.pnat n (Obj.LF_DERATE_SLOPE p)) (d.pnum n (Obj.LF_KNEE p)) (l.readings.foldl (· + ·) 0) l.readings.length
    let d := d.derateTo n (max raw floor)
    let low := if raw < floor then some (l.floorAt.getD d.now) else none
    let high := if floor + 20 ≤ raw then some (l.aboveFloorAt.getD d.now) else none
    let d := d.setLf n { d.lf n with floorAt := low, aboveFloorAt := high }
    let d := if sinceAtLeast l.tValidAt 1000000000 d.now then d.endDetail 0x0108 n 2 else d
    let d := if sinceAtLeast low 100000000 d.now then d.raiseDetail 0x0108 n 1 else d
    if sinceAtLeast high 1000000000 d.now then d.endDetail 0x0108 n 1 else d

/-! ### The colour loop (R229 to R231) -/

/-- Determinant of three columns. -/
def det3 (a b c : Int × Int × Int) : Int :=
  a.1 * (b.2.1 * c.2.2 - c.2.1 * b.2.2) - b.1 * (a.2.1 * c.2.2 - c.2.1 * a.2.2) + c.1 * (a.2.1 * b.2.2 - b.2.1 * a.2.2)

/-- Entry i of LF_COL_MATRIX. -/
def Dev.colM (d : Dev) (g i : Nat) : Int := toSigned 2 (leNat (((d.pbytes (4 * g) (Obj.LF_COL_MATRIX (d.prof (4 * g)))).drop (2 * i)).take 2))

/-- The tristimulus contribution of channel k of the lamp, times 4096. -/
def Dev.colV (d : Dev) (g : Nat) (a : List Int) (k : Nat) : Int × Int × Int :=
  let x := fun j => a.getD (4 * j + k) 0
  let row := fun i => d.colM g (3 * i) * x 0 + d.colM g (3 * i + 1) * x 1 + d.colM g (3 * i + 2) * x 2
  (row 0, row 1, row 2)

/-- The colour state of the four channels of a group. -/
def Dev.colState (d : Dev) (g st : Nat) : Dev :=
  [0, 1, 2, 3].foldl (fun d k => d.put (Obj.LIFE_COL_STATE (4 * g + k)) st) d

/-- The loop in a window in which all four channels were lit and none was without optical state. -/
def Dev.colourLoop (d : Dev) (g : Nat) (a : List Int) : Dev :=
  let p := d.prof (4 * g)
  let vr := d.colV g a 0
  let vg := d.colV g a 1
  let vb := d.colV g a 2
  let vw := d.colV g a 3
  let sx := vr.1 + vg.1 + vb.1 + vw.1
  let sy := vr.2.1 + vg.2.1 + vb.2.1 + vw.2.1
  let sz := vr.2.2 + vg.2.2 + vb.2.2 + vw.2.2
  let s := sx + sy + sz
  let xt := d.pnum (4 * g) (Obj.LF_COL_X p)
  let yt := d.pnum (4 * g) (Obj.LF_COL_Y p)
  let d := if s = 0 then d else [0, 1, 2, 3].foldl (fun d k =>
    (d.putInt (Obj.LIFE_COL_X (4 * g + k)) (clampInt 0 65535 (roundOpenInt 231 (10000 * sx) s))).putInt
      (Obj.LIFE_COL_Y (4 * g + k)) (clampInt 0 65535 (roundOpenInt 231 (10000 * sy) s))) d
  let rhs : Int × Int × Int := (sy * xt - yt * vw.1, sy * yt - yt * vw.2.1, sy * (10000 - xt - yt) - yt * vw.2.2)
  let den := det3 vr vg vb * yt
  let nums := [det3 rhs vg vb, det3 vr rhs vb, det3 vr vg rhs]
  if den = 0 ∨ nums.any (fun x => decide (x * den ≤ 0)) then d.colState g 3
  else
    let d := [0, 1, 2].foldl (fun d k =>
      let q := d.num (Obj.LIFE_COL_Q_PM (4 * g + k))
      let step := clampInt (-20) 20 (roundOpenInt 230 (q * (nums.getD k 0 - den)) (4 * den))
      d.putInt (Obj.LIFE_COL_Q_PM (4 * g + k))
        (clampInt (d.pnum (4 * g) (Obj.LF_COL_Q_MIN_PM p)) (d.pnum (4 * g) (Obj.LF_COL_Q_MAX_PM p)) (q + step))) d
    let atLimit := [0, 1, 2].any fun k =>
      let q := d.num (Obj.LIFE_COL_Q_PM (4 * g + k))
      q == d.pnum (4 * g) (Obj.LF_COL_Q_MIN_PM p) || q == d.pnum (4 * g) (Obj.LF_COL_Q_MAX_PM p)
    let dx := 10000 * sx - xt * s
    let dy := 10000 * sy - yt * s
    let tol := d.pnum (4 * g) (Obj.LF_COL_TOL p) * s
    d.colState g (if atLimit then 3 else if dx * dx + dy * dy ≤ tol * tol then 1 else 2)

end Sys2Proof.Machine
end

