-- ==== Sys2Proof/Machine/Drive.lean ====
section
/-! DEFINITION. Lamp channels and the power stage (chapter 02): electrical limits, drive states, BUCK cycles, shorts,
isolators, HALT-SAFE. -/
namespace Sys2Proof.Machine

/-! ### Electrical figures -/

/-- Source and sink current of a gate strength code in mA (Table 2.5). -/
def gateMa (c : Nat) : Nat := [5, 10, 20, 35, 50, 80, 120, 200].getD c 200

/-- Turn-on ramp of a ramp code in ns (Table 2.5). -/
def rampNs (c : Nat) : Nat := [50, 100, 200, 350, 500, 1000, 2000, 5000].getD c 5000

/-- Full scale of a sense range in pV (Table 2.7). -/
def fullScale (r : Nat) : Nat := [62500000000, 250000000000, 1000000000000].getD r 1000000000000

/-- t_edge in ps as a ratio (R79): pC over mA is ns. -/
def Dev.tEdge (d : Dev) (n : Nat) : Nat × Nat :=
  let ma := gateMa (d.nat (Obj.CH_GATE_STRENGTH n))
  (1000 * max (rampNs (d.nat (Obj.CH_GATE_RAMP n)) * ma) (d.nat (Obj.CH_FET_QG n)), ma)

/-- Does an instant lie within t_edge of the on-edge of the conduction in progress (R166)? -/
def Dev.inRamp (d : Dev) (n e : Nat) : Bool :=
  decide ((e - (d.ch n).gateEdge) * 625 * (d.tEdge n).2 ≤ 2 * (d.tEdge n).1)

/-- Ripple times 1000 (R66). -/
def Dev.ripple (d : Dev) (n : Nat) : Nat :=
  d.pnat n (Obj.PF_RIPPLE_PM (d.prof n)) * d.pnat n (Obj.PF_I_NOM (d.prof n))

/-- I_max of R87 in units of 1/2000 uA. -/
def Dev.iMax (d : Dev) (n : Nat) : Nat :=
  let p := d.prof n
  max (2000 * d.pnat n (Obj.PF_INRUSH_MAX p))
    (2 * (1000 + d.pnat n (Obj.LF_HEADROOM_PM p)) * d.pnat n (Obj.PF_I_NOM p) + (if d.mode n = 2 then d.ripple n else 0))

/-- A current of num / den uA as comparator steps of a range, to the nearest, at most the top step (R85, R133). -/
def Dev.steps (d : Dev) (n range num den : Nat) : Nat :=
  sat 1023 ((2048 * num * d.nat (Obj.CH_SHUNT n) + den * fullScale range) / (2 * den * fullScale range))

/-- t_rise in ps as a ratio (R134), for a BUCK target of it2 / 1000 uA. -/
def Dev.tRise (d : Dev) (n it1000 : Nat) : Nat × Nat :=
  let p := d.prof n
  let e := d.tEdge n
  if d.mode n = 2 then
    let b := 2000000000 * (d.pnat n (Obj.PF_RAIL_REQ p) - d.pnat n (Obj.PF_VF_MAX p))
    (d.nat (Obj.CH_L_NOM n) * (1000 + d.nat (Obj.CH_L_TOL_PM n)) * (2 * it1000 + d.ripple n) * 1000 * e.2 + e.1 * b, b * e.2)
  else (1000 * d.pnat n (Obj.SUP_RISE_NS p) * e.2 + e.1, e.2)

/-- t_rise in whole edge units. -/
def Dev.riseEdges (d : Dev) (n it1000 : Nat) : Nat := 2 * (d.tRise n it1000).1 / (625 * (d.tRise n it1000).2)

/-- The shortest valid pulse in edge units, rounded up (R134). -/
def Dev.validEdges (d : Dev) (n it1000 : Nat) : Nat :=
  let r := d.tRise n it1000
  cdiv (2 * max (1000000 * r.2) (r.1 + 250000 * r.2)) (625 * r.2)

/-- An edge-unit instant's tick. -/
def edgeTick (e : Nat) : Nat := e / 32

/-- Half the ripple as BUCK thresholds use it: I_pk and I_val in units of 1/2000 uA (R66). -/
def Dev.buckPk (d : Dev) (n : Nat) : Int :=
  2000 * (d.num (Obj.DRV_I_TARGET n) + (d.ch n).trim) + (d.ripple n : Int)

def Dev.buckVal (d : Dev) (n : Nat) : Int :=
  max (2000 * (d.num (Obj.DRV_I_TARGET n) + (d.ch n).trim) - (d.ripple n : Int)) 0

/-- The limits a pulse is judged by, as in force at its on-edge (R132, R133, R134). -/
def Dev.limitsOf (d : Dev) (n : Nat) : Limits :=
  let p := d.prof n
  let r := (d.ch n).rangeInUse
  let it := d.nat (Obj.DRV_I_TARGET n)
  let nom := d.pnat n (Obj.PF_I_NOM p)
  let inr := (d.ch n).inrushOn
  let buck := d.mode n == 2
  { openLo := d.steps n r (d.pnat n (Obj.SUP_OPEN_LO_PM p) * nom) 1000
    bandLo := if buck then d.steps n r (d.buckVal n).toNat 2000 else d.steps n r (d.pnat n (Obj.SUP_BAND_LO_PM p) * it) 1000
    bandHi := if buck then d.steps n r (d.buckPk n).toNat 2000
      else if inr then d.steps n r (d.pnat n (Obj.PF_INRUSH_MAX p)) 1 else d.steps n r (d.pnat n (Obj.SUP_BAND_HI_PM p) * it) 1000
    loPm := d.pnat n (Obj.SUP_BAND_LO_PM p)
    hiPm := d.pnat n (Obj.SUP_BAND_HI_PM p)
    shortHi := d.steps n r (d.pnat n (Obj.SUP_SHORT_PM p) * d.iMax n) 2000000
    tRise := d.riseEdges n (1000 * it)
    tValid := d.validEdges n (1000 * it)
    iTarget := it
    buck := buck
    profile := p
    inrushMax := d.pnat n (Obj.PF_INRUSH_MAX p)
    railReq := d.pnat n (Obj.PF_RAIL_REQ p)
    visible := d.pnat n (Obj.PF_VISIBLE_PM p) * nom
    drainLit := d.pnat n (Obj.SUP_DRAIN_LIT_MV p)
    glitch := d.pnat n (Obj.SUP_GLITCH_NS p)
    darkDeb := d.pnat n (Obj.SUP_DARK_DEB p)
    clearDeb := d.pnat n (Obj.SUP_CLEAR_DEB p)
    typeDeb := d.pnat n (Obj.SUP_TYPE_DEB p)
    supLatch := d.pnat n (Obj.SUP_LATCH p)
    vfMin := d.pnat n (Obj.PF_VF_MIN p)
    vfMax := d.pnat n (Obj.PF_VF_MAX p)
    diodeVf := d.nat (Obj.CH_DIODE_VF n)
    ratio := d.nat (Obj.CH_DRAIN_RATIO n)
    rail := d.nat (Obj.CH_RAIL n) }

/-- A voltage at a channel's drain divider, in uV, referred to the drain in mV by a ratio (R89). -/
def drainMv (ratio uv : Nat) : Nat := roundOpen 89 (uv * ratio) 1000000

/-- The first off-time of a BUCK channel in ps (R67). -/
def Dev.toffFirst (d : Dev) (n : Nat) : Nat :=
  let p := d.prof n
  roundOpen 67 (d.nat (Obj.CH_L_NOM n) * d.ripple n * 2)
    (1000 * (d.pnat n (Obj.PF_VF_MIN p) + d.pnat n (Obj.PF_VF_MAX p) + 2 * d.nat (Obj.CH_DIODE_VF n)))

/-! ### Staging figures of R101 to R103 -/

/-- f of R101 in Hz as a ratio, at a rail voltage, twice a lamp voltage, and a tolerance in permille. -/
def Dev.buckF (d : Dev) (n v vf2 lPm : Nat) : Nat × Nat :=
  let vd := d.nat (Obj.CH_DIODE_VF n)
  ((2 * v - vf2) * (vf2 + 2 * vd) * 1000000000000000000,
    4 * d.nat (Obj.CH_L_NOM n) * lPm * d.ripple n * (v + vd))

/-- Twice V_f* of R101. -/
def Dev.vfStar2 (d : Dev) (n : Nat) : Nat :=
  let p := d.prof n
  max (2 * d.pnat n (Obj.PF_VF_MIN p)) (min (d.nat (Obj.RAIL_MAX_MV (d.nat (Obj.CH_RAIL n))) - d.nat (Obj.CH_DIODE_VF n))
    (2 * d.pnat n (Obj.PF_VF_MAX p)))

/-- f_max of R101 as a ratio. -/
def Dev.fMax (d : Dev) (n : Nat) : Nat × Nat :=
  d.buckF n (d.nat (Obj.RAIL_MAX_MV (d.nat (Obj.CH_RAIL n)))) (d.vfStar2 n) (1000 - d.nat (Obj.CH_L_TOL_PM n))

/-- The period of a configured frequency, an exact half rounding up (R108). -/
def periodOf (hz : Nat) : Nat := if hz = 0 then 0 else (200000000 + hz) / (2 * hz)

/-- DRV_FSW_MAX_HZ of a channel for a period (Table 2.13). -/
def Dev.fswMax (d : Dev) (n : Nat) : Nat :=
  if d.mode n = 0 then 0
  else if d.mode n = 2 then cdiv (d.fMax n).1 (d.fMax n).2
  else cdiv 100000000 (periodOf (d.nat (Obj.GRP_PWM_HZ (n / 4))))

/-- The gate-drive power of a channel in uW, rounded up (R103). The realised frequency is not rounded. -/
def Dev.gatePower (d : Dev) (n : Nat) : Nat :=
  let qg := d.nat (Obj.CH_FET_QG n)
  let probe := if d.pnat n (Obj.PF_PROBE_ALLOWED (d.prof n)) = 1 then 5 else 0
  if d.mode n = 0 then 0
  else if d.mode n = 2 then cdiv (qg * 15 * (d.fswMax n + probe)) 1000000
  else
    let p := periodOf (d.nat (Obj.GRP_PWM_HZ (n / 4)))
    cdiv (qg * 15 * (100000000 + (if d.mode n = 1 then probe * p else 0))) (1000000 * p)

/-! ### Roles and reach of the lamps -/

/-- Lamps can be driven: kindling has ended, the block operates, and no power-fail bank or watchdog holds them off. -/
def Dev.running (d : Dev) : Bool :=
  d.op == .operating && !d.darkened

/-- The group of a channel (R58). -/
def grpOf (n : Nat) : Nat := n / 4

/-- The channels of a group. -/
def chansOf (g : Nat) : List Nat := [4 * g, 4 * g + 1, 4 * g + 2, 4 * g + 3]

/-- The signal group a channel belongs to (R177). -/
def Dev.sgOf (d : Dev) (n : Nat) : Option Nat := (List.range 32).find? fun s => bitOf (d.bytesOf (Obj.SG_CHANNELS s)) n

/-- The drive state. -/
def Dev.drv (d : Dev) (n : Nat) : Nat := d.nat (Obj.DRV_STATE n)

/-! ### HALT-SAFE (R50, R204) -/

/-- The isolator of a group is open for a cause (Table 2.14). -/
def Dev.isoShow (d : Dev) (cause g : Nat) : Dev :=
  (d.put (Obj.GRP_ISO_STATE g) 0).put (Obj.GRP_ISO_CAUSE g) (if d.nat (Obj.GRP_ISO_USE g) = 1 then cause else 5)

/-- A channel of a halted block: HALTED, with no pulse and no evidence in progress. -/
def Dev.haltChan (d : Dev) (n : Nat) : Dev :=
  (d.setCh n { d.ch n with pulseOpen := false, due := [], dc := false, lit := false, warm := false, probeOpen := false,
                           warmOpen := false, cycleOpen := false, lowPend := none, curFrom := none
                           drainAt := none }).put (Obj.DRV_STATE n) 7

/-- Entry into HALT-SAFE for a halt cause, from KINDLING, KINDLED or OPERATING (Table 12.5). The watchdog is told on
the halt line. -/
def Dev.haltSafe (d : Dev) (cause detail : Nat) : Dev :=
  if d.op = .kindling ∨ d.op = .kindled ∨ d.op = .operating then
    let d := { d with op := .haltSafe, guard := { d.guard with tripped := true }
                      test := { d.test with sliceEnd := none, hold := none, asking := none } }
    let d := (d.put Obj.HALT_CAUSE cause).put Obj.HALT_DETAIL detail
    let d := (List.range 96).foldl Dev.haltChan d
    let d := (List.range 24).foldl (Dev.isoShow · 3) d
    let d := (List.range 16).foldl Dev.peIdle d
    d.effectsDark
  else d

/-- A frame of a cricket whose actions are complete. -/
def Dev.frameKept (d : Dev) (k : Nat) : Dev := { d with guard := { d.guard with under := tabPut 0 d.guard.under k 0 } }

/-- An underrun of cricket k, whose frame is repeated; the second consecutive one halts (R47). -/
def Dev.underrun (d : Dev) (k : Nat) : Dev :=
  let n := lookD 0 d.guard.under k + 1
  let d := { d.count (Obj.CRK_UNDERRUN_COUNT k) with guard := { d.guard with under := tabPut 0 d.guard.under k n } }
  if 2 ≤ n then d.haltSafe 0x0006 k else d

/-! ### Isolators (R92 to R96) -/

/-- A channel enters ISOLATED (Table 2.4). -/
def Dev.isoChan (d : Dev) (n : Nat) : Dev :=
  if d.drv n = 7 then d
  else
    let c := d.ch n
    ((d.setCh n { c with latchedBeforeIso := d.drv n == 5, latchCleared := false, pulseOpen := false, due := []
                         dc := false, probeOpen := false, warmOpen := false, cycleOpen := false, lowPend := none
                         curFrom := none, drainAt := none }).put (Obj.DRV_STATE n) 6).setGate n .low

/-- The device opens a group isolator for a fault: ISO low, four gates low at once (R94, R150). -/
def Dev.isolate (d : Dev) (g : Nat) : Dev :=
  if d.nat (Obj.GRP_ISO_USE g) = 1 ∧ !(d.gr g).isoFault then
    let d := d.setIso g .low
    let d := d.isoShow 2 g
    let d := d.put (Obj.GRP_ISO_VERIFY g) 0
    let d := d.count (Obj.GRP_ISO_OPEN_COUNT g)
    let d := d.setGr g { d.gr g with isoFault := true, isoOpenAt := d.now, isoVerify := true }
    (chansOf g).foldl Dev.isoChan d
  else d

/-- The check of the drains 20 ms after a fault isolation, of the voltages at their dividers in uV (R89, R96). -/
def Dev.isoCheck (d : Dev) (g : Nat) (drains : List Nat) : Dev :=
  let r := d.gr g
  if r.isoVerify ∧ r.isoOpenAt + 2000000 ≤ d.now then
    let used := (chansOf g).filter fun n => decide (d.mode n ≠ 0)
    let rail := fun n => d.nat (Obj.RAIL_MV (d.nat (Obj.CH_RAIL n)))
    let blind := used.any fun n => decide (rail n < d.nat (Obj.RAIL_MIN_MV (d.nat (Obj.CH_RAIL n))))
    let gone := used.all fun n => decide (10 * drains.getD (n % 4) 0 * d.nat (Obj.CH_DRAIN_RATIO n) < rail n * 1000000)
    (d.put (Obj.GRP_ISO_VERIFY g) (if blind then 3 else if gone then 1 else 2)).setGr g { r with isoVerify := false }
  else d

/-! ### Edges -/

/-- The gate turns on, unless it is on already (Table 2.13). -/
def Dev.gateOn (d : Dev) (n : Nat) : Dev :=
  if d.gate n = .high then d else (d.setGate n .high).count (Obj.DRV_GATE_CYCLES n)

/-- The inrush window opens at the first on-edge after darkness (R135). -/
def Dev.openInrush (d : Dev) (n : Nat) : Dev :=
  let c := d.ch n
  if c.inrushDue then
    let t := d.pnat n (Obj.PF_INRUSH_TIME (d.prof n))
    d.setCh n { c with inrushDue := false, inrushOn := decide (0 < t), inrushEnd := d.now + 100 * t }
  else d

/-- A length of the frame placed: in a seam frame scaled by S / P and rounded down (R121). -/
def Dev.scaled (d : Dev) (g edges : Nat) : Nat := edges * (d.gr g).frameEdges / max 1 (d.nat (Obj.GRP_PERIOD_EDGES g))

/-- The placed offset of a channel in edge units (R111, R121). -/
def Dev.offsetEdges (d : Dev) (n : Nat) : Nat :=
  let g := grpOf n
  d.scaled g (d.nat (Obj.DIM_OFFSET_APPLIED n) * d.nat (Obj.GRP_PERIOD_EDGES g) / 65536)

/-- The last boundary of a group in edge units (R113). -/
def Dev.boundaryEdge (d : Dev) (g : Nat) : Nat := 32 * d.nat (Obj.GRP_LAST_BOUNDARY g) + (d.gr g).sub

/-- The on-edge of a channel in the frame in progress: the boundary plus the offset, in edge units (R111). -/
def Dev.onEdgeAt (d : Dev) (n : Nat) : Nat := d.boundaryEdge (grpOf n) + d.offsetEdges n

/-- Does the on-edge of the frame fall on this tick, and has it not been placed yet? -/
def Dev.edgeDue (d : Dev) (n : Nat) : Bool := edgeTick (d.onEdgeAt n) == d.now && (d.ch n).placed != some (d.onEdgeAt n)

/-- The pending range switch takes place while the gate is low (R125). -/
def Dev.rangeSwitch (d : Dev) (n : Nat) : Dev :=
  let c := d.ch n
  if c.rangeWait then
    d.setCh n { c with rangeWait := false, rangeInUse := d.nat (Obj.CH_SENSE_RANGE n), settleEnd := d.now + 2000 }
  else d

/-- DRV_FSW_HZ of an on-interval that ends: every gate turn-on of it over its length (log entry 132). -/
def Dev.showFsw (d : Dev) (n e : Nat) : Dev :=
  let c := d.ch n
  if c.pulse.limits.buck ∧ c.gateEdge < e then
    d.put (Obj.DRV_FSW_HZ n) (roundOpen 106 ((c.cycle + 1) * 3200000000) (e - c.gateEdge))
  else d

/-- The end of a lit pulse: its evidence falls due, dark evidence can begin 200 us after its off-edge, and conduction counts
as with the gate low 2.0 us after the edge (R130, R144, R147). -/
def Dev.endPulse (d : Dev) (n : Nat) : Dev :=
  let c := d.ch n
  let p := c.pulse
  let d := d.showFsw n p.offEdge
  (d.setCh n { c with pulseOpen := false, due := c.due ++ [p], cycleOpen := false, darkFrom := p.offEdge + 640000
                      lowFrom := p.offEdge + cdiv (2 * (d.tEdge n).1) (625 * (d.tEdge n).2) + 6400 }).rangeSwitch n

/-! ### Conduction with the gate low (R144) -/

/-- Is the channel commanded lit with its gate low after a pulse? -/
def Dev.lowSpan (d : Dev) (n : Nat) : Bool :=
  let c := d.ch n
  c.lit && (d.drv n == 3 || d.drv n == 5) && !c.pulseOpen && !c.dc && (c.lowPend.isSome || c.due != [])

/-- The pulse that the span with the gate low belongs to shows conduction in it. -/
def Chan.lowMark (c : Chan) : Chan :=
  match c.lowPend with
  | some p => { c with lowPend := some { p with lowSeen := true } }
  | none =>
    { c with due := c.due.mapIdx fun i (p : PulseRec) => if i + 1 = c.due.length then { p with lowSeen := true } else p }

/-- The glitch length of that pulse in ns. -/
def Chan.lowGlitch (c : Chan) : Nat :=
  match c.lowPend with
  | some p => p.limits.glitch
  | none => ((c.due.getLast?.map fun p => p.limits.glitch).getD 0)

/-- Current above OPEN_LO ends at an instant, or the span with the gate low does: conduction in it counts where it has
lasted the glitch length. -/
def Dev.lowUntil (d : Dev) (n e : Nat) : Dev :=
  let c := d.ch n
  let since := max c.curAt c.lowFrom
  if d.lowSpan n ∧ c.curHigh ∧ since < e ∧ 16 * c.lowGlitch ≤ 5 * (e - since) then d.setCh n c.lowMark else d

/-- SHORT with detail 2 after consecutive pulses with such conduction, and its end after clean ones. -/
def Dev.gateLowJudge (d : Dev) (n : Nat) (p : PulseRec) : Dev :=
  let c := d.ch n
  let d := d.setCh n { c with gateLowRun := if p.lowSeen then c.gateLowRun + 1 else 0
                              gateLowClean := if p.lowSeen then 0 else c.gateLowClean + 1 }
  if p.limits.darkDeb ≤ (d.ch n).gateLowRun then d.raiseDetail 0x0103 n 2 (bit p.limits.supLatch 2)
  else if p.limits.clearDeb ≤ (d.ch n).gateLowClean then d.endDetail 0x0103 n 2
  else d

/-- The span with the gate low ends at the next on-edge: the pulse before is judged, unless its evidence has still to
close. -/
def Dev.lowEnd (d : Dev) (n e : Nat) : Dev :=
  let d := d.lowUntil n e
  match (d.ch n).lowPend with
  | some p => (d.setCh n { d.ch n with lowPend := none }).gateLowJudge n p
  | none => d

/-! ### Placed edges -/

/-- A lit pulse begins, or the pulse that spans the boundary goes on with the later off-edge (R111, R117). It replaces a
warming pulse that is still open (Table 2.4). -/
def Dev.litOn (d : Dev) (n : Nat) : Dev :=
  let e := d.onEdgeAt n
  let c := d.ch n
  let off := e + d.nat (Obj.DIM_ON_EDGES n)
  if c.dc ∨ c.noOn ∨ !d.edgeDue n then d
  else
    let d := d.setCh n { c with placed := some e }
    let d := if c.pulseOpen ∧ c.pulse.offEdge < e then (d.endPulse n).setGate n .low else d
    let c := d.ch n
    if c.pulseOpen then d.setCh n { c with pulse := { c.pulse with offEdge := max c.pulse.offEdge off } }
    else
      let d := (d.lowEnd n e).openInrush n
      let c := d.ch n
      let d := d.setCh n { c with pulseOpen := true, gateEdge := e, cycle := 0, cycleOpen := d.mode n == 2, cycleAt := e
                                  probeOpen := false, warmOpen := false
                                  pulse := { onEdge := e, offEdge := off, limits := d.limitsOf n
                                             settling := decide (d.now < c.settleEnd), inrush := c.inrushOn
                                             frame := d.nat (Obj.GRP_FRAME_COUNT (grpOf n)) } }
      d.gateOn n

/-- A warming pulse begins (R71, R72). -/
def Dev.warmOn (d : Dev) (n : Nat) : Dev :=
  let e := d.onEdgeAt n
  let c := d.ch n
  if c.pulseOpen ∨ c.warmOpen ∨ c.dc ∨ c.warmWidth = 0 ∨ !d.edgeDue n then d
  else (d.setCh n { c with placed := some e, warmOpen := true, gateEdge := e, startAt := e }).gateOn n

/-- The placed off-edge: the gate turns off wherever the switching cycle stands (R70, R80). -/
def Dev.offEdge (d : Dev) (n : Nat) : Dev :=
  let c := d.ch n
  if d.running ∧ c.pulseOpen ∧ c.pulse.offEdge ≤ 32 * d.now + 31 then (d.endPulse n).setGate n .low else d

/-- The end of the inrush window (R135). -/
def Dev.endInrush (d : Dev) (n : Nat) : Dev :=
  let c := d.ch n
  if c.inrushOn ∧ c.inrushEnd ≤ d.now then d.setCh n { c with inrushOn := false } else d

/-! ### BUCK cycles (R67 to R69) -/

/-- A BUCK channel in an on-interval. -/
def Dev.inCycle (d : Dev) (n : Nat) : Bool :=
  let c := d.ch n
  d.running && c.pulse.limits.buck && (c.pulseOpen || c.dc)

/-- The off-time in ps that follows a cycle from its gate turn-on to its turn-off. -/
def offTime (toff began e : Nat) : Nat :=
  max (min 20000000 (max 300000 toff)) (1000000 - (e - began) * 625 / 2)

/-- The gate turns off at the end of a cycle. -/
def Dev.cycleOff (d : Dev) (n e : Nat) : Dev :=
  let c := d.ch n
  (d.setCh n { c with cycleOpen := false, gateOffAt := e, toff := offTime c.toff c.cycleAt e }).setGate n .low

/-- Has the blanking of BAND upper passed, 150 ns after the end of the gate edge? -/
def Dev.blanked (d : Dev) (n e : Nat) : Bool :=
  let t := d.tEdge n
  decide ((e - (d.ch n).cycleAt) * 625 * t.2 < 2 * (t.1 + 150000 * t.2))

/-- The current crosses I_pk, in edge unit `sub` of the tick. -/
def Dev.peakCrossing (d : Dev) (n sub : Nat) : Dev :=
  let e := 32 * d.now + sub
  if d.inCycle n ∧ (d.ch n).cycleOpen ∧ !d.blanked n e then d.cycleOff n e else d

/-- The off-time is over: the gate turns on, and the valley sample adapts the off-time. -/
def Dev.offTimeOver (d : Dev) (n sample : Nat) : Dev :=
  let c := d.ch n
  let on := cdiv (c.gateOffAt * 3125 + c.toff * 10) 3125
  if d.inCycle n ∧ !c.cycleOpen ∧ on ≤ 32 * d.now + 31 then
    let pk := d.buckPk n
    let t := if 2000 * (sample : Int) < pk then
        roundOpen 67 (c.toff * (pk - d.buckVal n).toNat) (pk - 2000 * (sample : Int)).toNat
      else 2 * c.toff
    (d.setCh n { c with cycleOpen := true, cycleAt := max on (32 * d.now), cycle := c.cycle + 1, toff := t }).gateOn n
  else d

/-- A cycle that has not reached I_pk within 40 us ends, short of peak (R69). -/
def Dev.peakTimeout (d : Dev) (n : Nat) : Dev :=
  let c := d.ch n
  let e := c.cycleAt + 128000
  if d.inCycle n ∧ c.cycleOpen ∧ e ≤ 32 * d.now + 31 then
    let p := if c.cycle = 0 then { c.pulse with firstShort := some e }
      else { c.pulse with laterShort := some (c.pulse.laterShort.getD e) }
    (d.setCh n { c with pulse := p }).cycleOff n (max e (32 * d.now))
  else d

/-! ### Shorts (R75 to R77, R81, R166, R167) -/

/-- A pulse in which, or after whose off-edge with the gate still up, SHORT_HI is crossed. -/
def PulseRec.short (p : PulseRec) (e : Nat) : PulseRec := { p with shortHi := true, shortHiAt := e }

/-- Can SHORT_HI be crossed now: in DARK, WARMING and LIT, and in a channel that an activation sets OFF at this instant,
over which a short has precedence (R76)? -/
def Dev.shortable (d : Dev) (n : Nat) : Bool :=
  let st := d.drv n
  d.running && (st == 1 || st == 2 || st == 3 || (st == 0 && (d.ch n).offAt == some d.now))

/-- The crossing of SHORT_HI in edge unit `sub` of the tick: soft-off begins, and the short is raised or counts as a retry
used. A pulse that it ends stays due with its placed off-edge. -/
def Dev.shortHi (d : Dev) (n sub : Nat) : Dev :=
  let e := 32 * d.now + sub
  if d.shortable n then
    let c := d.ch n
    let ramp := d.inRamp n e
    let lit := c.pulseOpen || c.dc
    let latch := bit (if lit then c.pulse.limits.supLatch else d.pnat n (Obj.SUP_LATCH (d.prof n))) 2
    let d := if lit then d.showFsw n e else d
    let d := d.setGate n .soft
    let d := d.put (Obj.DRV_STATE n) 4
    let d := d.count (Obj.DRV_SOFTOFF_COUNT n)
    let d := d.put (Obj.DRV_LATCH_CAUSE n) (if ramp then 1 else 2)
    let d := if c.inRetry then d.countSat (Obj.DRV_RETRY_USED n) 3 else d
    let third := c.inRetry && decide (d.nat (Obj.DRV_RETRY_USED n) = 3)
    let d := d.setCh n { c with softAt := d.now, pulseOpen := false, dc := false
                                due := if lit then c.due ++ [c.pulse.short e] else c.due
                                cycleOpen := false, probeOpen := false, warmOpen := false, thirdLatched := third }
    let d := if ramp then d.raiseOnce 0x0106 n 0 else d.raiseDetail 0x0103 n 1 latch
    let d := if c.inrushOn then d.raiseOnce 0x010A n 0 else d
    if third then (d.latchC 0x0106 n).latchDetail 0x0103 n 1 else d
  else d

/-- Entry into LATCHED_DARK: the gate is held low, the 100 ms of R77 start, and dark evidence can begin 200 us later. -/
def Dev.latchDark (d : Dev) (n : Nat) : Dev :=
  (((d.setCh n { d.ch n with latchAt := d.now, retryDue := false, latchCleared := false
                             darkFrom := 32 * d.now + 640000, lowFrom := 32 * d.now + 6400 }).put (Obj.DRV_STATE n) 5).setGate n .low).rangeSwitch n

/-- The gate has fallen below 1.0 V. -/
def Dev.softOffDone (d : Dev) (n : Nat) : Dev := if d.running ∧ d.drv n = 4 then d.latchDark n else d

/-- The time a soft-off may take, in ticks rounded up (R81). -/
def Dev.softOffLimit (d : Dev) (n : Nat) : Nat :=
  let ma := gateMa (d.nat (Obj.CH_GATE_STRENGTH n))
  cdiv (20 * d.nat (Obj.CH_FET_QG n) + 1000 * ma) (10 * ma)

/-- The soft-off has exceeded its limit. -/
def Dev.softOffLate (d : Dev) (n : Nat) : Dev :=
  if d.running ∧ d.drv n = 4 ∧ (d.ch n).softAt + d.softOffLimit n ≤ d.now then d.latchDark n else d

/-- 100 ms since the latch: a retry is due. -/
def Dev.retryTimer (d : Dev) (n : Nat) : Dev :=
  let c := d.ch n
  if (d.drv n = 5 ∨ (d.drv n = 6 ∧ c.latchedBeforeIso)) ∧ c.latchAt + 10000000 ≤ d.now then
    d.setCh n { c with retryDue := true }
  else d

/-- The retry count returns to 0, and with it the short conditions that are not latched (R77, R167, R541). -/
def Dev.retryZero (d : Dev) (n : Nat) : Dev :=
  let d := d.put (Obj.DRV_RETRY_USED n) 0
  let d := d.setCh n { d.ch n with inRetry := false, thirdLatched := false }
  (d.clearFree 0x0106 n).endDetail 0x0103 n 1

/-- 10 s in LIT without a short. -/
def Dev.retryClean (d : Dev) (n : Nat) : Dev :=
  let c := d.ch n
  if d.running ∧ d.drv n = 3 ∧ c.litSince + 1000000000 ≤ d.now then d.retryZero n else d

end Sys2Proof.Machine
end

