-- ==== Sys2Proof/Machine/Supervise.lean ====
section
/-! DEFINITION. Supervision of lamps (chapter 04): the evidence of a pulse and its classification, the lit verdict,
dark evidence, proving of continuity, and optical evidence. -/
namespace Sys2Proof.Machine

/-- How a pulse or an evidence item is classified (R138). -/
inductive Outcome where
  | neutral
  | good
  | qualified
  | deviating (reason onset : Nat)
  deriving DecidableEq, Repr

/-! ### The evidence items of a lit pulse (Table 4.2, R542) -/

/-- Excursions that count: at least the glitch length, from one edge to before another (R136). -/
def realExc (glitch fromEdge toEdge : Nat) (l : List Excursion) : List Excursion :=
  l.filter fun e => decide (glitch ≤ e.ns) && decide (fromEdge ≤ e.at') && decide (e.at' < toEdge)

/-- The excursions below the band after the rise. -/
def belows (p : PulseRec) (ev : PulseEv) : List Excursion :=
  realExc p.limits.glitch (p.onEdge + (if p.riseItem then ev.rise.getD 0 else 0)) p.offEdge ev.below

/-- The excursions above the band. -/
def aboves (p : PulseRec) (ev : PulseEv) : List Excursion := realExc p.limits.glitch p.onEdge p.offEdge ev.above

/-- Is the mean of a BUCK pulse above the band? -/
def meanAbove (p : PulseRec) (ev : PulseEv) : Bool := decide (p.limits.hiPm * p.limits.iTarget < ev.iMean * 1000)

/-- Is the drain sample of a pulse of at least 4.0 us above its limit? -/
def drainBad (p : PulseRec) (ev : PulseEv) : Bool :=
  match ev.drain with
  | some x => decide (12800 ≤ p.offEdge - p.onEdge) && decide (p.limits.drainLit * 1000000 < x.1 * p.limits.ratio)
  | none => false

/-- The failing low-current item of reasons 1, 2 and 4, with its stamp: none, or the reason classify gives. -/
def lowItem (p : PulseRec) (ev : PulseEv) : Option (Nat × Nat) :=
  let l := p.limits
  let riseOk := !p.riseItem || (if l.buck then p.firstShort.isNone
    else match ev.rise with
      | some e => decide (e ≤ l.tRise)
      | none => false)
  if !riseOk then some (1, edgeTick (if l.buck then p.firstShort.getD p.onEdge else p.onEdge + l.tRise))
  else if l.buck then
    if ev.iMean * 1000 < l.loPm * l.iTarget then some (2, edgeTick p.offEdge)
    else match p.laterShort with
      | some e => some (4, edgeTick e)
      | none => none
  else match belows p ev with
    | e :: _ => some (2, edgeTick e.at')
    | [] => none

/-- The stamps of every failing item of a pulse. -/
def failStamps (p : PulseRec) (ev : PulseEv) : List Nat :=
  let buck := p.limits.buck
  let low := match lowItem p ev with
    | some x => [x.2]
    | none => []
  let mean := if buck ∧ ev.iMean * 1000 < p.limits.loPm * p.limits.iTarget then [edgeTick p.offEdge] else []
  let dips := if buck then [] else (belows p ev).map fun e => edgeTick e.at'
  let later := match p.laterShort with
    | some e => if buck then [edgeTick e] else []
    | none => []
  let above := if buck then (if meanAbove p ev then [edgeTick p.offEdge] else []) else (aboves p ev).map fun e => edgeTick e.at'
  let drain := match ev.drain with
    | some x => if drainBad p ev then [x.2] else []
    | none => []
  let short := if p.shortHi then [edgeTick p.shortHiAt] else []
  low ++ mean ++ dips ++ later ++ above ++ drain ++ short

/-- The earliest of a list of stamps. -/
def earliest (l : List Nat) : Nat :=
  match l with
  | [] => 0
  | x :: r => r.foldl min x

/-- Has the front end seen conduction with the gate low for the glitch length (R144)? -/
def gateLowFound (p : PulseRec) (ev : PulseEv) : Bool := decide (0 < ev.gateLowNs) && decide (p.limits.glitch ≤ ev.gateLowNs)

/-- Classification (R138): `inom` is not needed, as the visible floor is kept times the nominal current. -/
def classify (p : PulseRec) (ev : PulseEv) : Outcome :=
  let l := p.limits
  let onset := earliest (failStamps p ev)
  if p.offEdge - p.onEdge < l.tValid ∨ p.settling then .neutral
  else if p.shortHi then .deviating 6 onset
  else if (if l.buck then meanAbove p ev else aboves p ev != []) then .deviating 3 onset
  else if drainBad p ev then .deviating 5 onset
  else match lowItem p ev with
    | none => .good
    | some x =>
      if ev.railMin < l.railReq ∧ l.visible ≤ ev.iMean * 1000 then .qualified else .deviating x.1 onset

/-! ### The lit verdict (R141) -/

/-- Continuity is proven, which ends OPEN unless it is latched (R158). -/
def Dev.provenC (d : Dev) (n : Nat) : Dev := (d.put (Obj.SUP_CONTINUITY n) 1).clearFree 0x0104 n

/-- The detail of an active DARK_FAULT. -/
def Dev.darkReason (d : Dev) (n : Nat) : Nat :=
  match d.cond 0x0101 n with
  | some c => c.detail
  | none => 0

/-- DARK_FAULT with a reason, under a SUP_LATCH (R141, R164, R140). -/
def Dev.darkFault (d : Dev) (n reason latch : Nat) : Dev :=
  if d.active 0x0101 n then d
  else (d.raiseC 0x0101 n reason (decide (reason ≤ 7) && bit latch 0)).count (Obj.SUP_DARK_FAULTS n)

/-- A classification under the limits of its pulse enters the counters, the observed state and the conditions. While the channel is dark by optical
authority, electrical evidence leaves the observed state and the fault alone (Table 4.5, Table 4.6). -/
def Dev.onClassified (d : Dev) (n : Nat) (o : Outcome) (l : Limits) : Dev :=
  let optical := d.darkReason n == 7
  match o with
  | .neutral => d
  | .deviating reason onset =>
    let d := d.countSat (Obj.SUP_DEV_COUNT n) 255
    let d := d.put (Obj.SUP_GOOD_COUNT n) 0
    let d := d.setCh n { d.ch n with good := 0, qual := 0 }
    let d := d.put (Obj.SUP_LAST_REASON n) reason
    let d := if d.nat (Obj.SUP_DEV_COUNT n) = 1 then d.put (Obj.SUP_ONSET n) onset else d
    if l.darkDeb ≤ d.nat (Obj.SUP_DEV_COUNT n) then
      let d := d.put (Obj.SUP_OBSERVED n) 4
      (d.darkFault n reason l.supLatch).put (Obj.SUP_VERDICT_TIME n) d.now
    else d
  | .good | .qualified =>
    let q := o == .qualified
    let d := d.put (Obj.SUP_DEV_COUNT n) 0
    let d := d.countSat (Obj.SUP_GOOD_COUNT n) 65535
    let c := d.ch n
    let d := d.setCh n { c with good := if q then 0 else c.good + 1, qual := if q then c.qual + 1 else 0 }
    let d := if optical then d else d.put (Obj.SUP_OBSERVED n) (if q then 3 else 2)
    let d := if q ∧ l.darkDeb ≤ c.qual + 1 then d.raiseOnce 0x0105 n 0 else d
    let d := if !q ∧ l.clearDeb ≤ c.good + 1 then d.clearFree 0x0105 n else d
    let d := d.provenC n
    let r := d.darkReason n
    if l.clearDeb ≤ d.nat (Obj.SUP_GOOD_COUNT n) ∧ 1 ≤ r ∧ r ≤ 6 then d.clearFree 0x0101 n else d

/-- A pulse enters the deviation stream (R340). The model is the outcome of the pulse before; for a lamp that was GOOD
or clean, it is GOOD while lit and clean while dark. A pulse that differs is journalled with its evidence, and so is the
run it ends; a run is closed after 100 ms. -/
def Dev.pulseModel (d : Dev) (n outcome reason : Nat) (ev : List Int) : Dev :=
  let c := d.ch n
  let clean := fun (o : Nat) => o == 1 || o == 4
  if c.model = outcome ∧ c.modelReason = reason then
    if c.runAt + 10000000 ≤ d.now then
      (d.jrec 0x06 [n, outcome, (c.runCount + 1 : Nat)]).setCh n { c with runCount := 0, runAt := d.now }
    else d.setCh n { c with runCount := c.runCount + 1 }
  else
    let d := if 0 < c.runCount then d.jrec 0x06 [n, c.model, c.runCount] else d
    if clean c.model && clean outcome then d.setCh n { c with model := outcome, modelReason := reason, runCount := 1, runAt := d.now }
    else
      (d.jrec 0x07 ([(n : Int), (d.nat (Obj.SUP_LAST_EVAL n) : Nat), outcome, reason] ++ ev)).setCh n
        { c with model := outcome, modelReason := reason, runCount := 0, runAt := d.now }

/-- The number an outcome has in the journal: 0 neutral, 1 good, 2 qualified, 3 deviating. Further numbers are 4 clean
dark evidence, 5 a drain grounded, 6 current while dark, and 7 conduction with the gate low. -/
def Outcome.code : Outcome → Nat × Nat
  | .neutral => (0, 0)
  | .good => (1, 0)
  | .qualified => (2, 0)
  | .deviating r _ => (3, r)

/-- The evidence a classification consumes, as numbers. -/
def evNumbers (ev : PulseEv) : List Int :=
  [match ev.rise with
    | some e => (e : Int)
    | none => -1, ev.below.length, ev.above.length, ev.iMean, ev.iPeak, ev.railMin, ev.gateLowNs]

/-- The highest current sample of a frame; DRV_I_PEAK has it once the frame is over (Table 2.13). -/
def Dev.framePeak (d : Dev) (n frame ua : Nat) : Dev :=
  let c := d.ch n
  let d := d.setCh n { c with peakFrame := frame, peak := if c.peakFrame = frame then max c.peak ua else ua }
  if frame < d.nat (Obj.GRP_FRAME_COUNT (grpOf n)) then d.put (Obj.DRV_I_PEAK n) (d.ch n).peak else d

/-- The instant at which the evidence of a pulse closes: 200 us after its off-edge, or the next on-edge if that comes
earlier; of an E-interval, its end (R130, R131). -/
def Chan.closeEdge (c : Chan) (p : PulseRec) : Nat :=
  if p.eInt then p.offEdge
  else match c.placed with
    | some e => if p.offEdge ≤ e then min e (p.offEdge + 640000) else p.offEdge + 640000
    | none => p.offEdge + 640000

/-- The evidence objects of a pulse. -/
def Dev.showEvidence (d : Dev) (n : Nat) (p : PulseRec) (ev : PulseEv) : Dev :=
  let d := d.put (Obj.SUP_LAST_EVAL n) (edgeTick ((d.ch n).closeEdge p))
  let d := (d.put (Obj.DRV_I_MEAN n) ev.iMean).framePeak n p.frame ev.iPeak
  let d := match ev.rise with
    | some e => d.put (Obj.SUP_RISE_EDGES n) e
    | none => d
  let d := match ev.drain with
    | some x => d.put (Obj.DRV_V_DRAIN_LIT n) (drainMv p.limits.ratio x.1)
    | none => d
  (d.put (Obj.RAIL_MV p.limits.rail) ev.railNow).put (Obj.RAIL_LOW_MV p.limits.rail) ev.railMin

/-- V_lamp of R169 in mV. -/
def lampMv (l : Limits) (ev : PulseEv) : Option Int :=
  if l.buck then
    if ev.condDen = 0 then none
    else some ((roundOpen 169 (ev.condNum * (ev.railNow + l.diodeVf)) ev.condDen : Nat) - (l.diodeVf : Int))
  else match ev.drain with
    | some x => some ((ev.railNow : Int) - (drainMv l.ratio x.1 : Nat))
    | none => none

/-- The type of the lamp, judged on a GOOD pulse of 4.0 us or more; a pulse of a channel commanded dark since changes no
condition (R142, R169). -/
def Dev.typeJudge (d : Dev) (n : Nat) (p : PulseRec) (ev : PulseEv) : Dev :=
  let l := p.limits
  if p.offEdge - p.onEdge < 12800 then d
  else match lampMv l ev with
    | none => d
    | some v =>
      let bad := decide (100 * v < 95 * (l.vfMin : Int)) || decide (105 * (l.vfMax : Int) < 100 * v)
      let d := d.put (Obj.SUP_LAMP_MV n) v.toNat
      let c := d.ch n
      let c := { c with typeOut := if bad then c.typeOut + 1 else 0, typeIn := if bad then 0 else c.typeIn + 1 }
      let d := d.setCh n c
      if p.dark then d
      else
        let d := if l.typeDeb ≤ c.typeOut then d.raiseOnce 0x010A n 0 else d
        if l.typeDeb ≤ c.typeIn then d.clearFree 0x010A n else d

/-- The conduction of a pulse in edge units: a short ends it (R214). -/
def PulseRec.conducted (p : PulseRec) : Nat := (if p.shortHi then p.shortHiAt else p.offEdge) - p.onEdge

/-- The reason of a pulse that changes no condition. -/
def Dev.recordReason (d : Dev) (n : Nat) (o : Outcome) : Dev :=
  match o with
  | .deviating r _ => d.put (Obj.SUP_LAST_REASON n) r
  | _ => d

/-- A pulse is evaluated. A pulse of a channel that has been commanded dark since is recorded and changes no condition
(R142). -/
def Dev.evaluate (d : Dev) (n : Nat) (p : PulseRec) (ev : PulseEv) : Dev :=
  let d := d.showEvidence n p ev
  let o := if p.lowSeen then Outcome.neutral else classify p ev
  let d := d.pulseModel n (if p.lowSeen then 7 else o.code.1) o.code.2 (evNumbers ev)
  let d := d.lifeConduct n p.conducted ev.iMean
  let d := if p.dark then d.recordReason n o else d.onClassified n o p.limits
  if o = .good then d.typeJudge n p ev else d

/-- Is the evidence of a pulse closed now: 200 us after its off-edge or at the next on-edge (R130)? -/
def Dev.closed (d : Dev) (n : Nat) (p : PulseRec) : Bool := decide ((d.ch n).closeEdge p ≤ 32 * d.now + 31)

/-- A pulse leaves the list of those whose evidence has to close. -/
def Chan.taken (c : Chan) (p : PulseRec) : Chan := { c with due := c.due.erase p }

/-- The evidence of the oldest pulse closes. Conduction with the gate low is judged at the next on-edge, or here where that
has come already (R144). -/
def Dev.evidence (d : Dev) (n : Nat) (ev : PulseEv) : Dev :=
  let c := d.ch n
  match c.due.find? (fun p => !p.eInt) with
  | none => d
  | some p =>
    if d.running ∧ d.closed n p then
      let ended := c.closeEdge p < p.offEdge + 640000
      let q := { p with lowSeen := p.lowSeen || gateLowFound p ev }
      let d := (d.setCh n (c.taken p)).evaluate n q ev
      if q.dark then d
      else if ended then d.gateLowJudge n q
      else d.setCh n { d.ch n with lowPend := some q }
    else d

/-- The number of E-intervals of a frame of F ticks, and the length of one in edge units (R131). -/
def eCount (f : Nat) : Nat := cdiv f 50000
def eEdges (f : Nat) : Nat := if f = 0 then 0 else 32 * f / eCount f

/-- The E-interval of a channel that begins at an edge unit of its group's frame; the last of a frame ends at the
frame's end (R131). -/
def Dev.eOpen (d : Dev) (n onEdge : Nat) (riseItem : Bool) : PulseRec :=
  let r := d.gr (grpOf n)
  let e := onEdge + eEdges r.frameLen
  let frame := 32 * r.next + r.nextSub
  let c := d.ch n
  { onEdge := onEdge, offEdge := if onEdge < frame ∧ frame < e + 32 then frame else e
    limits := d.limitsOf n, riseItem := riseItem, eInt := true, settling := decide (edgeTick onEdge < c.settleEnd)
    inrush := c.inrushOn, frame := d.nat (Obj.GRP_FRAME_COUNT (grpOf n)) }

/-- Is the E-interval of a DC channel over? -/
def Dev.eOver (d : Dev) (n : Nat) : Bool :=
  (d.ch n).dc && d.running && decide ((d.ch n).pulse.offEdge ≤ 32 * d.now + 31)

/-- An E-interval of DC conduction that has ended is evaluated as a pulse; of a channel still in DC the next one begins
(R131). -/
def Dev.eInterval (d : Dev) (n : Nat) (ev : PulseEv) : Dev :=
  let c := d.ch n
  if !d.running then d
  else match c.due.find? (fun p => p.eInt && decide (p.offEdge ≤ 32 * d.now + 31)) with
    | some p => (d.setCh n (c.taken p)).evaluate n p ev
    | none =>
      if d.eOver n then
        let d := d.evaluate n c.pulse ev
        d.setCh n { d.ch n with pulse := d.eOpen n c.pulse.offEdge false }
      else d

/-! ### Lit when commanded dark (R147 to R150) -/

/-- Dark evidence of current counts: commanded dark, not isolated, 200 us after the last off-edge. -/
def Dev.darkWatched (d : Dev) (n : Nat) : Bool :=
  let c := d.ch n
  d.running && decide (d.mode n ≠ 0) && !c.lit && (d.drv n == 1 || d.drv n == 2 || d.drv n == 5) && !c.pulseOpen &&
    decide (c.darkFrom ≤ 32 * d.now + 31)

/-- Dark evidence is suspended by a probe or a warming pulse and for 20 us after it (R148). -/
def Dev.suspended (d : Dev) (n : Nat) : Bool :=
  (d.ch n).probeOpen || (d.ch n).warmOpen || decide (d.now < (d.ch n).suspendEnd)

/-- Dark evidence of current that counts now. -/
def Dev.darkCounts (d : Dev) (n : Nat) : Bool := d.darkWatched n && !d.suspended n

/-- The first dark evidence of a current that stands: its crossing, the start of dark evidence, or the end of the suspension
it outlasts. Evidence in a suspended span is ignored (R147, R148, R150). -/
def Dev.curSettle (d : Dev) (n : Nat) : Dev :=
  let c := d.ch n
  if d.darkCounts n then
    let first := c.curFrom.getD (max c.curAt (max c.darkFrom (32 * c.suspendEnd)))
    d.setCh n { c with curFrom := if c.curHigh then some first else none }
  else d

/-- OPEN_LO is crossed upwards, in edge unit `sub` of the tick. -/
def Dev.openLoUp (d : Dev) (n sub : Nat) : Dev :=
  let e := 32 * d.now + sub
  let d := d.curSettle n
  let d := if d.darkCounts n then d.pulseModel n 6 0 [] else d
  let c := d.ch n
  if c.curHigh then d
  else d.setCh n { c with curHigh := true, curAt := e, curFrom := if d.darkCounts n then some e else c.curFrom }

/-- The current falls below OPEN_LO. A fall in a suspended span is ignored until evidence counts again. -/
def Dev.openLoDown (d : Dev) (n : Nat) : Dev :=
  let d := d.lowUntil n (32 * d.now)
  let d := if d.darkCounts n then d.pulseModel n (if (d.ch n).drainAt.isSome then 5 else 4) 0 [] else d
  d.setCh n { d.ch n with curHigh := false, curFrom := if d.suspended n then (d.ch n).curFrom else none }

/-- A group whose isolator can be open or closed, and is open (R148, R156). -/
def Dev.isoOpen (d : Dev) (g : Nat) : Bool := d.nat (Obj.GRP_ISO_USE g) == 1 && d.nat (Obj.GRP_ISO_STATE g) == 0

/-- Does drain grounding count now: not while the isolator is open, nor for 1.0 ms after it closes (R148)? -/
def Dev.drainCounts (d : Dev) (n : Nat) : Bool :=
  d.darkCounts n && !d.isoOpen (grpOf n) && decide ((d.gr (grpOf n)).isoClosedAt + 100000 ≤ d.now)

/-- A drain sample of a dark channel, of the voltage at the divider in uV (R89, R147, R148). -/
def Dev.drainSample (d : Dev) (n uv rail : Nat) : Dev :=
  let ratio := d.nat (Obj.CH_DRAIN_RATIO n)
  let d := (d.put (Obj.DRV_V_DRAIN_DARK n) (drainMv ratio uv)).put (Obj.RAIL_MV (d.nat (Obj.CH_RAIL n))) rail
  let c := d.ch n
  if d.drainCounts n then
    let p := d.prof n
    let grounded := decide (uv * ratio < d.pnat n (Obj.SUP_DARK_DRAIN_PM p) * rail * 1000) && decide (d.pnat n (Obj.PF_VF_MIN p) ≤ rail)
    let d := d.pulseModel n (if grounded then 5 else if c.curHigh then 6 else 4) 0 [(uv : Int), (rail : Int)]
    d.setCh n { d.ch n with drainAt := if grounded then some (c.drainAt.getD d.now) else none, drainLast := d.now }
  else d

/-- Where the group has no isolator, a LIT_FAULT holds the gate of its channel low (R152). -/
def Dev.litHeld (d : Dev) (n : Nat) : Bool := d.active 0x0102 n && d.nat (Obj.GRP_ISO_USE (grpOf n)) == 0

/-- Has the current kind lasted a number of ticks? -/
def Dev.currentLasted (d : Dev) (n ticks : Nat) : Bool :=
  match (d.ch n).curFrom with
  | some e => decide (e + 32 * ticks ≤ 32 * d.now + 31)
  | none => false

/-- Has the drain kind lasted a number of ticks, a sample having shown it since the last suspension? -/
def Dev.drainLasted (d : Dev) (n ticks : Nat) : Bool :=
  d.drainCounts n && sinceAtLeast (d.ch n).drainAt ticks d.now && decide ((d.ch n).suspendEnd ≤ (d.ch n).drainLast)

/-- A failure of dark evidence has lasted SUP_LIT_DEB_US: LIT_FAULT, observed lit, isolation (R150, R152). -/
def Dev.litDebounce (d : Dev) (n : Nat) : Dev :=
  let d := d.curSettle n
  let deb := 100 * d.pnat n (Obj.SUP_LIT_DEB_US (d.prof n))
  let cur := d.currentLasted n deb
  if d.darkCounts n ∧ !d.active 0x0102 n ∧ (cur || d.drainLasted n deb) then
    let c := d.ch n
    let d := d.put (Obj.SUP_OBSERVED n) 2
    let d := d.put (Obj.SUP_ONSET n) (if cur then edgeTick c.curAt else c.drainAt.getD d.now)
    let d := d.put (Obj.SUP_VERDICT_TIME n) d.now
    let d := (d.raiseC 0x0102 n (if cur then 1 else 2) true).count (Obj.SUP_LIT_FAULTS n)
    let d := if d.litHeld n ∧ d.drv n = 2 then d.put (Obj.DRV_STATE n) 1 else d
    d.isolate (grpOf n)
  else d

/-! ### Dark proving (R155 to R158) -/

/-- Is the frame that began at the last boundary the first one at or after the instant of a probe (R155)? -/
def Dev.probeFrame (d : Dev) (n : Nat) : Bool :=
  let g := grpOf n
  let hz := d.pnat n (Obj.SUP_PROBE_HZ (d.prof n))
  let b := d.nat (Obj.GRP_LAST_BOUNDARY g)
  decide (n * 200000 ≤ b) && decide ((b - n * 200000) * hz % 100000000 < (d.gr g).prevLen * hz)

/-- A probe falls due and is fired unless R156 suppresses it. -/
def Dev.probeDue (d : Dev) (n : Nat) : Dev :=
  let p := d.prof n
  let e := d.onEdgeAt n
  if d.running ∧ d.drv n = 1 ∧ !d.litHeld n ∧ d.pnat n (Obj.PF_PROBE_ALLOWED p) = 1 ∧ d.pnat n (Obj.SUP_PROBE_HZ p) ≠ 0 ∧
      d.probeFrame n ∧ d.edgeDue n ∧ !(d.ch n).probeOpen ∧ !(d.ch n).pulseOpen ∧
      d.pnat n (Obj.PF_RAIL_REQ p) ≤ d.nat (Obj.RAIL_MV (d.nat (Obj.CH_RAIL n))) ∧ !d.isoOpen (grpOf n) ∧
      (d.ch n).settleEnd ≤ d.now ∧ !d.pathHeld 5 n then
    let d := d.curSettle n
    (d.setCh n { d.ch n with placed := some e, probeOpen := true, probeAt := e, gateEdge := e }).gateOn n
  else d

/-- A placed on-edge of a channel: of its lit pulse in LIT, of its warming pulse in WARMING. -/
def Dev.onEdge (d : Dev) (n : Nat) : Dev :=
  if !d.running then d
  else if d.drv n = 3 then d.litOn n
  else if d.drv n = 2 then (d.curSettle n).warmOn n
  else d

/-- Continuity is lost: OPEN (R158). -/
def Dev.lostC (d : Dev) (n : Nat) : Dev :=
  (d.put (Obj.SUP_CONTINUITY n) 2).raiseOnce 0x0104 n 0 (bit (d.pnat n (Obj.SUP_LATCH (d.prof n))) 1)

/-- A probe ends at its OPEN_LO crossing or after 3.0 us; a crossing within it passes (R155, R156). -/
def Dev.probeEnd (d : Dev) (n : Nat) (crossed : Bool) : Dev :=
  let c := d.ch n
  let e := c.probeAt + 9600
  let pass := crossed && decide (32 * d.now ≤ e)
  if d.running ∧ c.probeOpen ∧ (pass ∨ e ≤ 32 * d.now + 31) then
    let d := ((d.setCh n { c with probeOpen := false, suspendEnd := d.now + 2000
                                  probeFails := if pass then 0 else c.probeFails + 1 }).setGate n .low).rangeSwitch n
    if pass then d.provenC n
    else
      let d := d.count (Obj.SUP_PROBE_FAILS n)
      if d.pnat n (Obj.SUP_PROBE_DEB (d.prof n)) ≤ c.probeFails + 1 then d.lostC n else d
  else d

/-- W_max of a warming pulse in edge units (R72). -/
def Dev.warmMax (d : Dev) (n : Nat) : Nat :=
  let p := d.prof n
  d.pnat n (Obj.PF_WARM_CURRENT p) * d.nat (Obj.GRP_PERIOD_EDGES (grpOf n)) / max 1 (d.pnat n (Obj.PF_I_NOM p))

/-- The next warming width: at most 1.25 times the present one and W_max. Where current flows, the regulation of R71 gives
it, such that at the present current the mean is PF_WARM_CURRENT within 5 %; which width of these is open (log entry 9). -/
def Dev.warmNext (d : Dev) (n mean : Nat) : Nat :=
  let w := (d.ch n).warmWidth
  let want := d.pnat n (Obj.PF_WARM_CURRENT (d.prof n))
  let cap := min (5 * w / 4) (d.warmMax n)
  if mean = 0 then cap
  else
    let hi := min cap (w * 105 * want / (100 * mean))
    let lo := min hi (cdiv (w * 95 * want) (100 * mean))
    max 1 (lo + Config.openNat 71 [(n : Int), (w : Int), (mean : Int), (d.freeCount : Int)] % (hi - lo + 1))

/-- DRV_WARM_DUTY: the present warming width in 1/65536 of the period. -/
def Dev.showWarm (d : Dev) (n : Nat) : Dev :=
  d.put (Obj.DRV_WARM_DUTY n)
    (sat 65535 (roundOpen 72 ((d.ch n).warmWidth * 65536) (max 1 (d.nat (Obj.GRP_PERIOD_EDGES (grpOf n))))))

/-- A warming pulse ends at its placed width and is judged (R157, R158). -/
def Dev.warmJudge (d : Dev) (n : Nat) (crossed : Bool) (mean : Nat) : Dev :=
  let c := d.ch n
  if d.running ∧ c.warmOpen ∧ c.startAt + c.warmWidth ≤ 32 * d.now + 31 then
    let w := d.warmNext n mean
    let d := { d with freeCount := d.freeCount + 1 }
    let d := ((d.setCh n { c with warmOpen := false, suspendEnd := d.now + 2000, warmWidth := w
                                  warmFails := if crossed then 0 else c.warmFails + 1 }).setGate n .low).rangeSwitch n
    let d := d.showWarm n
    if crossed then d.provenC n
    else
      let d := d.count (Obj.SUP_PROBE_FAILS n)
      if d.pnat n (Obj.SUP_DARK_DEB (d.prof n)) ≤ c.warmFails + 1 then d.lostC n else d
  else d

/-! ### Optical evidence (R160 to R165) -/

/-- The state of an optical window: 1 present, 2 absent, 3 not available. -/
def Dev.optState (d : Dev) (n : Nat) (ev : OpticalEv) : Nat :=
  let p := d.prof n
  let c := d.ch n
  if 2 * c.optFrames < d.pnat n (Obj.SUP_OPT_FRAMES p) ∨ ev.overload ∨ ev.illConditioned ∨ !c.lit ∨ c.optAt < c.litCmdAt then 3
  else if d.pnat n (Obj.SUP_OPT_MIN_PM p) * d.nat (Obj.SUP_OPT_REF_NA n) * ev.iMean ≤ ev.na * 1000 * d.pnat n (Obj.PF_I_NOM p)
  then 1 else 2

/-- The runs of optical windows and their verdicts. Windows act while the lamp is observed lit by its electrical evidence,
and on a DARK_FAULT of reason 7; one that is not available leaves the runs as they are (Table 4.5, R165). -/
def Dev.optFuse (d : Dev) (n st : Nat) : Dev :=
  let c := d.ch n
  let deb := d.pnat n (Obj.SUP_OPT_DEB (d.prof n))
  let litSeen := d.nat (Obj.SUP_OBSERVED n) == 2 || d.nat (Obj.SUP_OBSERVED n) == 3
  let byLight := d.darkReason n == 7
  if !litSeen ∧ !byLight then d
  else if st = 1 then
    let d := d.setCh n { c with optAbsent := 0, optPresent := c.optPresent + 1 }
    if deb ≤ c.optPresent + 1 then
      let d := d.clearFree 0x0107 n
      if byLight then d.clearFree 0x0101 n else d
    else d
  else if st = 2 then
    let run := if litSeen then c.optAbsent + 1 else c.optAbsent
    let d := d.setCh n { c with optPresent := 0, optAbsent := run }
    if litSeen ∧ deb ≤ run then
      let d := d.raiseOnce 0x0107 n 0
      if d.nat (Obj.SUP_OPT_AUTH n) = 1 then
        let d := d.put (Obj.SUP_OBSERVED n) 4
        let d := d.put (Obj.SUP_LAST_REASON n) 7
        let d := d.put (Obj.SUP_ONSET n) d.now
        (d.darkFault n 7 (d.pnat n (Obj.SUP_LATCH (d.prof n)))).put (Obj.SUP_VERDICT_TIME n) d.now
      else d
    else d
  else d

/-- An optical window of a channel closes, and the next one begins without a gap. The colour loop runs with the white
channel's window. -/
def Dev.optWindow (d : Dev) (n : Nat) (ev : OpticalEv) : Dev :=
  let p := d.prof n
  let g := grpOf n
  let c := d.ch n
  let due := c.optSince + d.pnat n (Obj.SUP_OPT_FRAMES p)
  if d.running ∧ d.mode n ≠ 0 ∧ d.nat (Obj.SUP_FF_INPUT n) ≠ 0xFF ∧ due ≤ d.nat (Obj.GRP_FRAME_COUNT g) then
    let st := d.optState n ev
    let whole := fun (k : Nat) => (d.ch k).lit && decide ((d.ch k).litCmdAt ≤ c.optAt)
    let d := (d.put (Obj.SUP_OPT_NA n) ev.na).put (Obj.SUP_OPT_STATE n) st
    let d := d.optFuse n st
    let d := if st = 1 then d.calWindow n ev.na ev.iMean else d
    let d := d.setCh n { d.ch n with optSince := due, optAt := d.nat (Obj.GRP_LAST_BOUNDARY g), optFrames := 0 }
    if d.pnat n (Obj.LF_COLOUR p) = 1 ∧ n % 4 = 3 then
      if (chansOf g).all fun k => whole k && d.nat (Obj.SUP_OPT_STATE k) != 3 then
        (chansOf g).foldl Dev.lifeSubmit (d.colourLoop g ev.colour)
      else d.colState g 4
    else d
  else d

/-- A frame of an optical window is over: it counts where it had an on-interval and a gate-low interval of at least 5.0 us
each, which DC has not (R163). -/
def Dev.optFrame (d : Dev) (n : Nat) : Dev :=
  let c := d.ch n
  let on := d.nat (Obj.DIM_ON_EDGES n)
  if c.lit ∧ !c.dc ∧ d.drv n = 3 ∧ 16000 ≤ on ∧ on + 16000 ≤ 32 * (d.gr (grpOf n)).frameLen then
    d.setCh n { c with optFrames := c.optFrames + 1 }
  else d

/-- Conditions that end as a channel is commanded dark, and its counters; its pulses so far will change no condition
(R142). -/
def Dev.darkCommand (d : Dev) (n : Nat) : Dev :=
  let d := (d.put (Obj.SUP_DEV_COUNT n) 0).put (Obj.SUP_GOOD_COUNT n) 0
  let c := d.ch n
  let d := d.setCh n { c with good := 0, qual := 0, optAbsent := 0, pulse := { c.pulse with dark := true }
                              due := c.due.map fun (p : PulseRec) => { p with dark := true } }
  let r := d.darkReason n
  let d := if 1 ≤ r ∧ r ≤ 7 then d.clearFree 0x0101 n else d
  d.clearFree 0x0105 n

end Sys2Proof.Machine
end

