-- ==== Sys2Proof/Machine/Clients.lean ====
section
/-! DEFINITION. Holders, power budgets, yields and battery autonomy as they act on levels (R295 to R302, R433, R434). -/
namespace Sys2Proof.Machine

/-- The class rank of R295; 0 for a slot not in use. -/
def rankOf (cls : Nat) : Nat :=
  if cls = 0 then 4 else if cls = 3 then 3 else if cls = 1 then 2 else if cls = 2 then 1 else 0

/-- A channel of the ring by its number 96 P + n; on the master those of other positions stand with the channel table of
their JOIN frame and what the master granted (R294, R384). -/
def Dev.ringChan (d : Dev) (n : Nat) : Nat × Nat × Nat := (d.pos (n / 96)).channels.getD (n % 96) (0, 0, 0)

/-- PF_POWER_NOM of a channel of the ring. -/
def Dev.powerNom (d : Dev) (n : Nat) : Nat :=
  if n < 96 then d.pnat n (Obj.PF_POWER_NOM (d.prof n)) else (d.ringChan n).1

/-- PF_LEVEL_MIN of a channel of the ring. -/
def Dev.levelMin (d : Dev) (n : Nat) : Nat :=
  if n < 96 then d.pnat n (Obj.PF_LEVEL_MIN (d.prof n)) else (d.ringChan n).2.1

/-- pw of R297 in mW. -/
def Dev.pw (d : Dev) (n level : Nat) : Nat :=
  cdiv (d.powerNom n * (if level = 65535 then 65536 else level)) 65536

/-- The engine a channel is bound to, outside signal groups (R245). -/
def Dev.boundTo (d : Dev) (n : Nat) : Option Nat :=
  let e := d.nat (Obj.PE_CH_BIND n)
  if e < 16 then some e else none

/-- The highest level a tap takes anywhere in an engine's program (R297). -/
def Dev.tapPeak (d : Dev) (e t : Nat) : Nat :=
  (List.range 16).foldl (fun m k =>
    let s := d.nat (Obj.PE_SEG e k)
    if segKind s = 0 then m else (List.range (segCount s)).foldl (fun m i => max m (segLevel s i t)) m) 0

/-- Lc of a channel: what its holder commands, a bound channel by the highest level of its tap. -/
def Dev.levelCmd (d : Dev) (n : Nat) : Nat :=
  match d.boundTo n with
  | some e => d.tapPeak e (d.nat (Obj.PE_CH_TAP n))
  | none => d.nat (Obj.OWN_LEVEL_CMD n)

/-- Is a channel budgeted: a holder of class OPERATIONAL, COMFORT or MAINTENANCE, and no signal group (R297)? -/
def Dev.budgeted (d : Dev) (n : Nat) : Bool :=
  let h := d.nat (Obj.OWN_HOLDER n)
  decide (h < 512) && (let c := d.nat (Obj.OWN_CLASS n); c == 1 || c == 2 || c == 3) && (d.sgOf n).isNone

/-- The channels of other positions that a client holds, with the level the master granted; those of signal groups and
of SAFETY clients are outside the budget (R297). -/
def Dev.heldFar (d : Dev) (k : Nat) : List (Nat × Nat) :=
  if d.nat (Obj.CL_CLASS k) = 0 then []
  else d.ring.pos.flatMap fun p => (p.2.own.filter fun o => o.2.1 == k && (p.2.channels.getD o.1 (0, 0, 0)).2.2 == 0).map
    fun o => (96 * p.1 + o.1, o.2.2)

/-- The budgeted channels a client holds, with Lc, over the whole ring. -/
def Dev.heldBy (d : Dev) (k : Nat) : List (Nat × Nat) :=
  (((List.range 96).filter fun n => d.nat (Obj.OWN_HOLDER n) == k && d.budgeted n).map fun n => (n, d.levelCmd n)) ++ d.heldFar k

/-- A level under a factor, never below the profile's minimum; 0 stays dark (R300). -/
def Dev.yielded (d : Dev) (n lc y : Nat) : Nat :=
  if lc = 0 then 0 else max (lc * y / 65536) (d.levelMin n)

/-- tot of R299 over channels with their levels. -/
def Dev.tot (d : Dev) (l : List (Nat × Nat)) (y : Nat) : Nat := (l.map fun x => d.pw x.1 (d.yielded x.1 x.2 y)).sum

/-- The binary search of R299: at most 17 halvings of [lo, hi]. -/
def Dev.yieldSearch (d : Dev) (l : List (Nat × Nat)) (b : Nat) (fuel lo hi : Nat) : Nat :=
  match fuel with
  | 0 => lo
  | f + 1 =>
    if hi - lo ≤ 1 then lo
    else
      let mid := (lo + hi) / 2
      if d.tot l mid ≤ b then d.yieldSearch l b f mid hi else d.yieldSearch l b f lo mid

/-- The target yield factor and the overdraw of a list of levels under a budget (R299). -/
def Dev.yieldTarget (d : Dev) (l : List (Nat × Nat)) (b : Nat) : Nat × Nat :=
  if b = 0xFFFFFFFF ∨ d.tot l 65536 ≤ b then (65536, 0)
  else if b < d.tot l 0 then (0, d.tot l 0 - b)
  else (d.yieldSearch l b 17 0 65536, 0)

/-- The factor in use at an instant (R300). -/
def Dev.yNow (d : Dev) (k at' : Nat) : Nat :=
  let c := d.cl k
  let r := 100000 * d.nat Obj.YIELD_RAMP_MS
  let dt := min (at' - c.t1) r
  if r = 0 then c.y1 else ((c.y0 : Int) + Int.fdiv (((c.y1 : Int) - c.y0) * dt) r).toNat

/-- The factor that a boundary at this instant applies: a target of the 2.0 us before it counts a frame later (R119). -/
def Dev.yUsed (d : Dev) (k : Nat) : Nat := if d.now ≤ (d.cl k).t1 + 200 then (d.cl k).y0 else d.yNow k d.now

/-- The source number of a client (Table 16.9). -/
def clSource (k : Nat) : Nat := 0x600 + k

/-- The yield factor of a client is computed anew; a new target starts a ramp (R299 to R301). -/
def Dev.reYield (d : Dev) (k : Nat) : Dev :=
  if 512 ≤ k then d
  else
    let t := d.yieldTarget (d.heldBy k) (d.nat (Obj.CL_BUDGET_NOW_MW k))
    let c := d.cl k
    let d := if t.1 = c.y1 then d
      else ((d.heldBy k).filter fun x => decide (x.1 < 96) && decide (x.2 ≠ 0)).foldl (fun (d : Dev) x => d.askDuty (x.1 / 4) 0)
        ((d.setCl k { c with y0 := d.yNow k d.now, y1 := t.1, t1 := d.now }).put (Obj.CL_YIELD k) t.1)
    let d := d.put (Obj.CL_OVERDRAW_MW k) t.2
    if 0 < t.2 then d.raiseOnce 0x0301 (clSource k) t.2 else d.clearC 0x0301 (clSource k)

/-- The yield factors of all holders of the block's channels are computed anew. -/
def Dev.reYieldAll (d : Dev) : Dev :=
  (((List.range 96).map fun n => d.nat (Obj.OWN_HOLDER n)).eraseDups).foldl Dev.reYield d

/-- Would a write that gives channel n level lc raise the client's use above its budget, with the present factor
applied (R298)? -/
def Dev.overBudget (d : Dev) (k n lc : Nat) : Bool :=
  let b := d.nat (Obj.CL_BUDGET_NOW_MW k)
  let y := d.yNow k d.now
  let held := d.heldBy k
  let before := d.tot held y
  let after := d.tot ((held.filter fun x => x.1 != n) ++ [(n, lc)]) y
  decide (b ≠ 0xFFFFFFFF) && decide (before < after) && decide (b < after)

/-- A channel loses its holder. -/
def Dev.release (d : Dev) (n : Nat) : Dev :=
  let d := d.put (Obj.OWN_HOLDER n) 0xFFFF
  let d := d.put (Obj.OWN_CLASS n) 0xFF
  let d := d.put (Obj.OWN_LEVEL_CMD n) 0
  d.put (Obj.OWN_BUDGETED n) 0

/-- A client becomes the holder of a channel, or stays it. -/
def Dev.hold (d : Dev) (n k lc : Nat) : Dev :=
  let d := if d.nat (Obj.OWN_HOLDER n) = k then d
    else ((d.put (Obj.OWN_HOLDER n) k).put (Obj.OWN_CLASS n) (d.nat (Obj.CL_CLASS k))).put (Obj.OWN_SINCE n) d.now
  let d := d.put (Obj.OWN_LEVEL_CMD n) lc
  d.put (Obj.OWN_BUDGETED n) (b2n (d.budgeted n))

/-- A granted level write takes effect: level 0 of the holder releases the channel; another level makes its client the
holder, and the former holder's yield is computed anew (R295, R296, R302). The service port is no client (log entry
14): its writes leave the channel without a holder. -/
def Dev.applyLevel (d : Dev) (n client level : Nat) : Dev :=
  let was := d.nat (Obj.OWN_HOLDER n)
  let d := d.put (Obj.DIM_LEVEL n) level
  let d := if level = 0 ∨ 512 ≤ client then (d.release n).put (Obj.OWN_LEVEL_CMD n) level else d.hold n client level
  let d := d.reYield was
  if was = client then d else d.reYield client

/-- A granted binding takes effect: an unbound channel is commanded dark and DIM_LEVEL reads 0 (R246, R296). -/
def Dev.applyBind (d : Dev) (n client engine : Nat) : Dev :=
  let was := d.nat (Obj.OWN_HOLDER n)
  let d := d.put (Obj.PE_CH_BIND n) engine
  let d := d.put (Obj.DIM_LEVEL n) 0
  let d := if engine = 0xFF then d.release n else if client < 512 then d.hold n client 0 else d
  let d := d.reYield was
  if was = client then d else d.reYield client

/-- An emergency channel (R430). -/
def Dev.emergency (d : Dev) (n : Nat) : Bool := d.pnat n (Obj.PF_CLASS (d.prof n)) == 2

/-- A commanded state: lit or dark, the level before R63, warming wanted, and DIM_SOURCE (Table 3.7). -/
structure Wanted where
  level : Nat
  warm : Bool
  source : Nat
  deriving DecidableEq, Repr

/-- The target of a member channel in an aspect (R178). -/
def Dev.targetOf (d : Dev) (s a n : Nat) : Nat :=
  let map := d.bytesOf (Obj.SG_CHANNELS s)
  d.nat (Obj.AS_TARGET a ((List.range n).filter fun i => bitOf map i).length)

/-- What a channel of a signal group is commanded (R179, R198). -/
def Dev.wantedSg (d : Dev) (s n : Nat) : Wanted :=
  let warm := d.mode n == 3
  let a := d.nat (Obj.SG_ASPECT_APPLIED s)
  if d.nat (Obj.SG_STATE s) < 2 ∨ a = 0xFF then ⟨0, warm, 0⟩
  else
    let t := d.targetOf s a n
    let src := if d.nat (Obj.SG_STATE s) = 3 then 3 else 2
    let kind := t / 2 ^ 24
    if kind = 1 then ⟨t % 65536, warm, src⟩
    else if kind = 2 then ⟨d.tapLevel (t / 65536 % 16) (d.nat (Obj.PE_CH_TAP n)), warm, 4⟩
    else ⟨0, warm, src⟩

/-- What a channel in no signal group is commanded: its engine's tap or its level, under the holder's yield and under
battery autonomy (R244, R300, R430, R433, R434). -/
def Dev.wantedFree (d : Dev) (n : Nat) : Wanted :=
  let warm := d.mode n == 3
  let base := match d.boundTo n with
    | some e => (d.tapLevel e (d.nat (Obj.PE_CH_TAP n)), 4)
    | none => (d.nat (Obj.DIM_LEVEL n), if d.nat (Obj.DIM_LEVEL n) = 0 ∧ d.nat (Obj.OWN_HOLDER n) = 0xFFFF then 0 else 1)
  let lc := base.1
  let lv := if lc ≠ 0 ∧ d.budgeted n then
      (let y := d.yUsed (d.nat (Obj.OWN_HOLDER n))
       if y = 65536 then lc else d.yielded n lc y) else lc
  if d.emergency n then
    if d.nat Obj.HO_STATE = 4 then ⟨0, warm, 5⟩
    else
      let a := if d.now ≤ d.power.autWas.2 + 200 then d.power.autWas.1 else d.nat Obj.AUT_FACTOR
      if lc ≠ 0 ∧ a < 65536 then
        let auto := max (max (lc * a / 65536) (d.nat Obj.AUT_FLOOR)) (d.pnat n (Obj.PF_LEVEL_MIN (d.prof n)))
        ⟨if d.budgeted n then min lv auto else auto, warm, 5⟩
      else ⟨lv, warm, base.2⟩
  else ⟨lv, warm, base.2⟩

/-- The commanded state of a channel, dark before the end of kindling (R198, R411). -/
def Dev.wanted (d : Dev) (n : Nat) : Wanted :=
  if d.mode n = 0 then ⟨0, false, 0⟩
  else match d.sgOf n with
    | some s => d.wantedSg s n
    | none => d.wantedFree n

/-- The applied level of a commanded level: R63, then the life factor in SWITCH and WARM outside signal groups
(R227). -/
def Dev.appliedLevel (d : Dev) (n lc : Nat) : Nat :=
  if lc = 0 then 0
  else
    let m := d.pnat n (Obj.PF_LEVEL_MIN (d.prof n))
    let l := max lc m
    if d.mode n = 2 ∨ (d.sgOf n).isSome then l
    else
      let f := (d.lf n).fUse
      let cap := if l = 65535 ∧ 1000000000000 ≤ f then 65535 else 65534
      max (min ((2 * l * f + 1000000000000) / 2000000000000) cap) m

/-- The applied duty (R110). -/
def Dev.duty (d : Dev) (g level : Nat) : Nat :=
  if level = 0 then 0
  else if level = 65535 then 65535
  else
    let s := 2 ^ (16 - d.nat (Obj.GRP_PWM_BITS g))
    min (cdiv level s * s) (65536 - s)

end Sys2Proof.Machine
end

