-- ==== Sys2Proof/Machine/Commit.lean ====
section
/-! DEFINITION. Ring time as the frame grid uses it, and the aspect commits of the ring (R112, R190, R380, R381). -/
namespace Sys2Proof.Machine

/-- A master that has not yielded to another one (R386). -/
def Dev.ringMaster (d : Dev) : Bool := d.isMaster && !d.ring.yielded

/-- Ring time at an edge of device time, both in edge units of 312.5 ps: a member's own offset, elsewhere none (R112). -/
def Dev.ringEdge (d : Dev) (e : Nat) : Int := if d.isMember then (e : Int) + d.ring.offset else e

/-- Ring time at an instant of device time. -/
def Dev.ringTime (d : Dev) : Nat := (Int.fdiv (d.ringEdge (32 * d.now)) 32).toNat

/-- Train time now, by the mapping of R54; 0 without one. -/
def Dev.trainNow (d : Dev) : Nat :=
  match d.ring.trainMap with
  | some (t, at') => (((t : Int) + Int.fdiv ((d.ringTime : Int) - at') 100) % (2 ^ 64 : Nat)).toNat
  | none => 0

/-- Ring time at the boundary of a group that falls due now (R113). -/
def Dev.ringAt (d : Dev) (g : Nat) : Nat :=
  if d.now = (d.gr g).next then (Int.fdiv (d.ringEdge (32 * d.now + (d.gr g).nextSub)) 32).toNat else d.ringTime

/-- Ring time of the start of an insertion window is a multiple of 10 ms; it lasts 30 us. From 30 us before it until
its end the master withholds COMMAND and ASPECT_COMMIT. -/
def Dev.withholds (d : Dev) : Bool := decide (997000 ≤ d.now % 1000000) || decide (d.now % 1000000 < 3000)

/-- The end of the insertion window that a withheld frame waits for. -/
def Dev.windowEnd (d : Dev) : Nat := (d.now + 3000) / 1000000 * 1000000 + 3000

/-- A commit on its way: the first copy now, two more 10 us apart. -/
def Dev.commitSend (d : Dev) (payload : List Byte) : Dev :=
  let q := lookD 0 d.ring.txSeq (16 * 0x11)
  let d := d.ringSend 0x11 0 payload 1
  { d with ring := { d.ring with repeats := d.ring.repeats ++ [(d.now + 1000, 2, q, payload)] } }

/-- A frame of the master that insertion windows withhold: COMMAND or ASPECT_COMMIT. -/
def Dev.masterSend (d : Dev) (cls dst : Nat) (payload : List Byte) : Dev :=
  if d.withholds then { d with ring := { d.ring with withheld := d.ring.withheld ++ [(cls, dst, payload)] } }
  else if cls = 0x11 then d.commitSend payload
  else d.ringSend cls dst payload

/-- Table 11.4. -/
def commitBytes (s a t q : Nat) : List Byte := leBytes 1 s ++ leBytes 1 a ++ leBytes 2 0 ++ leBytes 8 t ++ leBytes 4 q

/-- A commit enters the pending ones of its signal group. -/
def Dev.commitPend (d : Dev) (s a t q : Nat) : Dev :=
  let d := ((d.put (Obj.SG_COMMIT_INSTANT s) t).put (Obj.SG_COMMIT_SEQ s) q).put (Obj.SG_PENDING s) a
  d.setSgp s { d.sgp s with commits := (d.sgp s).commits ++ [(a, t, q)] }

/-- The master commits an aspect of a ring signal group: T is the lead after its ring time at the grant, or after the
insertion window that the commit waits for. -/
def Dev.ringCommit (d : Dev) (s a : Nat) : Dev :=
  let lead := 100 * d.nat (Obj.SG_RING_LEAD_US s)
  let t := (if d.ringMaster && d.withholds then d.windowEnd else d.ringTime) + lead
  let q := (d.nat (Obj.SG_COMMIT_SEQ s) + 1) % 2 ^ 32
  let d := d.commitPend s a t q
  if d.ringMaster then d.masterSend 0x11 0 (commitBytes s a t q) else d

end Sys2Proof.Machine
end

