-- ==== Sys2Proof/Machine/Frame.lean ====
section
/-! DEFINITION. The frame boundary of a group (chapter 03) and what takes effect there: grants, configuration, aspects
(chapter 05), levels, drive states and isolators (R75, R93, R118 to R121, R182 to R200, R403). -/
namespace Sys2Proof.Machine

/-! ### The frame grid (R108, R112, R120) -/

/-- Ring time minus device time in edge units, for a group on ring time of a member; 0 otherwise (R112). -/
def Dev.gridShift (d : Dev) (g : Nat) : Int :=
  if d.nat (Obj.GRP_RING_LOCK g) = 1 ∧ d.isMember then d.ring.offset else 0

/-- Is an edge a boundary of the grid of a period, in edge units (R112)? -/
def gridHas (pe : Nat) (shift : Int) (e : Nat) : Bool := ((e : Int) + shift) % pe == 0

/-- The first boundary of a grid at or after an edge. -/
def gridFrom (pe : Nat) (shift : Int) (e : Nat) : Nat := e + ((-((e : Int) + shift)) % pe).toNat

/-- The end of the frame that begins at an edge: of a seam frame the first boundary of the grid at least half a period
later; of another the boundary after the one nearest to its start (R113, R120). -/
def frameEnd (pe : Nat) (shift : Int) (e : Nat) (seam : Bool) : Nat :=
  if seam then gridFrom pe shift (e + cdiv pe 2) else gridFrom pe shift (e + pe / 2)

/-- The highest resolution of a period (R109). -/
def bitsMax (pe : Nat) : Nat := min 16 (Nat.log2 pe)

/-! ### Configuration at a boundary (R403) -/

/-- Is the object part of the configuration: staged by RWS writes (R18)? -/
def cfgKey (k : Nat) : Bool :=
  match objRow k with
  | some r => r.access == .rws
  | none => false

/-- The least position set in a byte map. -/
def firstBit (b : List Byte) (n : Nat) : Option Nat := (List.range n).find? fun i => bitOf b i

/-- The group of a signal group: that of its first member in the staged half, else in the dictionary, else G00. -/
def Dev.sgGroup (d : Dev) (s : Nat) : Nat :=
  match firstBit (storeVal d.staged (Obj.SG_CHANNELS s)).raw 96 with
  | some n => n / 4
  | none => match firstBit (d.bytesOf (Obj.SG_CHANNELS s)) 96 with
    | some n => n / 4
    | none => 0

/-- The group whose boundary an object takes effect at (R403, Table 0.3). -/
def Dev.groupOfKey (d : Dev) (k : Nat) : Nat :=
  let i := k / 256
  if 0x2900 ≤ i ∧ i < 0x2918 then i - 0x2900
  else if 0x3000 ≤ i ∧ i < 0x3600 then (i - 0x3000) / 64
  else if 0x3800 ≤ i ∧ i < 0x3820 then d.sgGroup (i - 0x3800)
  else if 0x3900 ≤ i ∧ i < 0x3A00 then
    (let s := (storeVal d.staged (Obj.AS_SG (i - 0x3900))).int.toNat
     if s < 32 then d.sgGroup s
     else (let t := d.nat (Obj.AS_SG (i - 0x3900)); if t < 32 then d.sgGroup t else 0))
  else if 0x2700 ≤ i ∧ i < 0x2710 then (storeVal d.staged (Obj.PE_REF_GROUP (i - 0x2700))).int.toNat
  else 0

/-- The configuration objects in which the two halves differ and which take effect at a group's boundary. -/
def Dev.switchKeys (d : Dev) (g : Nat) : List Nat :=
  let ks := (d.dict.map Prod.fst ++ d.staged.map Prod.fst).eraseDups
  ks.filter fun k => cfgKey k && decide (d.val k ≠ storeVal d.staged k) && d.groupOfKey k == g

/-- The two halves exchange the values of a list of objects: the half keeps what was active. -/
def Dev.swapKeys (d : Dev) (ks : List Nat) : Dev :=
  ks.foldl (fun d k =>
    let a := d.val k
    let b := storeVal d.staged k
    { d with dict := storePut d.dict k b, staged := storePut d.staged k a }) d

/-- The channels of the spread set of a group, in order (R116). -/
def Dev.spreadSet (d : Dev) (g : Nat) : List Nat :=
  let l := d.nat (Obj.GRP_LOCK_SET g)
  (List.range 96).filter fun n => decide (d.mode n ≠ 0) &&
    (if l = 0 then n / 4 == g else d.nat (Obj.GRP_LOCK_SET (n / 4)) == l && d.nat (Obj.GRP_PHASE_MODE (n / 4)) == 2)

/-- The offset of a channel (Table 3.2). -/
def Dev.offsetOf (d : Dev) (n : Nat) : Nat :=
  let m := d.nat (Obj.GRP_PHASE_MODE (n / 4))
  if d.mode n = 0 ∨ m = 0 then 0
  else if m = 1 then d.nat (Obj.DIM_OFFSET n)
  else
    let set := d.spreadSet (n / 4)
    (set.filter (· < n)).length * 65536 / max 1 set.length

/-- The configuration as a switch in progress leaves it when every group has passed. -/
def Dev.switched (d : Dev) : Dev :=
  match d.cfg.switch with
  | some w =>
    if w.started then d.swapKeys ((d.dict.map Prod.fst ++ d.staged.map Prod.fst).eraseDups.filter fun k =>
      cfgKey k && decide (d.val k ≠ storeVal d.staged k) && !w.passed.contains (d.groupOfKey k))
    else d
  | none => d

/-- Figures of a group that its configuration fixes: period, offsets, gate power (R108, R109, R115, R103). What they take
from other groups is taken as the switch in progress leaves it. -/
def Dev.groupFigures (d : Dev) (g : Nat) : Dev :=
  let whole := d.switched
  let p := periodOf (d.nat (Obj.GRP_PWM_HZ g))
  let d := d.put (Obj.GRP_PERIOD_TICKS g) p
  let d := d.put (Obj.GRP_PERIOD_EDGES g) (32 * p)
  let d := d.put (Obj.GRP_BITS_MAX g) (bitsMax (32 * p))
  let d := (chansOf g).foldl (fun d n => d.put (Obj.DIM_OFFSET_APPLIED n) (whole.offsetOf n)) d
  let d := (chansOf g).foldl (fun d n =>
    (d.put (Obj.DRV_FSW_MAX_HZ n) (whole.fswMax n % 2 ^ 32)).put (Obj.DRV_GATE_POWER_UW n) (whole.gatePower n % 2 ^ 32)) d
  let d := d.put (Obj.GRP_GATE_POWER g) (cdiv ((chansOf g).map fun n => d.nat (Obj.DRV_GATE_POWER_UW n)).sum 1000)
  let total := ((List.range 96).map fun n => d.nat (Obj.DRV_GATE_POWER_UW n)).sum
  (List.range 24).foldl (fun d h => d.put (Obj.GRP_GATE_POWER_DEV h) (cdiv total 1000)) d

/-- A channel whose configuration has changed: the sense range waits for the gate, BUCK starts from its first off-time with
its trim within the new limit, warming begins afresh once its mode warms, and optical windows begin anew (R67, R68, R72,
R125, R160, Table 4.9). -/
def Dev.channelFigures (d : Dev) (n : Nat) : Dev :=
  let c := d.ch n
  let half : Int := roundOpen 68 (d.ripple n) 2000
  let d := d.setCh n { c with rangeWait := decide (d.nat (Obj.CH_SENSE_RANGE n) ≠ c.rangeInUse), toff := d.toffFirst n
                              trim := clampInt (-half) half c.trim, warmWidth := if d.mode n = 3 then c.warmWidth else 0
                              optSince := d.nat (Obj.GRP_FRAME_COUNT (grpOf n)) + 1, optAt := d.now, optFrames := 0 }
  let d := if d.mode n = 3 then d else d.put (Obj.DRV_WARM_DUTY n) 0
  if d.mode n = 0 ∨ d.nat (Obj.SUP_FF_INPUT n) = 0xFF then d.put (Obj.SUP_OPT_STATE n) 0 else d

/-- The life functions of a channel under a changed configuration: its fields apply from this boundary (R218, R223, R235,
R231). -/
def Dev.lifeFigures (d : Dev) (n : Nat) : Dev :=
  let d := if d.compNone n then d.setComp n 1000000000000 else d
  let d := d.derateOff n
  let d := if d.mode n = 0 ∨ d.pnat n (Obj.LF_COLOUR (d.prof n)) = 0 then d.put (Obj.LIFE_COL_STATE n) 0 else d
  (d.setLf n { d.lf n with fUse := d.lifeF n, fNext := none }).lifeJudge n

/-- The engines an aspect names (R184). -/
def Dev.enginesOf (d : Dev) (s a : Nat) : List Nat :=
  let map := d.bytesOf (Obj.SG_CHANNELS s)
  let n := ((List.range 96).filter fun i => bitOf map i).length
  ((List.range (min n 32)).filterMap fun k =>
    let t := d.nat (Obj.AS_TARGET a k)
    if t / 2 ^ 24 = 2 then some (t / 65536 % 16) else none).eraseDups

/-! ### Signal groups (R177 to R201) -/

/-- A signal group in use (R177). -/
def Dev.sgUsed (d : Dev) (s : Nat) : Bool := (firstBit (d.bytesOf (Obj.SG_CHANNELS s)) 96).isSome

/-- Does an aspect belong to the signal group? -/
def Dev.sgHas (d : Dev) (s a : Nat) : Bool := decide (a < 256) && d.nat (Obj.AS_SG a) == s

/-- SAFE_ASPECT_ENTERED shows the groups that have entered for a silence: raised once, its map growing, cleared when
no group is left (R200). -/
def Dev.safeMap (d : Dev) (added : Option Nat) : Dev :=
  let left := (List.range 32).any fun s =>
    d.nat (Obj.SG_STATE s) == 3 && (d.nat (Obj.SG_SAFE_CAUSE s) == 2 || d.nat (Obj.SG_SAFE_CAUSE s) == 3)
  match added, d.cond 0x0204 0xFFFF with
  | some s, none => d.raiseC 0x0204 0xFFFF (2 ^ s)
  | some s, some c =>
    { d with rep := { d.rep with conds := d.rep.conds.map fun (x : Cond) =>
        if x.code == 0x0204 && x.source == 0xFFFF then { x with detail := setBit c.detail s } else x } }
  | none, _ => if left then d else d.clearC 0x0204 0xFFFF

/-- The engines that the applied aspect names and that have not been started for the signal group start (R184). -/
def Dev.startEngines (d : Dev) (s a : Nat) : Dev :=
  let now := d.enginesOf s a
  let fresh := now.filter fun e => !(d.sgp s).engines.contains e
  fresh.foldl Dev.peAspectStart (d.setSgp s { d.sgp s with engines := now })

/-- The applied aspect of a signal group becomes another one. -/
def Dev.sgTake (d : Dev) (s a : Nat) : Dev :=
  if d.nat (Obj.SG_ASPECT_APPLIED s) = a then d
  else ((d.put (Obj.SG_ASPECT_APPLIED s) a).put (Obj.SG_LAST_CHANGE s) d.now).count (Obj.SG_CHANGE_COUNT s)

/-- An aspect is applied as a command (R182 to R184, R201). -/
def Dev.sgApply (d : Dev) (s a : Nat) : Dev :=
  if d.nat (Obj.SG_ASPECT_APPLIED s) = a ∧ d.nat (Obj.SG_STATE s) = 2 then d
  else
    let d := (d.put (Obj.SG_STATE s) 2).put (Obj.SG_SAFE_CAUSE s) 0
    let d := d.setSgp s { d.sgp s with delayDone := false }
    ((d.sgTake s a).startEngines s a).safeMap none

/-- The safe aspect is entered for a cause (R197 to R200). -/
def Dev.sgSafe (d : Dev) (s cause : Nat) : Dev :=
  let a := d.nat (Obj.SG_SAFE_ASPECT s)
  let d := (d.put (Obj.SG_STATE s) 3).put (Obj.SG_SAFE_CAUSE s) cause
  let d := d.count (Obj.SG_SAFE_COUNT s)
  let d := (d.sgTake s a).startEngines s a
  if cause = 2 ∨ cause = 3 then d.safeMap (some s) else d.safeMap none

/-- A silence of the command side ends: the delay of every signal group may run again (R197). -/
def Dev.silenceOver (d : Dev) : Dev :=
  (List.range 32).foldl (fun (d : Dev) s =>
    if (d.sgp s).delayDone then d.setSgp s { d.sgp s with delayDone := false } else d) d

/-- The commit with the highest sequence number, with how many others there are (R193). -/
def newestCommit (l : List (Nat × Nat × Nat)) : Option (Nat × Nat × Nat) :=
  l.foldl (fun m c => match m with
    | none => some c
    | some x => if x.2.2 ≤ c.2.2 then some c else some x) none

/-- The requests of a ring signal group that are granted at this boundary are executed: each becomes a commit (R119, R190). -/
def Dev.sgCommits (d : Dev) (s : Nat) : Dev :=
  if d.nat (Obj.SG_RING s) = 1 then
    let p := d.sgp s
    (p.request.filter fun q => decide (q.2 ≤ d.now)).foldl (fun (d : Dev) q => d.ringCommit s q.1)
      (d.setSgp s { p with request := p.request.filter fun q => !decide (q.2 ≤ d.now) })
  else d

/-- SG_PENDING: the last request granted and not applied, else the last commit that waits. -/
def Dev.sgPending (d : Dev) (s : Nat) : Nat :=
  let p := d.sgp s
  match (p.request.filter fun q => decide (q.2 ≤ d.now)).getLast? with
  | some q => q.1
  | none => (p.commits.getLast?.map fun c => c.1).getD 0xFF

/-- The boundary of a signal group's lock set: a safe-aspect entry, else a due commit, else the last of the granted requests
takes effect; the others are superseded (Table 5.2, R182, R190, R193, R194, R198, R199). -/
def Dev.sgBoundary (d : Dev) (s g : Nat) : Dev :=
  let p := d.sgp s
  let t := d.ringAt g
  let reqs := if d.nat (Obj.SG_RING s) = 1 then [] else p.request.filter fun q => decide (q.2 < d.now)
  let due := p.commits.filter fun c => decide (c.2.1 ≤ t)
  let safe : Option Nat := match p.safe with
    | some (c, at') => if at' ≤ d.now then some c else none
    | none => none
  let d := d.setSgp s { p with
    lastBoundary := d.now, request := if reqs = [] then p.request else p.request.filter fun q => !decide (q.2 < d.now)
    commits := p.commits.filter fun c => !decide (c.2.1 ≤ t), safe := if safe.isSome then none else p.safe }
  let d := d.sgCommits s
  let d := d.put (Obj.SG_PENDING s) (d.sgPending s)
  let passed := due.length + reqs.length
  match safe with
  | some c =>
    (match c, reqs.getLast? with
     | 1, some a => if d.sgHas s a.1 then (d.sgApply s a.1).count (Obj.SG_SUPERSEDED s) (passed - 1)
        else (d.sgSafe s 1).count (Obj.SG_SUPERSEDED s) passed
     | _, _ => (d.sgSafe s c).count (Obj.SG_SUPERSEDED s) passed)
  | none =>
    match newestCommit due with
    | some c =>
      let d := d.count (Obj.SG_SUPERSEDED s) (passed - 1)
      if d.sgHas s c.1 then d.sgApply s c.1 else d.sgSafe s 4
    | none => match reqs.getLast? with
      | some a =>
        if d.sgHas s a.1 then (d.sgApply s a.1).count (Obj.SG_SUPERSEDED s) (passed - 1)
        else d.count (Obj.SG_SUPERSEDED s) passed
      | none => d

/-- The signal groups whose lock set has its boundary now act once, when the first of its groups passes. -/
def Dev.sgBoundaries (d : Dev) (g : Nat) : Dev :=
  (List.range 32).foldl (fun d s =>
    match firstBit (d.bytesOf (Obj.SG_CHANNELS s)) 96 with
    | some n => if d.sameLock (n / 4) g ∧ (d.sgp s).lastBoundary ≠ d.now ∧ d.running then d.sgBoundary s g else d
    | none => d) d

/-- SG_PROVEN as the member channels' present status proves it (R195). -/
def Dev.sgProven (d : Dev) (s : Nat) : Nat :=
  if !d.sgUsed s ∨ d.nat (Obj.SG_STATE s) < 2 then 0
  else
    let map := d.bytesOf (Obj.SG_CHANNELS s)
    let ms := (List.range 96).filter fun n => bitOf map n
    let lit := fun n => decide ((d.wantedSg s n).level ≠ 0)
    let kind := fun n => d.targetOf s (d.nat (Obj.SG_ASPECT_APPLIED s)) n / 2 ^ 24
    let obs := fun n => d.nat (Obj.SUP_OBSERVED n)
    if ms.any fun n => (kind n == 0 || kind n == 3) && d.active 0x0102 n then 4
    else if ms.any fun n => lit n && obs n == 4 then 3
    else if ms.any fun n => lit n && obs n < 2 then 2
    else 1

/-- SG_PROVEN of the signal groups whose lock set has its boundary now, as their members stand after it (R195). -/
def Dev.sgJudge (d : Dev) (g : Nat) : Dev :=
  (List.range 32).foldl (fun d s =>
    match firstBit (d.bytesOf (Obj.SG_CHANNELS s)) 96 with
    | some n => if d.sameLock (n / 4) g then d.put (Obj.SG_PROVEN s) (d.sgProven s) else d
    | none => d) d

/-- A signal group after an activation: unused, or in its new safe aspect where its members or its applied aspect have
gone (Table 5.2); its new members have no holder, its former ones are commanded dark. -/
def Dev.sgReconf (d : Dev) (s : Nat) (oldMap : List Byte) : Dev :=
  let a := d.nat (Obj.SG_ASPECT_APPLIED s)
  let map := d.bytesOf (Obj.SG_CHANNELS s)
  let moved := (List.range 96).filter fun n => bitOf map n != bitOf oldMap n
  let d := moved.foldl (fun d n => ((d.release n).put (Obj.DIM_LEVEL n) 0).reYield (d.nat (Obj.OWN_HOLDER n))) d
  if !d.sgUsed s then
    let d := (d.put (Obj.SG_STATE s) 0).put (Obj.SG_ASPECT_APPLIED s) 0xFF
    let d := ((d.put (Obj.SG_SAFE_CAUSE s) 0).put (Obj.SG_PENDING s) 0xFF).put (Obj.SG_PROVEN s) 0
    (d.setSgp s {}).safeMap none
  else if d.op = .operating ∧ (moved ≠ [] ∨ !d.sgHas s a) then d.setSgp s { d.sgp s with safe := some (5, d.now) }
  else if d.op ≠ .operating then d.put (Obj.SG_STATE s) 1
  else d.startEngines s a

/-- A used field input that an activation has changed is unknown until its debounce has passed (R489). -/
def Dev.finReconf (d : Dev) (k : Nat) : Dev :=
  let d := if d.nat (Obj.FIN_USE k) = 0 ∨ d.nat (Obj.FIN_BREAK_UA k) = 0 then
      (d.setFi k { d.fi k with broken := false }).clearC 0x0104 (0x400 + k) else d
  d.setFi k { d.fi k with unknown := true, restart := true, on := false, changeAt := d.now, windowAt := none }

/-- The role in a ring, from MASTER_N and RING_SIZE (R371). -/
def Dev.setRole (d : Dev) : Dev :=
  d.put Obj.RING_ROLE (if !d.ins.masterLow then 2 else if d.nat Obj.RING_SIZE = 1 then 0 else 1)

/-- A payload of a frame class whose layout the spec does not give, of its fields (log entry 7). -/
def ringPayload (cls : Nat) (fields : List Int) (data : List Byte := []) : List Byte :=
  Config.recordPayload (0x1000 + cls) fields data

/-- The digests' first 64 bits. -/
def Dev.digestHead (d : Dev) : List Byte := padTo 8 ((d.bytesOf Obj.CFG_ACTIVE_DIGEST).take 8)
def Dev.stagedHead (d : Dev) : List Byte := padTo 8 ((d.bytesOf Obj.CFG_STAGED_DIGEST).take 8)

/-- A JOIN frame: position, hop count, serial, variant, RING_SIZE, digests and the channel table (Table 11.6). -/
def Dev.joinFrame (d : Dev) : Dev :=
  let chans := (List.range 96).flatMap fun n =>
    ([(d.powerNom n : Int), (d.levelMin n : Int), (b2n (d.sgOf n).isSome : Int)] : List Int)
  let fields := ([(d.ownPos : Int), (d.ring.hops : Int), d.num Obj.SERIAL_NUMBER, d.num Obj.PKG_VARIANT, d.num Obj.RING_SIZE] : List Int)
  d.ringSend 0x40 0 (ringPayload 0x40 (fields ++ chans) (d.digestHead ++ d.stagedHead))

/-- The master's positions against a new RING_SIZE: every member has to be admitted again (Table 11.9). -/
def Dev.declareRing (d : Dev) : Dev :=
  if d.isMaster then
    let d := (d.put Obj.RING_STATE 4).put Obj.RING_ADMITTED 1
    (List.range 16).foldl (fun (d : Dev) p =>
      let on := decide (p < d.nat Obj.RING_SIZE)
      (d.put (Obj.POS_STATE p) (if !on then 0 else if p = 0 then 3 else 1)).put (Obj.POS_CAUSE p) 0) d
  else d

/-- The objects of a group switch at its boundary, and what they fix is computed anew (R403, R313, Table 7.3). -/
def Dev.switchGroup (d : Dev) (g : Nat) : Dev :=
  let ks := d.switchKeys g
  let sgs := ((ks.filterMap fun k =>
    let i := k / 256
    if 0x3800 ≤ i ∧ i < 0x3820 then some (i - 0x3800)
    else if 0x3900 ≤ i ∧ i < 0x3A00 then
      (let s := d.nat (Obj.AS_SG (i - 0x3900))
       if s < 32 then some s else some (storeVal d.staged (Obj.AS_SG (i - 0x3900))).int.toNat)
    else none).filter (· < 32)).eraseDups
  let engs := (ks.filterMap fun k => if 0x2700 ≤ k / 256 ∧ k / 256 < 0x2710 then some (k / 256 - 0x2700) else none).eraseDups
  let fins := (ks.filterMap fun k => if 0x2610 ≤ k / 256 ∧ k / 256 < 0x2630 then some (k / 256 - 0x2610) else none).eraseDups
  let olds := sgs.map fun s => (s, d.bytesOf (Obj.SG_CHANNELS s))
  let d := d.swapKeys ks
  let d := match d.cfg.switch with
    | some w => { d with cfg := { d.cfg with switch := some { w with passed := w.passed ++ [g] } } }
    | none => d
  let d := d.groupFigures g
  let d := (chansOf g).foldl (fun d n => (d.channelFigures n).lifeFigures n) d
  let d := if ks.contains (Obj.GRP_RING_LOCK g) then d.setGr g { d.gr g with moved := true } else d
  let d := engs.foldl Dev.peIdle d
  let d := olds.foldl (fun d o => d.sgReconf o.1 o.2) d
  let d := engs.foldl (fun d e =>
    let named := (List.range 32).any fun s => decide (2 ≤ d.nat (Obj.SG_STATE s)) && d.sgUsed s &&
      (d.enginesOf s (d.nat (Obj.SG_ASPECT_APPLIED s))).contains e
    if named && d.nat (Obj.PE_STATE e) == 0 then d.peAspectStart e else d) d
  let d := fins.foldl Dev.finReconf d
  if g = 0 then
    let d := d.setRole
    let d := if ks.contains Obj.RING_SIZE then d.declareRing else d
    let d := if ks.contains Obj.SVC_IPV4_ADDR && d.admin.sessionOpen then d.endSession else d
    let ret := (ks.filterMap fun k =>
      if 0x4000 ≤ k / 256 ∧ k / 256 < 0x4200 ∧ k % 256 = 0x0A then some (k / 256 - 0x4000) else none)
    (ret.foldl (fun d k => d.putBytes (Obj.CL_RETAIN k) (resize (d.nat (Obj.CL_RET_SIZE k)) (d.bytesOf (Obj.CL_RETAIN k)))) d).reYieldAll
  else d.reYieldAll

/-- A switch is complete once every group has passed its boundary: the half keeps the former configuration (R403). An
active member sends JOIN again, with its new channel table (R384). -/
def Dev.switchDone (d : Dev) : Dev :=
  match d.cfg.switch with
  | some w =>
    if w.started ∧ 24 ≤ w.passed.length then
      let d := d.put Obj.CFG_STAGE_STATE 7
      let d := d.put Obj.CFG_PENDING_EPOCH 0
      let d := d.put Obj.CFG_PENDING_INSTANT 0
      let d := { d with cfg := { d.cfg with switch := none } }
      if d.isMember ∧ d.nat Obj.RING_STATE = 4 then d.joinFrame else d
    else d
  | none => d

/-- The instant of a scheduled switch is reached at a ring time: ACTIVE_MARK is committed with the new epoch and digest, the former
ones are held for revert, and DIGEST_MISMATCH ends (R403, R404). -/
def Dev.switchStart (d : Dev) (t : Nat) : Dev :=
  match d.cfg.switch with
  | some w =>
    if w.started ∨ t < w.instant ∨ (d.op ≠ .kindled ∧ d.op ≠ .operating) then d
    else
      let d := (d.put Obj.CFG_PREVIOUS_EPOCH (d.nat Obj.CFG_ACTIVE_EPOCH)).putBytes Obj.CFG_PREVIOUS_DIGEST
        (d.bytesOf Obj.CFG_ACTIVE_DIGEST)
      let d := ((d.put Obj.CFG_ACTIVE_EPOCH w.epoch).putBytes Obj.CFG_ACTIVE_DIGEST w.digest).put Obj.CFG_LAST_SWITCH w.instant
      let d := (d.jrec 0x0B [(w.epoch : Int)] w.digest).clearC 0x0503 0xFFFF
      let ks := [Obj.CFG_ACTIVE_EPOCH, Obj.CFG_ACTIVE_DIGEST, Obj.CFG_PREVIOUS_EPOCH, Obj.CFG_PREVIOUS_DIGEST]
      let d := d.putBytes Obj.CFG_STAGED_DIGEST (List.replicate 32 0)
      let d := d.commitKeys ks
      { d with cfg := { d.cfg with switch := some { w with started := true } } }
  | none => d

/-- The part of a configuration switch that a group's boundary makes. -/
def Dev.switchAt (d : Dev) (g : Nat) : Dev :=
  let d := d.switchStart (d.ringAt g)
  match d.cfg.switch with
  | some w => if w.started ∧ !w.passed.contains g then (d.switchGroup g).switchDone else d
  | none => d

/-- Every group whose boundary falls due now switches, so that what acts at this instant finds one configuration. -/
def Dev.switchNow (d : Dev) : Dev :=
  (List.range 24).foldl (fun d g => if (d.gr g).next ≤ d.now then d.switchAt g else d) d

/-! ### Grants (R39, R118, R119) -/

/-- The conditions of a channel selected by bits are cleared, active or latched (R170, R153, R167). A DARK_FAULT of
reason 8 ends with the isolation and by nothing else. -/
def Dev.supClearNow (d : Dev) (n bits : Nat) : Dev :=
  let clear := fun (d : Dev) (k : Nat) (reset : Dev → Dev) =>
    if bit bits k ∧ d.active (0x0101 + k) n then reset (d.clearC (0x0101 + k) n) else d
  let held := (d.standing 0x0103 n).map Prod.fst
  let d := if d.darkReason n = 8 then d
    else clear d 0 fun d => (d.put (Obj.SUP_DEV_COUNT n) 0).setCh n { d.ch n with optAbsent := 0 }
  let d := clear d 1 fun d =>
    let g := grpOf n
    let c := d.ch n
    let d := d.setCh n { c with curFrom := if c.curHigh then some (32 * d.now) else none, drainAt := none }
    let d := d.put (Obj.SUP_OBSERVED n) (if d.mode n = 0 then 0 else if c.lit && !d.active 0x0101 n then 1 else 4)
    if (chansOf g).any fun k => d.active 0x0102 k then d else d.setGr g { d.gr g with isoFault := false }
  let unlatch := fun (d : Dev) => (d.setCh n { d.ch n with latchCleared := true }).retryZero n
  let d := clear d 2 fun d =>
    let d := if held.contains 2 then d.setCh n { d.ch n with gateLowRun := 0, gateLowClean := 0 } else d
    if held.contains 1 then unlatch d else d
  let d := clear d 3 fun d => d.setCh n { d.ch n with probeFails := 0, warmFails := 0 }
  let d := clear d 4 fun d => d.setCh n { d.ch n with qual := 0 }
  let d := clear d 5 unlatch
  let d := clear d 6 fun d => d.setCh n { d.ch n with optAbsent := 0, optPresent := 0 }
  let d := clear d 7 fun d => d.setLf n { d.lf n with floorAt := none, aboveFloorAt := none }
  let d := clear d 8 id
  clear d 9 fun d => d.setCh n { d.ch n with typeOut := 0, typeIn := 0 }

/-- The retained pages of a client that bytes from offset 0 change. -/
def Dev.pagesOf (d : Dev) (c : Nat) (b : List Byte) : List Nat :=
  let old := d.bytesOf (Obj.CL_RETAIN c)
  ((List.range (cdiv b.length 256)).filter fun i =>
    (List.range 256).any fun j =>
      let at' := 256 * i + j
      decide (at' < b.length) && b.getD at' 0 != old.getD at' 0).map fun i => 256 * c + i

/-- A granted write takes effect. Bytes of a glowworm back buffer and of retained variables are replaced from byte 0 on
(R256, R312, R328). -/
def Dev.applyGrant (d : Dev) (w : Grant) : Dev :=
  let i := w.key / 256
  let n := (i - 0x3000) / 16
  let v := w.val.int.toNat
  if 0x3000 ≤ i ∧ i < 0x3600 ∧ w.key = Obj.DIM_LEVEL n then d.applyLevel n w.client v
  else if 0x3000 ≤ i ∧ i < 0x3600 ∧ w.key = Obj.SUP_CLEAR n then d.supClearNow n v
  else if Obj.PE_CH_BIND 0 ≤ w.key ∧ w.key < Obj.PE_CH_BIND 96 then d.applyBind (w.key - Obj.PE_CH_BIND 0) w.client v
  else if 0x4000 ≤ i ∧ i < 0x4200 ∧ w.key % 256 = 6 then (d.put w.key v).reYield (i - 0x4000)
  else if w.key = Obj.CAL_NOW then
    ({ d with power := { d.power with calTick := 0 } }.put Obj.CAL_NOW v).put Obj.CAL_VALID 1
  else if w.key = Obj.CAP_ARM then
    (let d := d.put Obj.CAP_ARM v
     let st := d.nat Obj.CAP_STATE
     if v = 1 ∧ st = 0 then { d.put Obj.CAP_STATE 1 with jnl := { d.jnl with refillAt := d.now } }
     else if v = 0 ∧ (st = 1 ∨ st = 2) then d.put Obj.CAP_STATE 0 else d)
  else if w.key = Obj.ERR_FIELD_COUNT then { d with rep := { d.rep with errField := [] } }
  else if 0x2720 ≤ i ∧ i < 0x2728 ∧ w.key = Obj.GW_DATA (i - 0x2720) then
    d.putBytes w.key (w.val.raw ++ (d.bytesOf w.key).drop w.val.raw.length)
  else if 0x4000 ≤ i ∧ i < 0x4200 ∧ w.key = Obj.CL_RETAIN (i - 0x4000) then
    (let more := (d.pagesOf (i - 0x4000) w.val.raw).filter fun x => !d.ember.dirty.contains x
     { d with ember := { d.ember with dirty := d.ember.dirty ++ more } }.putBytes w.key
       (w.val.raw ++ (d.bytesOf w.key).drop w.val.raw.length))
  else d.putVal w.key w.val

/-- The group whose boundary a granted write takes effect at: a signal-group request has its own path. -/
def Dev.grantGroup (d : Dev) (k : Nat) : Nat :=
  if Obj.PE_CH_BIND 0 ≤ k ∧ k < Obj.PE_CH_BIND 96 then (k - Obj.PE_CH_BIND 0) / 4 else d.groupOfKey k

/-- Does a granted write count at a boundary of its group now: granted before it, or naming an instant that is it (R118)? -/
def Dev.grantDue (d : Dev) (g : Nat) (w : Grant) : Bool :=
  d.grantGroup w.key == g && (decide (w.at' < d.now) || (w.named && decide (w.at' ≤ d.now)))

/-- Of the writes of one object the last (R19). -/
def lastWrites : List Grant → List Grant
  | [] => []
  | w :: r => if r.any fun v => v.key == w.key then lastWrites r else w :: lastWrites r

/-- The writes that count at a boundary take effect in grant order, of each object the last one. -/
def Dev.applyGrants (d : Dev) (g : Nat) : Dev :=
  (lastWrites (d.grants.filter (d.grantDue g))).foldl Dev.applyGrant
    { d with grants := d.grants.filter fun w => !d.grantDue g w }

/-! ### Channels at a boundary (Table 2.4, Table 3.3) -/

/-- The on-time of a duty in a frame, in edge units; a seam frame scales it (R111, R121). -/
def Dev.onEdges (d : Dev) (g duty : Nat) : Nat :=
  if duty = 65535 then (d.gr g).frameEdges else d.scaled g (duty * d.nat (Obj.GRP_PERIOD_EDGES g) / 65536)

/-- The life factor and the current target at a boundary: a life reset sets c to 1 there, and F is as granted before it
(R217, R226, R227, R228, R233). -/
def Dev.factors (d : Dev) (n : Nat) : Dev :=
  let l := d.lf n
  let d := if before l.setOne d.now then
      (let d := (d.setLf n { l with setOne := none }).setComp n 1000000000000
       d.setLf n { d.lf n with fUse := d.lifeF n, fNext := none }) else d
  let l := d.lf n
  let f := l.fUse
  let d := d.put (Obj.LIFE_FACTOR_PM n) (roundOpen 226 f 1000000000)
  let nom := d.pnat n (Obj.PF_I_NOM (d.prof n))
  let d := d.put (Obj.DRV_I_TARGET n) (if d.mode n = 0 then 0 else if d.mode n = 2 then nom * f / 1000000000000 else nom)
  match l.fNext with
  | some x => if x.2 ≤ d.now then d.setLf n { l with fUse := x.1, fNext := none } else d
  | none => d

/-- The levels and placement a lit channel shows. -/
def Dev.showLevel (d : Dev) (n level source : Nat) : Dev :=
  let g := grpOf n
  let duty := d.duty g level
  let d := d.put (Obj.DRV_LEVEL_APPLIED n) level
  let d := d.put (Obj.DIM_DUTY_APPLIED n) duty
  let d := d.put (Obj.DIM_ON_EDGES n) (if duty = 0 then 0 else d.onEdges g duty)
  let d := d.put (Obj.DIM_SOURCE n) source
  d.put (Obj.OWN_POWER_MW n) (d.pw n (if level = 0 then 0 else max (d.wanted n).level (d.levelMin n)) % 2 ^ 32)

/-- The instant of the present boundary of a channel's group in edge units. -/
def Dev.edgeNow (d : Dev) (n : Nat) : Nat := d.boundaryEdge (grpOf n)

/-- The E-interval in progress at a boundary is over with it, and stays due for its evaluation. -/
def Chan.eClosed (c : Chan) (e : Nat) : Chan :=
  if c.dc ∧ c.pulse.onEdge < e then { c with due := c.due ++ [{ c.pulse with offEdge := min c.pulse.offEdge e }] } else c

/-- A conduction that goes on under another mode begins to switch, or has its gate on again. -/
def Dev.modeGoesOn (d : Dev) (n e : Nat) : Dev :=
  let c := d.ch n
  let buck := d.mode n == 2
  if buck == c.pulse.limits.buck then d
  else if buck then d.setCh n { c with cycle := 0, cycleOpen := true, cycleAt := e }
  else (d.setCh n { c with cycleOpen := false }).gateOn n

/-- A channel is in DC from this boundary: the gate turns on, or stays on where a pulse or DC conduction spans it; the rise
is checked in the first E-interval after the channel goes lit (R131, Table 3.3). -/
def Dev.dcOn (d : Dev) (n : Nat) (wasLit : Bool) : Dev :=
  let e := d.edgeNow n
  let c := d.ch n
  if c.dc then
    let rise := c.pulse.onEdge == e && c.pulse.riseItem
    let d := (d.setCh n (c.eClosed e)).modeGoesOn n e
    d.setCh n { d.ch n with pulse := d.eOpen n e rise }
  else
    let spans := c.pulseOpen
    let d := if spans then (d.setCh n { c with due := c.due ++ [{ c.pulse with offEdge := e }] }).modeGoesOn n e
      else (d.lowEnd n e).gateOn n
    let d := d.openInrush n
    let c := d.ch n
    d.setCh n { c with
      dc := true, pulseOpen := false, noOn := false, probeOpen := false, warmOpen := false, placed := some e
      gateEdge := if spans then c.gateEdge else e, cycle := if spans then c.cycle else 0
      cycleOpen := if spans then c.cycleOpen else d.mode n == 2, cycleAt := if spans then c.cycleAt else e
      pulse := d.eOpen n e (!wasLit && !spans) }

/-- A channel leaves DC for a PWM level: its conduction goes on for the on-time of the new level, as a pulse without a rise
item, and no on-edge is placed in this frame (Table 3.3). -/
def Dev.dcToPwm (d : Dev) (n : Nat) : Dev :=
  let e := d.edgeNow n
  let d := (d.setCh n ((d.ch n).eClosed e)).modeGoesOn n e
  let c := d.ch n
  d.setCh n { c with
    dc := false, noOn := true, pulseOpen := true
    pulse := { onEdge := e, offEdge := e + d.nat (Obj.DIM_ON_EDGES n), limits := d.limitsOf n, riseItem := false
               settling := decide (d.now < c.settleEnd), inrush := c.inrushOn
               frame := d.nat (Obj.GRP_FRAME_COUNT (grpOf n)) } }

/-- A channel leaves DC for dark: the gate turns off at the boundary (Table 3.3). -/
def Dev.dcOff (d : Dev) (n : Nat) : Dev :=
  let e := d.edgeNow n
  let d := (d.setCh n ((d.ch n).eClosed e)).showFsw n e
  (d.setCh n { d.ch n with dc := false, cycleOpen := false, darkFrom := e + 640000 }).setGate n .low

/-- A channel is lit from this boundary. -/
def Dev.goLit (d : Dev) (n level source : Nat) : Dev :=
  let c := d.ch n
  let st := d.drv n
  let d := d.setCh n { c with
    lit := true, warm := false, litSince := if st = 3 then c.litSince else d.now
    litCmdAt := if c.lit then c.litCmdAt else d.now
    inrushDue := c.inrushDue || st == 1 || st == 2 || st == 5 || st == 6, curFrom := none, drainAt := none }
  let d := if c.lit then d else d.put (Obj.SUP_OBSERVED n) (if d.active 0x0101 n then 4 else 1)
  let d := (d.put (Obj.DRV_STATE n) 3).put (Obj.DRV_LATCH_CAUSE n) 0
  let d := d.showLevel n level source
  if level = 65535 then d.dcOn n c.lit
  else if c.dc then d.dcToPwm n
  else d.setCh n { d.ch n with noOn := false }

/-- Does a dark channel fire probes (R155)? -/
def Dev.probes (d : Dev) (n : Nat) : Bool :=
  decide (d.pnat n (Obj.PF_PROBE_ALLOWED (d.prof n)) = 1) && decide (d.pnat n (Obj.SUP_PROBE_HZ (d.prof n)) ≠ 0)

/-- A channel is commanded dark from this boundary, with warming where its mode warms (R71 to R73, R142). -/
def Dev.goDark (d : Dev) (n : Nat) (warm : Bool) (source : Nat) : Dev :=
  let c := d.ch n
  let e := d.edgeNow n
  let st := d.drv n
  let d := if c.dc then d.dcOff n else d
  let d := if c.lit then d.darkCommand n else d
  let d := if (c.lit || st == 0) && !d.active 0x0102 n then d.put (Obj.SUP_OBSERVED n) 4 else d
  let again := !c.lit && st != 0 && st != 6
  let fresh := warm && (st == 0 || st == 5 || st == 6 || c.warmWidth == 0)
  let c := d.ch n
  let d := d.setCh n { c with
    lit := false, warm := warm, noOn := false, inrushDue := false, lowPend := none
    darkFrom := if again then c.darkFrom else max c.darkFrom e
    warmWidth := if fresh then min 3200 (d.warmMax n) else c.warmWidth, warmFails := if fresh then 0 else c.warmFails
    curFrom := if again then c.curFrom else none, drainAt := if again then c.drainAt else none }
  let d := (d.put (Obj.DRV_STATE n) (if warm then 2 else 1)).put (Obj.DRV_LATCH_CAUSE n) 0
  let d := if warm then d.showWarm n else d
  d.showLevel n 0 source

/-- The pending range switch takes place at a boundary at which the gate is low, or in DC that goes on (R125, R126). -/
def Dev.rangeAt (d : Dev) (n : Nat) (staysDc : Bool) : Dev :=
  let c := d.ch n
  if c.pulseOpen ∨ c.warmOpen ∨ c.probeOpen ∨ d.drv n = 4 ∨ (c.dc ∧ !staysDc) then d else d.rangeSwitch n

/-- The channel takes its commanded state. -/
def Dev.command (d : Dev) (n : Nat) : Dev :=
  let w := d.wanted n
  let l := d.appliedLevel n w.level
  let d := d.rangeAt n (l == 65535)
  let d := if l = 0 then d.goDark n w.warm w.source else d.goLit n l w.source
  if (d.ch n).dc then d else d.rangeAt n false

/-- A channel that an activation has set OFF (Table 2.4, R541). -/
def Dev.goUnused (d : Dev) (n : Nat) : Dev :=
  if d.drv n = 0 then d
  else
    let d := d.retryZero n
    let d := (d.codesOf n).foldl (fun d c => if c = 0x0102 then d else d.clearFree c n) d
    let c := d.ch n
    let d := (d.setCh n { rangeInUse := c.rangeInUse, rangeWait := c.rangeWait, settleEnd := c.settleEnd, gateEdge := c.gateEdge
                          curHigh := c.curHigh, curAt := c.curAt, offAt := some d.now }).setGate n .low
    let d := ((d.put (Obj.DRV_STATE n) 0).put (Obj.DRV_LATCH_CAUSE n) 0).put (Obj.DRV_WARM_DUTY n) 0
    let d := (d.put (Obj.SUP_OBSERVED n) 0).put (Obj.SUP_CONTINUITY n) 0
    (d.rangeSwitch n).showLevel n 0 0

/-- The record of a change of the commanded state of a channel that cannot follow it now (Table 5.2). -/
def Dev.recordCommand (d : Dev) (n : Nat) (lit : Bool) : Dev :=
  let c := d.ch n
  if c.lit ∧ !lit then
    let d := d.darkCommand n
    let d := if d.active 0x0102 n then d else d.put (Obj.SUP_OBSERVED n) 4
    (d.setCh n { d.ch n with lit := false, darkFrom := max c.darkFrom (d.edgeNow n) }).showLevel n 0 0
  else if !c.lit ∧ lit then
    let d := d.put (Obj.SUP_OBSERVED n) (if d.active 0x0101 n then 4 else 1)
    (d.setCh n { d.ch n with lit := true, litCmdAt := d.now }).showLevel n 0 0
  else d.showLevel n 0 0

/-- A commanded-lit channel of an isolated group is observed dark, with reason 8 unless a DARK_FAULT is active already
(R140). -/
def Dev.isoDark (d : Dev) (n : Nat) : Dev :=
  let d := (d.put (Obj.SUP_OBSERVED n) 4).put (Obj.SUP_LAST_REASON n) 8
  if d.active 0x0101 n then d
  else ((d.put (Obj.SUP_ONSET n) d.now).darkFault n 8 0).put (Obj.SUP_VERDICT_TIME n) d.now

/-- A channel in ISOLATED at its group's boundary (Table 2.4). -/
def Dev.isolatedBoundary (d : Dev) (n : Nat) (lit : Bool) : Dev :=
  let g := grpOf n
  if d.isoOpen g ∧ (d.gr g).isoFault then
    let d := d.recordCommand n lit
    if lit then d.isoDark n else d
  else
    let d := if d.darkReason n = 8 then d.clearC 0x0101 n else d
    if d.mode n = 0 then d.goUnused n
    else if (d.ch n).latchedBeforeIso ∧ !(d.ch n).latchCleared then d.put (Obj.DRV_STATE n) 5
    else d.command n

/-- A channel in LATCHED_DARK at its group's boundary: its latch has been cleared, a retry is due, or it holds (R77,
R139). -/
def Dev.latchedBoundary (d : Dev) (n : Nat) (lit : Bool) : Dev :=
  let c := d.ch n
  if c.latchCleared then (d.setCh n { c with latchCleared := false }).command n
  else if lit ∧ c.retryDue ∧ !c.thirdLatched ∧ !d.litHeld n then
    (d.setCh n { c with inRetry := true, retryDue := false }).command n
  else
    let d := d.recordCommand n lit
    if lit then d.onClassified n (.deviating 6 d.now) (d.limitsOf n) else d

/-- DRV_I_PEAK of the frame that is over. -/
def Dev.showPeak (d : Dev) (n : Nat) : Dev :=
  let c := d.ch n
  if c.peakFrame + 1 = d.nat (Obj.GRP_FRAME_COUNT (grpOf n)) ∧ c.peak ≠ 0 then d.put (Obj.DRV_I_PEAK n) c.peak else d

/-- A channel commanded dark without probes or warming has no continuity proven (R158). -/
def Dev.unproven (d : Dev) (n : Nat) : Dev :=
  let st := d.drv n
  if d.mode n ≠ 0 ∧ !(d.ch n).lit ∧ st ≠ 2 ∧ ¬(st = 1 ∧ d.probes n) then d.put (Obj.SUP_CONTINUITY n) 0 else d

/-- The drive state of a channel at its group's boundary, in the precedence of R76 (Table 2.4, R139, R140, R152). -/
def Dev.driveBoundary (d : Dev) (n : Nat) : Dev :=
  let st := d.drv n
  let lit := decide (d.mode n ≠ 0) && decide ((d.wanted n).level ≠ 0)
  if st = 6 then (d.rangeAt n false).isolatedBoundary n lit
  else if st = 4 then d.recordCommand n lit
  else if d.mode n = 0 then d.goUnused n
  else if st = 5 then (d.rangeAt n false).latchedBoundary n lit
  else if d.litHeld n then ((d.rangeAt n false).recordCommand n lit).put (Obj.DRV_STATE n) 1
  else d.command n

/-- A channel at its group's boundary. -/
def Dev.channelBoundary (d : Dev) (n : Nat) : Dev :=
  let d := (d.factors n).showPeak n
  if d.drv n = 7 then d else (d.driveBoundary n).unproven n

/-! ### Isolators at a boundary (R92 to R95) -/

/-- The isolator of a group at its boundary; it closes at one after the end of kindling, at which safe aspects or commands
are applied (R93). -/
def Dev.isoBoundary (d : Dev) (g : Nat) : Dev :=
  let used := (chansOf g).any fun n => decide (d.mode n ≠ 0)
  if d.nat (Obj.GRP_ISO_USE g) = 0 then
    ((d.put (Obj.GRP_ISO_STATE g) 0).put (Obj.GRP_ISO_CAUSE g) 5).setIso g .z
  else if (d.gr g).isoFault then d
  else if !used then ((d.put (Obj.GRP_ISO_STATE g) 0).put (Obj.GRP_ISO_CAUSE g) 4).setIso g .low
  else if d.nat (Obj.GRP_ISO_STATE g) = 1 ∨ d.now ≤ d.power.endedAt then d
  else
    ((d.put (Obj.GRP_ISO_STATE g) 1).put (Obj.GRP_ISO_CAUSE g) 0).setIso g .high |>.setGr g
      { d.gr g with isoClosedAt := d.now }

/-! ### The boundary -/

/-- The thresholds of a BUCK channel move a quarter of the deviation of the mean, within half the ripple (R68). -/
def Dev.buckTrim (d : Dev) (n : Nat) (mean : Option Nat) : Dev :=
  match mean with
  | some m =>
    if d.mode n = 2 ∧ d.drv n = 3 then
      let c := d.ch n
      let half : Int := roundOpen 68 (d.ripple n) 2000
      d.setCh n { c with trim := clampInt (-half) half (c.trim + roundOpenInt 68 (d.num (Obj.DRV_I_TARGET n) - m) 4) }
    else d
  | none => d

/-- The frame that begins at this boundary: its length, its end and the counters of the group. It is a seam frame where
the grid has moved and the boundary is none of the new grid, or its period is new (R113, R120). -/
def Dev.beginFrame (d : Dev) (g : Nat) : Dev :=
  let r := d.gr g
  let p := d.nat (Obj.GRP_PERIOD_TICKS g)
  let shift := d.gridShift g
  let sub := if d.now = r.next then r.nextSub else 0
  let e := 32 * d.now + sub
  let seam := p != r.gridPeriod || ((r.moved || d.now != r.next) && !gridHas (32 * p) shift e)
  let stop := frameEnd (32 * p) shift e seam
  let d := d.setGr g { r with
    next := stop / 32, nextSub := stop % 32, sub := sub, frameLen := stop / 32 - d.now, prevLen := r.frameLen
    frameEdges := if seam then stop - e else 32 * p, gridPeriod := p, moved := false }
  let d := d.count (Obj.GRP_FRAME_COUNT g)
  let d := d.put (Obj.GRP_LAST_BOUNDARY g) d.now
  let d := if seam then d.count (Obj.GRP_SEAM_COUNT g) else d
  d.putInt (Obj.GRP_RING_ERR_NS g) (if d.nat (Obj.GRP_RING_LOCK g) = 1 ∧ d.isMember then
    (Config.openNat 113 [(g : Int), (d.now : Int)] % 91 : Nat) - (45 : Int) else 0)

/-- Before the end of kindling and in a power-fail bank a boundary moves the grid, the configuration and granted
values, and drives nothing (R198, R330, R411). -/
def Dev.gridOnly (d : Dev) : Bool := !d.running

/-- Does a ramp of the holder's factor change the level of a channel at the next boundary of its group (R300)? -/
def Dev.yieldMoves (d : Dev) (n : Nat) : Bool :=
  let lc := d.levelCmd n
  let at' := fun t => d.yielded n lc (d.yNow (d.nat (Obj.OWN_HOLDER n)) t)
  d.budgeted n && decide (at' (d.gr (grpOf n)).next ≠ at' d.now)

/-- The levels that a ramp changes at the next boundary are submitted at M12, as requester 0 (R300). -/
def Dev.yieldSubmit (d : Dev) (g : Nat) : Dev :=
  ((chansOf g).filter d.yieldMoves).foldl (fun (d : Dev) _ => d.grantAt 12 0) d

/-- What takes effect at a boundary of a group whose block drives its lamps, after the configuration: aspects, pattern
engines, the frame and the granted writes, isolators, channels, in the precedence of R76. -/
def Dev.drivenBoundary (d : Dev) (g : Nat) : Dev :=
  let d := (d.sgBoundaries g).peBoundaries
  let d := (d.beginFrame g).applyGrants g
  let d := d.isoBoundary g
  (((chansOf g).foldl Dev.channelBoundary d).sgJudge g).yieldSubmit g

/-- A boundary of a group's frame: what was granted before it takes effect (R118). A frame whose actions are not complete
repeats the one before (R47). -/
def Dev.frameBoundary (d : Dev) (g : Nat) (complete : Bool) (means : List (Option Nat)) : Dev :=
  if d.now < (d.gr g).next ∨ (d.op ≠ .kindled ∧ d.op ≠ .operating) then d
  else
    let d := d.grantAsks g
    if !complete then
      let d := d.underrun g
      if d.op = .haltSafe then d else (if d.gridOnly then d else d.peBoundaries).beginFrame g
    else
      let d := d.frameKept g
      let d := if d.gridOnly then d else
        (chansOf g).foldl (fun d n => (d.optFrame n).buckTrim n (means.getD (n % 4) none)) d
      let d := d.switchNow
      if d.gridOnly then (d.beginFrame g).applyGrants g else d.drivenBoundary g

/-- The end of kindling (R414, R198, R217): safe aspects are due at the next boundaries, compensation takes its
target, effects may start. -/
def Dev.endKindling (d : Dev) (cause : Nat) : Dev :=
  if d.op = .kindled then
    let d := { d with op := .operating, power := { d.power with kindlingEnded := true, endedAt := d.now } }
    let d := d.put Obj.KINDLE_PHASE 6
    let d := d.put Obj.KINDLE_END_US (d.now / 100 % 2 ^ 32)
    let d := d.put Obj.KINDLE_END_CAUSE cause
    let d := (List.range 96).foldl (fun d n => ((d.compSet n).lifeSubmit n).lifeJudge n) d
    (List.range 32).foldl (fun d s =>
      if d.sgUsed s then d.setSgp s { d.sgp s with safe := some (1, d.now + 1) } else d) d
  else d

/-- The configuration in force is installed: figures of every group, the first boundaries of the grid, and the signal
groups that await their first aspect (R412, R198). -/
def Dev.installConfig (d : Dev) : Dev :=
  let d := (List.range 24).foldl (fun d g =>
    let d := d.groupFigures g
    let p := d.nat (Obj.GRP_PERIOD_TICKS g)
    let first := (d.now / p + 1) * p
    d.setGr g { d.gr g with next := first, nextSub := 0, frameLen := p, prevLen := p, frameEdges := 32 * p, gridPeriod := p }) d
  let d := (List.range 96).foldl (fun d n =>
    ((d.setCh n { d.ch n with rangeInUse := d.nat (Obj.CH_SENSE_RANGE n) }).channelFigures n).lifeFigures n) d
  (List.range 32).foldl (fun d s => if d.sgUsed s then d.put (Obj.SG_STATE s) 1 else d) d

end Sys2Proof.Machine
end

