-- ==== Sys2Proof/Machine/Fields.lean ====
section
/-! DEFINITION. Field inputs (chapter 15). FIN_STATE and the three maps are read from the inputs' own state. -/
namespace Sys2Proof.Machine

/-- The source number of a field input (Table 16.9). -/
def finSource (k : Nat) : Nat := 0x400 + k

/-- Is the input sensed: used, and not in REPLAY, where the balls are ignored unless a record is re-run (R489)? -/
def Dev.finUsed (d : Dev) (k : Nat) : Bool :=
  d.nat (Obj.FIN_USE k) != 0 && d.op != .replay && d.op != .loader

/-- The debounced state that a raw state stands for (R488). -/
def Dev.finTaken (d : Dev) (k : Nat) : Bool := (d.fi k).rawOn != (d.nat (Obj.FIN_INVERT k) == 1)

/-- The debounce time in ticks. -/
def Dev.finSpan (d : Dev) (k : Nat) : Nat := 100 * d.nat (Obj.FIN_DEBOUNCE_US k)

/-- A window closes without a further edge: a change of the debounced state is stamped with the edge that opened the
window, counted, and triggers the capture where CAP_TRIG_FIN names the input (R488, R347, Table 15.4). -/
def Dev.finDebounce (d : Dev) (k : Nat) : Dev :=
  let f := d.fi k
  match f.windowAt with
  | some t =>
    if t + d.finSpan k ≤ d.now ∧ d.finUsed k then
      let d := d.setFi k { f with windowAt := none }
      if f.unknown || f.broken || d.finTaken k == f.on then d
      else
        let d := d.setFi k { d.fi k with on := d.finTaken k }
        let d := (d.put (Obj.FIN_LAST_EDGE k) t).count (Obj.FIN_EDGE_COUNT k)
        if bit (d.nat Obj.CAP_TRIG_FIN) k then d.capTrigger (0xF000 + k) else d
    else d
  | none => d

/-- A raw edge: stamped, granted at M10, journalled; it opens a debounce window. A window that closes on the tick of the
edge is taken first, since the edge belongs to the next one (R17, R487). -/
def Dev.finEdge (d : Dev) (k : Nat) (on : Bool) : Dev :=
  if d.finUsed k then
    let d := (d.finDebounce k).grantAt 10 0
    let d := d.jrec 0x04 [(k : Int), (b2n on : Int)]
    let f := d.fi k
    d.setFi k { f with rawOn := on, windowAt := some d.now
                       changeAt := if f.unknown && f.restart then d.now else f.changeAt }
  else d

/-- BREAK is entered; it prevails over an open window (R486, Table 15.4). -/
def Dev.finBreak (d : Dev) (k : Nat) : Dev :=
  let f := d.fi k
  if d.finUsed k ∧ d.nat (Obj.FIN_BREAK_UA k) ≠ 0 ∧ !f.broken then
    ((d.setFi k { f with broken := true, windowAt := none, on := false }).count (Obj.FIN_BREAK_COUNT k)).raiseOnce 0x0104
      (finSource k) 0
  else d

/-- BREAK is left; with no window open the input takes its raw state (R486). -/
def Dev.finMend (d : Dev) (k : Nat) : Dev :=
  let f := d.fi k
  if d.finUsed k ∧ f.broken then
    (d.setFi k { f with broken := false, on := if f.windowAt.isNone then d.finTaken k else false }).clearC 0x0104 (finSource k)
  else d

/-- UNKNOWN ends a debounce time after KINDLED, or after an activation with no raw edge since (R489, Table 15.4). -/
def Dev.finKnown (d : Dev) (k : Nat) : Dev :=
  let f := d.fi k
  if d.finUsed k ∧ f.unknown ∧ (d.op = .kindled ∨ d.op = .operating) ∧ f.changeAt + d.finSpan k ≤ d.now then
    d.setFi k { f with unknown := false, restart := false, on := !f.broken && d.finTaken k }
  else d

/-- FIN_STATE (Table 15.6). -/
def Dev.finState (d : Dev) (k : Nat) : Nat :=
  let f := d.fi k
  if d.nat (Obj.FIN_USE k) = 0 then 4 else if f.unknown then 3 else if f.broken then 2 else b2n f.on

/-- The map of the inputs whose FIN_STATE is a given one. -/
def Dev.finMap (d : Dev) (st : Nat) : Nat :=
  (List.range 32).foldl (fun m k => if d.finState k = st then m + 2 ^ k else m) 0

/-- FIN_RAW_EDGE (R487). -/
def execFinRawEdge (k : Fin 32) (on : Bool) (s : State) := s.live fun d => d.finEdge k.val on

/-- FIN_DEBOUNCE_EXPIRY (R488). -/
def execFinDebounceExpiry (k : Fin 32) (s : State) := s.live fun d => d.finDebounce k.val

/-- FIN_BREAK_ENTER (R486). -/
def execFinBreakEnter (k : Fin 32) (s : State) := s.live fun d => d.finBreak k.val

/-- FIN_BREAK_EXIT (R486). -/
def execFinBreakExit (k : Fin 32) (s : State) := s.live fun d => d.finMend k.val

/-- FIN_UNKNOWN_END (R489, R490). -/
def execFinUnknownEnd (k : Fin 32) (s : State) := s.live fun d => d.finKnown k.val

end Sys2Proof.Machine
end

