-- ==== Sys2Proof/Machine/Ember.lean ====
section
/-! DEFINITION. The Ember store: records, banks, compaction, the patrol and recovery (R318 to R335). -/
namespace Sys2Proof.Machine

/-- The persistence class of an object. -/
def persOf (k : Nat) : Pers :=
  match objRow k with
  | some r => r.pers
  | none => .mayfly

/-- The RECORD values of the dictionary. -/
def Dev.recordVals (d : Dev) : Store := d.dict.filter fun e => persOf e.1 == .record

/-- The RECORD values as recovery rebuilds them: what the last completed bank committed, and of a power-fail bank that
was cut short the valid records, which ones being open (R326). Increments since reset release stand on top; of the
lowest tempo window the lower one stands. -/
def Dev.rebuild (d : Dev) : Dev :=
  let early := d.recordVals
  let d := { d with dict := d.dict.filter fun (e : Nat × Val) => persOf e.1 != Pers.record }
  let d := d.banked.foldl (fun (d : Dev) (e : Nat × Val) => d.putVal e.1 e.2) d
  early.foldl (fun (d : Dev) (e : Nat × Val) => match e.2, objDefault e.1 with
    | .num v, .num b => d.putInt e.1 (if e.1 = Obj.TEMPO_MIN_LIFE then min (d.num e.1) v else d.num e.1 + (v - b))
    | _, _ => d) d

/-- The RECORD values that a bank commits: those of the dictionary, and before recovery has rebuilt them what stands
committed with the increments since reset release (R57, R321, R327). -/
def Dev.bankVals (d : Dev) : Store :=
  if d.op = .kindling ∧ d.nat Obj.KINDLE_PHASE < 4 then d.rebuild.recordVals else d.recordVals

/-- A record programmed and committed in the record area, with the next sequence number (R320). -/
def Dev.ember1 (d : Dev) (ty : Nat) (fields : List Nat) (data : List Byte := []) : Dev :=
  { d with ember := { d.ember with log := d.ember.log ++ [⟨ty, d.ember.seqNext, fields, data⟩], seqNext := d.ember.seqNext + 1 } }

/-- Records committed together; which records a bank groups its increments into is open (Table 9.3), and with it how
far the sequence rises. -/
def Dev.emberMany (d : Dev) (place : Nat) : Dev :=
  { d with ember := { d.ember with seqNext := d.ember.seqNext + Config.openNat place [(d.ember.seqNext : Int)] } }

/-- The calendar day; 0 while the calendar is not valid (R419). -/
def Dev.calDayNow (d : Dev) : Nat := d.calStamp / 86400

/-- The battery state as a bank commits it: state of charge, handover state, count, rest day, conflict (R429). -/
def Dev.batteryRec (d : Dev) : List Nat :=
  [d.nat Obj.BAT_SOC_PM, d.nat Obj.HO_STATE, (d.num Obj.BAT_CHARGE_MAH % 2 ^ 32).toNat, d.nat Obj.BAT_LAST_REST_DAY,
    b2n (d.active 0x0603 0xFFFF)]

/-! ### Banking (R327 to R332) -/

/-- A bank begins: it commits the RECORD values, the dirty retained pages and the waiting history entries of this
instant, and is counted; compensation steps (R217, R327, R329). -/
def Dev.bankBegin (d : Dev) (cause : Nat) : Dev :=
  let d := (List.range 96).foldl (fun d n => (d.compStep n).lifeJudge n) d
  let d := d.count Obj.BANK_COUNT
  let num := d.nat Obj.BANK_COUNT
  let d := d.jrec 0x0F [(num : Int), (cause : Int)]
  let d := (d.grantAt 2 0).ember1 0x20 [num, cause]
  let d := d.put Obj.BANK_STATE cause
  { d with
    ember := { d.ember with
      bank := some ⟨num, cause, d.now, d.ember.dirty, d.bankVals, d.rep.histWait, d.batteryRec⟩, dirty := [] }
    rep := { d.rep with histWait := [] } }

/-- HOLD_N or a supply turns a periodic or early bank into a power-fail bank: what it had taken and what has come since
are committed (Table 9.6). -/
def Dev.bankConvert (d : Dev) (b : Bank) : Dev :=
  let d := d.jrec 0x0F [(b.num : Int), 3]
  let d := d.put Obj.BANK_STATE 3
  { d with
    ember := { d.ember with
      bank := some { b with cause := 3, pages := b.pages ++ d.ember.dirty, snap := d.bankVals, battery := d.batteryRec
                            hist := (b.hist ++ d.rep.histWait).take 32 }
      dirty := [] }
    rep := { d.rep with histWait := [] } }

/-- A channel at a power-fail bank: its gate sinks, it is commanded dark, and no pulse and no evidence of it is in
progress. A soft-off in progress ends in the latch it leads to (Table 2.4, Table 9.5). -/
def Dev.bankChan (d : Dev) (n : Nat) : Dev :=
  let st := d.drv n
  let d := if st = 0 ∨ st = 7 then d else d.recordCommand n false
  let d := d.setCh n { d.ch n with pulseOpen := false, due := [], dc := false, warm := false, probeOpen := false
                                   warmOpen := false, cycleOpen := false, lowPend := none, curFrom := none, drainAt := none }
  let d := if st = 4 then d.latchDark n else if st = 2 ∨ st = 3 then d.put (Obj.DRV_STATE n) 1 else d
  d.setGate n .low

/-- The gates, the isolators and the outputs of a power-fail bank: its first two steps (Table 9.5). The lanes, the
ring ports, the service port, the capture, the termite and journal programming stop. -/
def Dev.bankDark (d : Dev) : Dev :=
  let d := { d with power := { d.power with banked := true }, test := { d.test with sliceEnd := none, hold := none } }
  let d := (List.range 96).foldl Dev.bankChan d
  let d := (List.range 24).foldl (fun d g => if d.nat (Obj.GRP_ISO_USE g) = 1 then d.setIso g .low else d) d
  let d := (List.range 24).foldl (Dev.isoShow · 7) d
  let d := (List.range 16).foldl Dev.peIdle d
  let d := d.effectsDark
  if d.nat Obj.CAP_STATE = 0 then d else d.put Obj.CAP_STATE 0

/-- The cicada state of a power-down: the calendar as it stands, no WAKE stamp yet, the state of charge and the handover
state (Table 12.6, R418, R420). -/
def Dev.cicadaDown (d : Dev) : Dev :=
  let bytes := leBytes 4 0xC1CADA01 ++ leBytes 1 (d.nat Obj.CAL_VALID) ++ List.replicate 3 0 ++ leBytes 4 (d.nat Obj.CAL_NOW) ++
    leBytes 4 0 ++ leBytes 2 (d.nat Obj.BAT_SOC_PM) ++ leBytes 1 (d.nat Obj.HO_STATE)
  ({ d with power := { d.power with wake := false, cicada := some bytes } }.put Obj.CAL_LAST_DOWN (d.nat Obj.CAL_NOW)).put
    Obj.WAKE_STAMP 0

/-- A power-fail bank begins (R327, R330). The first one stands; the loader and a block in reset have none. -/
def Dev.powerFail (d : Dev) : Dev :=
  if d.power.inReset ∨ d.power.banked ∨ d.op = .loader then d
  else
    let d := d.ownBack.bankDark
    let d := d.cicadaDown
    let d := d.count Obj.BANK_PF_COUNT
    match d.ember.bank with
    | some b => d.bankConvert b
    | none => d.bankBegin 3

/-- PERIODIC_BANK_DUE: the interval has passed since the last bank, or since KINDLED with none
(R327). -/
def Dev.bankPeriodic (d : Dev) : Dev :=
  let since := d.ember.lastBank.getD d.lanes.kindledAt
  if (d.op = .kindled ∨ d.op = .operating) ∧ d.ember.bank.isNone ∧ !d.power.banked ∧
      since + 6000000000 * d.nat Obj.BANK_INTERVAL_MIN ≤ d.now then
    d.bankBegin 1
  else d

/-- EARLY_BANK_DUE: 24 dirty pages, and no bank in the last 5 min (R327). -/
def Dev.bankEarly (d : Dev) : Dev :=
  let clear : Bool := match d.ember.lastBank with
    | some t => decide (t + 30000000000 ≤ d.now)
    | none => true
  if (d.op = .kindled ∨ d.op = .operating) ∧ d.ember.bank.isNone ∧ !d.power.banked ∧ 24 ≤ d.ember.dirty.length ∧ clear then
    d.bankBegin 2
  else d

/-- A bank's records are committed: RECORD values, retained pages, history and BANK_END. -/
def Dev.bankCommit (d : Dev) (b : Bank) : Dev :=
  let d := { d with banked := b.snap, replay := { d.replay with bootNew := false } }
  let d := { d with rep := { d.rep with hist := (b.hist.reverse ++ d.rep.hist).take 256 } }
  let d := (d.emberMany 320).ember1 0x03 b.battery
  let d := d.ember1 0x21 [b.num]
  { d with ember := { d.ember with bank := none, lastBank := some d.now } }

/-- BANK_END (R329, R330, R331, R422): after a power-fail bank the block stays banked, and an overvoltage met during
a bank leads to HALT-SAFE (Table 12.9). -/
def Dev.bankEnd (d : Dev) (bytes us : Nat) : Dev :=
  match d.ember.bank with
  | some b =>
    let d := d.bankCommit b
    let d := d.put Obj.BANK_LAST_TIME d.now
    let d := d.put Obj.BANK_LAST_BYTES (min bytes 16384)
    let d := d.put Obj.BANK_LAST_US (sat (2 ^ 32 - 1) us)
    let d := d.putMax Obj.BANK_MAX_BYTES (min bytes 16384)
    let d := d.putMax Obj.BANK_MAX_US (sat (2 ^ 32 - 1) us)
    let d := if b.cause = 3 then (d.put Obj.BANK_STATE 4).put Obj.HOLD_V_BANK_END (d.nat Obj.VHOLD_MV) else d.put Obj.BANK_STATE 0
    match d.power.overAfter with
    | some v => { d with power := { d.power with overAfter := none } }.haltSafe 0x0008 v
    | none => d
  | none => d

/-- A bank made and completed within one step, as a transition, an activation of firmware and a replay entry make it
(R442, R453). -/
def Dev.bankNow (d : Dev) : Dev :=
  match d.ember.bank with
  | some b => ((d.count Obj.BANK_PF_COUNT).bankConvert b).bankEnd 0 0
  | none => ((d.count Obj.BANK_PF_COUNT).bankBegin 3).bankEnd 0 0

/-! ### Records of their own -/

/-- A lamp epoch is committed at once: the channel's life record as it now stands is what a reset finds (R234). -/
def Dev.lifeCommit (d : Dev) (n : Nat) : Dev :=
  let d := d.ember1 0x06 [n, d.nat (Obj.LIFE_LAMP_EPOCH n), d.nat (Obj.LIFE_INSTALL_DAY n)]
  let ks := [Obj.LIFE_EQ_MS n, Obj.LIFE_LIT_MS n, Obj.LIFE_T_MAX n, Obj.LIFE_ABOVE_KNEE_MS n, Obj.LIFE_CAL_PM n,
    Obj.LIFE_CAL_COUNT n, Obj.LIFE_RATE_PM n, Obj.LIFE_COL_Q_PM n, Obj.LIFE_LAMP_EPOCH n, Obj.LIFE_INSTALL_DAY n]
  d.commitKeys ks

/-! ### Compaction and patrol (R319, R333, R334) -/

/-- EMBER_COMPACTION: a checkpoint is written forward, and once it is complete the oldest sectors are erased under
their intent. -/
def Dev.compact (d : Dev) : Dev :=
  if d.power.banked ∨ d.ember.bank.isSome ∨ d.op = .loader ∨ d.op = .replay then d
  else
    let d := (d.grantAt 2 1).count Obj.EMB_CHECKPOINTS
    let upTo := d.ember.seqNext - 1
    let d := (d.emberMany 319).ember1 0x32 [d.nat Obj.EMB_CHECKPOINTS, upTo]
    let d := { d with ember := { d.ember with checkpoint := upTo } }
    let d := (d.ember1 0x10 [1]).ember1 0x11 [1]
    let d := d.put Obj.EMB_CYCLES_MAX (Config.openNat 318 [0, (upTo : Int)] % 2 ^ 32)
    d.put Obj.EMB_CYCLES_MEAN (Config.openNat 318 [1, (upTo : Int)] % 2 ^ 32)

/-- A condition of the device on the Ember store. -/
def Dev.refreshNote (d : Dev) (what sector : Nat) : Dev := d.raiseC 0x0403 0xFFFF (what + 65536 * sector)

/-- PATROL_START (R334): 30 days of powered time since the last patrol, or a reset at which the calendar was not valid or showed
more than 180 days since it. -/
def Dev.patrolStart (d : Dev) : Dev :=
  let due := decide (d.nat Obj.PATROL_LAST_S + 2592000 ≤ d.nat Obj.POWERED_TIME_S) || d.ember.patrolDue
  if due ∧ !d.power.banked ∧ (d.op = .kindled ∨ d.op = .operating) ∧ d.nat Obj.PATROL_STATE = 0 then
    (d.grantAt 2 2).put Obj.PATROL_STATE 1
  else d

/-- One sector is refreshed (R333). -/
def Dev.refreshSector (d : Dev) (sector : Nat) : Dev :=
  let d := if sector < 768 then (((d.ember1 0x12 [sector, 0]).ember1 0x12 [sector, 1]).ember1 0x10 [sector]).ember1 0x11 [sector]
    else (d.ember1 0x10 [sector]).ember1 0x11 [sector]
  (d.count Obj.PATROL_REFRESHED).refreshNote 1 sector

/-- PATROL_COMPLETE: every sector has been read. -/
def Dev.patrolDone (d : Dev) (worst : Nat) (refreshed : List Nat) : Dev :=
  if d.nat Obj.PATROL_STATE = 1 ∧ !d.power.banked then
    let d := refreshed.foldl Dev.refreshSector d
    let d := { d with ember := { d.ember with patrolDue := false } }
    let d := (d.put Obj.PATROL_STATE 0).put Obj.PATROL_WORST_BITS (sat 65535 worst)
    (d.put Obj.PATROL_LAST_S (d.nat Obj.POWERED_TIME_S)).put Obj.PATROL_LAST_DAY d.calDayNow
  else d

/-! ### Recovery at kindling (R321 to R326) -/

/-- EMBER_RECOVERY_DONE: ends kindling phase 3. -/
def Dev.recovered (d : Dev) (us discarded corrected : Nat) (uncorrectable : List Nat) : Dev :=
  if d.op = .kindling ∧ d.nat Obj.KINDLE_PHASE = 3 then
    let d := d.rebuild
    let d := d.put Obj.EMB_RECOVERY_US (sat (2 ^ 32 - 1) us)
    let d := d.put Obj.EMB_DISCARDED (sat (2 ^ 32 - 1) discarded)
    let d := d.count Obj.EMB_CORRECTED_BITS corrected
    let d := uncorrectable.foldl (fun d s => (d.count Obj.EMB_UNCORR_COUNT).refreshNote 2 s) d
    let n := d.ember.intents.length
    let d := d.put Obj.EMB_ABANDONED n
    let d := d.ember.intents.foldl (fun d a => d.ember1 0x11 [a]) d
    let d := if 0 < n then d.raiseC 0x0402 0xFFFF n else d
    let cut := d.ember.cutBank
    let late := d.nat Obj.CAL_VALID == 0 || decide (d.nat Obj.PATROL_LAST_DAY + 180 < d.calDayNow)
    let d := { d with ember := { d.ember with intents := [], cutBank := none, patrolDue := late } }
    let d := match cut with
      | some num => (d.count Obj.BANK_INCOMPLETE_COUNT).raiseC 0x0401 0xFFFF num
      | none => d
    (d.put Obj.KINDLE_EMBER_US (d.now / 100 % 2 ^ 32)).put Obj.KINDLE_PHASE 4
  else d

/-- PERIODIC_BANK_DUE (R327). -/
def execPeriodicBankDue (s : State) := s.live Dev.bankPeriodic

/-- EARLY_BANK_DUE (R327). -/
def execEarlyBankDue (s : State) := s.live Dev.bankEarly

/-- EMBER_COMPACTION (R319). -/
def execEmberCompaction (s : State) := s.live Dev.compact

/-- PATROL_START (R334). -/
def execPatrolStart (s : State) := s.live Dev.patrolStart

/-- PATROL_COMPLETE (R333). -/
def execPatrolComplete (worst : Nat) (refreshed : List Nat) (s : State) := s.live fun d => d.patrolDone worst refreshed

/-- EMBER_RECOVERY_DONE (R325). -/
def execEmberRecoveryDone (us discarded : Nat) (uncorrectable : List Nat) (corrected : Nat) (s : State) :=
  s.serve fun d => d.recovered us discarded corrected uncorrectable

end Sys2Proof.Machine
end

