-- ==== Sys2Proof/Machine/Journal.lean ====
section
/-! DEFINITION. The journal's dies and ash segments, its overrun, and the capture (R336 to R349). -/
namespace Sys2Proof.Machine

/-! ### Segments (R342, R343) -/

/-- A journal record as its segment holds it: type, payload length, the interval from the record before it, payload
(R339). -/
def JRec.bytes (r : JRec) (prev : Nat) : List Byte :=
  let p := Config.recordPayload r.ty r.fields r.data
  leBytes 1 r.ty ++ leBytes 1 p.length ++ leBytes 2 (r.at' - prev) ++ p

/-- The records of a segment with the TIME_BASE records before the first one and before each interval that is too
long. -/
def segRecords (l : List JRec) (prev : Option Nat) : List Byte :=
  match l with
  | [] => []
  | r :: rest =>
    let base := match prev with
      | some t => decide (65535 < r.at' - t)
      | none => true
    (if base then leBytes 1 1 ++ leBytes 1 8 ++ leBytes 2 0 ++ leBytes 8 r.at' ++ r.bytes r.at'
      else r.bytes (prev.getD r.at')) ++ segRecords rest (some r.at')

/-- How many records at the front of the event buffer fit in the 61,376 record bytes of a segment. -/
def segFit (l : List JRec) (prev : Option Nat) (room : Nat) : Nat :=
  match l with
  | [] => 0
  | r :: rest =>
    let n := (segRecords [r] prev).length
    if n ≤ room then segFit rest (some r.at') (room - n) + 1 else 0

/-- Bytes padded with 0xFF. -/
def padFF (n : Nat) (b : List Byte) : List Byte := (b ++ List.replicate (n - b.length) 0xFF).take n

/-- Bytes 0 to 61,451 of a segment (Table 9.9). -/
def Seg.sealed (g : Seg) : List Byte :=
  leBytes 4 0xA5E50001 ++ leBytes 2 1 ++ leBytes 1 g.kind ++ leBytes 1 (b2n g.truncated + 2 * b2n g.flagged) ++
    leBytes 8 g.num ++ leBytes 4 g.resetCount ++ leBytes 4 0 ++ leBytes 8 g.first ++ padFF 32 g.prev ++
    padFF 61376 g.body ++ leBytes 4 g.body.length ++ leBytes 8 g.train

/-- The 65,536 bytes of a segment as programmed. -/
def Seg.bytes (g : Seg) : List Byte := padFF 65536 (g.sealed ++ padFF 32 g.sig)

/-- A segment is programmed and sealed: it takes the next number and carries the seal of the one before it. -/
def Dev.sealSeg (d : Dev) (kind : Nat) (truncated frozen : Bool) (boot first : Nat) (body : List Byte) : Dev :=
  let j := d.jnl
  let g : Seg := ⟨j.head, kind, truncated, frozen, frozen, boot, first, padTo 32 j.lastSeal, body, d.trainNow, []⟩
  let sig := sha256 g.sealed
  let d := (d.digestOnce 2).grantAt 3 (if kind = 0 then 0 else 1)
  let d := if kind = 0 then d else d.grantAt 11 1
  let n := d.nat Obj.JNL_DIES
  let die := if n = 0 then 1 else j.head % n + 1
  let p := lookD 0 j.prog die + 1
  let d := { d with jnl := { d.jnl with
    segs := d.jnl.segs ++ [{ g with sig := sig }], head := j.head + 1, lastSeal := sig, prog := tabPut 0 j.prog die (p % 16) } }
  let d := if p = 16 then d.count (Obj.JD_PROGRAMMED_MIB die) else d
  if truncated then d.count Obj.ASH_TRUNCATED else d

/-- Is a capture under way or draining? -/
def Dev.capturing (d : Dev) : Bool := decide (3 ≤ d.nat Obj.CAP_STATE)

/-- A segment of the capture in progress is sealed; its content is open (R346). -/
def Dev.sealCapture (d : Dev) (truncated : Bool) (bytes : Nat) : Dev :=
  d.sealSeg 1 truncated d.jnl.freezeDue (d.nat Obj.RESET_COUNT) d.jnl.capStart
    ((List.range bytes).map fun i => Config.openByte 346 (65536 * d.jnl.head + i))

/-- SEGMENT_SEAL: a segment whose 15 record pages are full is sealed; with too few event records for one, a capture
segment of the capture in progress is. The layout of capture content is open (R346). Event records leave the buffer as
their segment is sealed. -/
def Dev.segmentSeal (d : Dev) : Dev :=
  if !d.jnl.recovered then d
  else
    let fit := segFit d.jnl.buf none 61376
    if fit < d.jnl.buf.length then
      let take := d.jnl.buf.take fit
      let d := { d with jnl := { d.jnl with buf := d.jnl.buf.drop fit } }
      d.sealSeg 0 false false (d.nat Obj.RESET_COUNT) ((take.head?.map JRec.at').getD d.now) (segRecords take none)
    else if d.capturing then
      d.sealCapture false 61376
    else d

/-- JOURNAL_RECOVERY_DONE (R338, R343): the head is found, and a segment left open by the boot before is sealed
truncated. Records of this boot then go to the dies. -/
def Dev.journalFound (d : Dev) (head : Nat) : Dev :=
  if d.jnl.recovered ∨ !d.kindledPast ∨ d.op = .replay then d
  else
    let openSeg := decide (d.jnl.head < head)
    let d := { d with jnl := { d.jnl with recovered := true } }
    let d := if openSeg then
        d.sealSeg 0 true false ((d.jnl.firsts.getLast?.map Prod.fst).getD 0) (Config.openNat 343 [(head : Int), 1] % 2 ^ 64) ((List.range (Config.openNat 343 [(head : Int)] % 61377)).map fun i => Config.openByte 343 (65536 * head + i))
      else d
    { d with jnl := { d.jnl with boot := d.jnl.head, firsts := tabIns d.jnl.firsts (d.nat Obj.RESET_COUNT) d.jnl.head } }

/-! ### Dies (R336, R337, R398) -/

/-- The blocks of a die that fail are retired; with more than 160 of them the die is given up (R336). -/
def Dev.retireBlocks (d : Dev) (j n : Nat) : Dev :=
  let d := d.count (Obj.JD_BAD_BLOCKS j) n
  let bad := d.nat (Obj.JD_BAD_BLOCKS j)
  d.put (Obj.JD_STATE j) (if 160 < bad then 2 else d.nat (Obj.JD_STATE j))

/-- The wear of a die after an erase; the spec states no rule for its figures (log entry 9). -/
def Dev.dieWear (d : Dev) (j block : Nat) : Dev :=
  let d := d.put (Obj.JD_PE_MAX j) (Config.openNat 336 [0, (j : Int), (block : Int), d.num (Obj.JD_PE_MAX j)] % 2 ^ 32)
  d.put (Obj.JD_PE_MEAN j) (Config.openNat 336 [1, (j : Int), (block : Int), d.num (Obj.JD_PE_MEAN j)] % 2 ^ 32)

/-- Is a segment one of a capture's: from its first segment on, and before those of the capture after it? -/
def Dev.ofCapture (d : Dev) (c : Capture) (g : Seg) : Bool :=
  let firsts := d.nat Obj.CAP_FIRST_SEG :: d.jnl.caps.map Capture.first
  g.kind == 1 && decide (c.first ≤ g.num) && firsts.all fun f => decide (f ≤ c.first ∨ g.num < f)

/-- JOURNAL_ERASE_BATCH: 64 blocks of a die are erased under one intent; the oldest segments of that die that are not
frozen leave, a capture is held for as long as a segment of it is, and blocks that fail are retired. -/
def Dev.eraseBatch (d : Dev) (die block : Nat) (failed : List Nat) : Dev :=
  let j := die + 1
  if d.nat (Obj.JD_STATE j) ≠ 1 then d
  else
    let d := (d.ember1 0x10 [block, 64, j]).ember1 0x11 [block, 64, j]
    let n := max 1 (d.nat Obj.JNL_DIES)
    let mine := d.jnl.segs.filter fun (g : Seg) => g.num % n == die && !g.frozen
    let gone := (mine.take 256).map Seg.num
    let left := d.jnl.segs.filter fun (g : Seg) => !gone.contains g.num
    let d := { d with jnl := { d.jnl with segs := left, caps := d.jnl.caps.filter fun c => left.any (d.ofCapture c) } }
    let d := d.put (Obj.JD_ERASE_RESERVE_MIB j) (sat (2 ^ 32 - 1) (d.nat (Obj.JD_ERASE_RESERVE_MIB j) + 16))
    (d.dieWear j block).retireBlocks j failed.length

/-- VIRESQUE_PACKET_FAIL: the packet is resent; the third failure in a row trains the link again. -/
def Dev.packetFail (d : Dev) (die : Nat) : Dev :=
  let d := d.count Obj.VIR_RESENDS
  let n := lookD 0 d.jnl.fails die + 1
  if n = 3 then ({ d with jnl := { d.jnl with fails := tabPut 0 d.jnl.fails die 0 } }).count Obj.VIR_RETRAINS
  else { d with jnl := { d.jnl with fails := tabPut 0 d.jnl.fails die n } }

/-- MiB of working dies, less their retired blocks of 256 KiB (R336). -/
def Dev.jnlCapacity (d : Dev) : Nat :=
  (((List.range 7).filter fun i => d.nat (Obj.JD_STATE (i + 1)) == 1).map fun i =>
    (8192 - d.nat (Obj.JD_BAD_BLOCKS (i + 1))) / 4).sum

/-- MiB of frozen capture segments, rounded up. -/
def Dev.frozenMib (d : Dev) : Nat := cdiv (d.jnl.segs.filter Seg.frozen).length 16

/-! ### Overrun (R344) -/

/-- OVERRUN_RECORD: with space in the buffer again, one record with the count, and the condition. -/
def Dev.overrun (d : Dev) : Dev :=
  if 0 < d.jnl.lost ∧ d.bufFill + 256 ≤ 524288 then
    let j := d.jnl
    let d := { d with jnl := { j with lost := 0, lostFirst := 0 } }
    let d := d.count Obj.JNL_OVERRUN_RECORDS j.lost
    let d := d.jrec 0x0E [(j.lost : Int), (j.lostFirst : Int), (j.lostLast : Int)]
    d.raiseC 0x0404 0xFFFF (j.lost % 2 ^ 32)
  else d

/-- JOURNAL_OVERRUN_CLEAR: 10 s after the last record lost. -/
def Dev.overrunClear (d : Dev) : Dev :=
  if d.jnl.lost = 0 ∧ d.jnl.lostLast + 1000000000 ≤ d.now then d.clearC 0x0404 0xFFFF else d

/-! ### Capture (R346 to R349) -/

/-- The drain rate of the variant (R348). -/
def Dev.drainRate (d : Dev) : Nat := 40000000 * d.nat Obj.PKG_VARIANT

/-- The SRAM the capture uses (R472). -/
def Dev.captureRoom (d : Dev) : Nat :=
  let entries := d.bytesOf Obj.REP_ENTRIES
  let valid := (List.range 16).any fun i => leNat ((entries.drop (4 * i)).take 4) / 2 ^ 30 == 3
  if d.nat Obj.TT_REPAIR_MODE = 1 ∨ valid then 8355840 else 8388608

/-- The decimation that brings the rate of the capture in progress to or below the drain rate (R348). -/
def Dev.decimation (d : Dev) : Nat :=
  ([2, 4, 8].find? fun k => decide (d.jnl.capRate ≤ k * d.drainRate)).getD 16

/-- CAP_FULL_US: how long full rate lasts after a trigger (R348). -/
def Dev.fullUs (d : Dev) : Nat :=
  let r := d.captureRate
  if r ≤ d.drainRate then 0xFFFFFFFF
  else
    let pre := r * d.nat Obj.CAP_PRE_MS / 1000
    roundOpen 348 ((d.captureRoom - pre) * 1000000) (r - d.drainRate) % 2 ^ 32

/-- Decimation begins (R348, R31). -/
def Dev.decimate (d : Dev) : Dev :=
  if d.nat Obj.CAP_STATE = 3 then
    let k := d.decimation
    ((d.put Obj.CAP_STATE 4).put Obj.CAP_DECIMATION k).raiseOnce 0x0405 0xFFFF k
  else d

/-- PRE_TRIGGER_WINDOW_FILLED (R347): the samples come through M11. -/
def Dev.preFilled (d : Dev) : Dev :=
  if d.nat Obj.CAP_STATE = 1 ∧ d.jnl.refillAt + 100000 * d.nat Obj.CAP_PRE_MS ≤ d.now then (d.grantAt 11 0).put Obj.CAP_STATE 2 else d

/-- CAPTURE_SRAM_FULL (R348): the sample that fills it comes through M11. -/
def Dev.sramFull (d : Dev) : Dev :=
  if d.nat Obj.CAP_STATE = 3 ∨ d.nat Obj.CAP_STATE = 4 then
    (if d.drainRate < d.jnl.capRate then (d.grantAt 11 0).decimate else d.grantAt 11 0)
  else d

/-- CAPTURE_POST_END (R347): the capture ends and the rest of the SRAM drains. -/
def Dev.capturePost (d : Dev) : Dev :=
  if (d.nat Obj.CAP_STATE = 3 ∨ d.nat Obj.CAP_STATE = 4) ∧ d.jnl.capStart + 100000 * d.jnl.capPost ≤ d.now then
    d.put Obj.CAP_STATE 5
  else d

/-- The segments of a capture are frozen or released (R349). -/
def Dev.freezeSegs (d : Dev) (c : Capture) (on : Bool) : Dev :=
  { d with jnl := { d.jnl with
    segs := d.jnl.segs.map fun (g : Seg) => if d.ofCapture c g then { g with frozen := on } else g
    caps := d.jnl.caps.map fun (x : Capture) => if x.num = c.num then { x with frozen := on } else x } }

/-- A capture under way or draining, by its number: its segments so far. -/
def Dev.capSoFar (d : Dev) (num : Nat) : Option Nat :=
  if d.capturing ∧ num = d.nat Obj.CAP_NUMBER then
    some (d.jnl.segs.filter fun (g : Seg) => g.kind == 1 && decide (d.nat Obj.CAP_FIRST_SEG ≤ g.num)).length
  else none

/-- A capture whose drain is unfinished is frozen or released: its segments so far, and the others as they are sealed
(Table 9.12). -/
def Dev.freezeRest (d : Dev) (on : Bool) : Dev :=
  { d with jnl := { d.jnl with
    freezeDue := on
    segs := d.jnl.segs.map fun (g : Seg) => if g.kind == 1 && decide (d.nat Obj.CAP_FIRST_SEG ≤ g.num) then { g with frozen := on } else g } }

/-- Would freezing a number of further segments exceed a quarter of the capacity (R349)? -/
def Dev.overQuota (d : Dev) (more : Nat) : Bool :=
  decide (d.jnlCapacity * 16 < 4 * ((d.jnl.segs.filter Seg.frozen).length + more))

/-- The segments of a capture that are not sealed yet are sealed as it ends, the last one not full (R343). -/
def Dev.sealRest (d : Dev) (segs : Nat) : Dev :=
  let done := (d.jnl.segs.filter fun (g : Seg) => g.kind == 1 && decide (d.nat Obj.CAP_FIRST_SEG ≤ g.num)).length
  (List.range (segs - done)).foldl (fun (d : Dev) i =>
    d.sealCapture false (if done + i + 1 = segs then Config.openNat 346 [(d.jnl.head : Int)] % 61377 else 61376)) d

/-- CAPTURE_DRAIN_DONE (R348): the last of it is drained through M11 and M03, the capture enters the directory, decimation is over, and the window refills. -/
def Dev.drainDone (d : Dev) (rate segs : Nat) : Dev :=
  if d.nat Obj.CAP_STATE = 5 then
    let d := ((d.grantAt 11 1).grantAt 3 1).sealRest segs
    let d := (d.put Obj.CAP_DRAIN_RATE (sat (2 ^ 32 - 1) rate)).clearC 0x0405 0xFFFF
    let c : Capture := ⟨d.nat Obj.CAP_NUMBER, d.nat Obj.CAP_TRIG_TIME, d.nat Obj.CAP_FIRST_SEG, segs, d.nat Obj.CAP_DECIMATION, false⟩
    let others := (d.jnl.segs.filter fun (g : Seg) => g.frozen && !(g.kind == 1 && decide (c.first ≤ g.num))).length
    let freeze := d.jnl.freezeDue && decide (4 * (others + segs) ≤ d.jnlCapacity * 16)
    let d := { d with jnl := { d.jnl with caps := d.jnl.caps ++ [c], freezeDue := false, refillAt := d.now } }
    let d := d.freezeSegs c freeze
    d.put Obj.CAP_STATE (if d.nat Obj.CAP_ARM = 1 then 1 else 0)
  else d

/-- SEGMENT_SEAL (R343). -/
def execSegmentSeal (s : State) := s.serve Dev.segmentSeal

/-- JOURNAL_RECOVERY_DONE (R338). -/
def execJournalRecoveryDone (head : Nat) (s : State) := s.serve fun d => d.journalFound head

/-- JOURNAL_ERASE_BATCH (R337). -/
def execJournalEraseBatch (die : Fin 7) (block : Nat) (failed : List Nat) (s : State) :=
  s.serve fun d => d.eraseBatch die.val block failed

/-- VIRESQUE_PACKET_FAIL (R398). -/
def execViresquePacketFail (die : Fin 7) (s : State) := s.serve fun d => d.packetFail (die.val + 1)

/-- OVERRUN_RECORD (R344). -/
def execOverrunRecord (s : State) := s.serve Dev.overrun

/-- JOURNAL_OVERRUN_CLEAR (R344). -/
def execJournalOverrunClear (s : State) := s.serve Dev.overrunClear

/-- PRE_TRIGGER_WINDOW_FILLED (R347). -/
def execPreTriggerWindowFilled (s : State) := s.serve Dev.preFilled

/-- CAPTURE_SRAM_FULL (R348). -/
def execCaptureSramFull (s : State) := s.serve Dev.sramFull

/-- CAPTURE_POST_END (R347). -/
def execCapturePostEnd (s : State) := s.serve Dev.capturePost

/-- CAPTURE_DRAIN_DONE (R348). -/
def execCaptureDrainDone (rate segs : Nat) (s : State) := s.serve fun d => d.drainDone rate segs

end Sys2Proof.Machine
end

