-- ==== Sys2Proof/Machine/Stage.lean ====
section
/-! DEFINITION. The configuration digest, the staging checks of every chapter, and configuration epochs (R100, R124,
R172, R209, R236, R268, R314, R399 to R406, R436, R473, R491, R512). -/
namespace Sys2Proof.Machine

/-! ### Serialisation and digest (R400) -/

/-- The type code of the canonical serialisation (Table 16.2). -/
def Ty.code : Ty → Nat
  | .bool => 0x01 | .i8 => 0x02 | .i16 => 0x03 | .i32 => 0x04 | .u8 => 0x05 | .u16 => 0x06 | .u32 => 0x07
  | .vstring => 0x09 | .ostring => 0x0A | .domain => 0x0F | .i64 => 0x15 | .u64 => 0x1B | .time64 => 0x80

/-- The value of an object of the configuration as it is serialised: the COB-ID of TPDO 16 follows the node-ID until
one is written (Table 16.4). -/
def Dev.cfgVal (d : Dev) (k : Nat) : Val :=
  if k = Obj.TPDO_COB_ID 15 ∧ d.val k = .num (-1) then .num (0x480 + d.nodeId) else d.val k

/-- One object of the serialisation: index, sub-index, type code, length, value. -/
def serialObj (k : Nat) (t : Ty) (v : Val) : List Byte :=
  let b := encodeVal t v
  leBytes 2 (k / 256) ++ leBytes 1 (k % 256) ++ leBytes 1 t.code ++ leBytes 2 b.length ++ b

/-- The keys of one persistence class in ascending index and sub-index. -/
def keysOf (p : Pers) : List Nat :=
  ((List.range 0x4901).filter indexExists).flatMap fun idx =>
    ((List.range (highestSub idx + 1)).map fun s => 256 * idx + s).filter fun k =>
      match objRow k with
      | some r => r.pers == p
      | none => false

/-- The canonical serialisation of the configuration that the dictionary shows. -/
def Dev.serial (d : Dev) : List Byte :=
  ([0x55, 0x4E, 0x39, 0x36, 0x38, 0x43, 0x46, 0x47] : List Byte) ++ leBytes 2 (d.nat Obj.CFG_FORMAT) ++
    (keysOf .ember).flatMap fun k => match objRow k with
      | some r => serialObj k r.ty (d.cfgVal k)
      | none => []

/-- The digest of the configuration that the dictionary shows; the hash unit is granted at M04 to requester 1. -/
def Dev.digest (d : Dev) : List Byte := sha256 d.serial

/-- The block as it would stand with the staged half active. -/
def Dev.stagedDev (d : Dev) : Dev :=
  { d with
    dict := d.staged.foldl (fun m e => storePut m e.1 e.2) (d.dict.filter fun e => !cfgKey e.1)
    cfg := { d.cfg with switch := none } }

/-- The values of the configuration in force, as a half holds them. -/
def Dev.cfgVals (d : Dev) : Store := d.dict.filter fun e => cfgKey e.1

/-! ### The checks: the code and the object of the first that fails -/

/-- A check: does it fail, its code, and the object it names. -/
abbrev Check := Bool × Nat × Nat

/-- The first failing check of a list. -/
def firstBad (l : List Check) : Option (Nat × Nat) := (l.find? fun c => c.1).map Prod.snd

/-- The first failure over a list of items. -/
def eachItem (is : List Nat) (f : Nat → List Check) : Option (Nat × Nat) := is.findSome? fun i => firstBad (f i)

/-- The channels that are not OFF. -/
def Dev.usedChans (d : Dev) : List Nat := (List.range 96).filter fun n => decide (d.mode n ≠ 0)

/-- Technologies a mode accepts (Table 2.2). -/
def techOk (mode tech : Nat) : Bool :=
  if mode = 1 then decide (tech ≤ 2) else if mode = 2 then tech == 0 else tech == 2

/-- The limits of R101 hold. -/
def Dev.buckLimits (d : Dev) (n : Nat) : Bool :=
  let p := d.prof n
  let vhi := d.nat (Obj.RAIL_MAX_MV (d.nat (Obj.CH_RAIL n)))
  let req := d.pnat n (Obj.PF_RAIL_REQ p)
  let tol := d.nat (Obj.CH_L_TOL_PM n)
  let fx := d.fMax n
  let f1 := d.buckF n req (2 * d.pnat n (Obj.PF_VF_MIN p)) (1000 + tol)
  let f2 := d.buckF n req (2 * d.pnat n (Obj.PF_VF_MAX p)) (1000 + tol)
  let e := d.tEdge n
  decide (d.pnat n (Obj.PF_VF_MIN p) < vhi) && decide (fx.1 ≤ 1000000 * fx.2) && decide (50000 * f1.2 ≤ f1.1) &&
    decide (50000 * f2.2 ≤ f2.1) &&
    decide ((e.1 + 250000 * e.2) * 1000000 * (vhi - d.pnat n (Obj.PF_VF_MIN p)) ≤
      d.nat (Obj.CH_L_NOM n) * (1000 - tol) * d.ripple n * e.2)

/-- The first-rise level of R102. -/
def Dev.firstRise (d : Dev) (n : Nat) : Nat :=
  let t := d.tRise n (1000 * d.pnat n (Obj.PF_I_NOM (d.prof n)))
  cdiv (t.1 * 65536) (t.2 * periodOf (d.nat (Obj.GRP_PWM_HZ (grpOf n))) * 10000)

/-- Table 2.10, for one channel. -/
def Dev.stage2 (d : Dev) (n : Nat) : List Check :=
  let p := d.prof n
  let m := d.mode n
  let f := fun k => d.pnat n k
  let nom := f (Obj.PF_I_NOM p)
  let sh := d.nat (Obj.CH_SHUNT n)
  let fs := fullScale (d.nat (Obj.CH_SENSE_RANGE n))
  let buck := m == 2
  [(!bit (f (Obj.PF_MODES p)) (m - 1) || !techOk m (f (Obj.PF_TECH p)), 0xC201, Obj.CH_MODE n),
   (sh == 0, 0xC202, Obj.CH_SHUNT n),
   (decide (f (Obj.PF_VF_MAX p) < f (Obj.PF_VF_MIN p)), 0xC203, Obj.PF_VF_MIN p),
   (decide (f (Obj.PF_INRUSH_MAX p) < nom), 0xC203, Obj.PF_INRUSH_MAX p),
   (decide (nom < 5 * f (Obj.PF_WARM_CURRENT p)), 0xC203, Obj.PF_WARM_CURRENT p),
   (f (Obj.PF_PROBE_ALLOWED p) == 1 && f (Obj.PF_TECH p) == 2, 0xC203, Obj.PF_PROBE_ALLOWED p),
   (buck && decide (f (Obj.PF_RAIL_REQ p) ≤ f (Obj.PF_VF_MAX p)), 0xC203, Obj.PF_RAIL_REQ p),
   (decide (190000 * fs < d.iMax n * sh * 100) || decide (nom * sh * 100 < 2 * fs), 0xC204, Obj.CH_SENSE_RANGE n),
   (buck && (d.nat (Obj.CH_L_NOM n) == 0 || !d.buckLimits n), 0xC205, Obj.CH_L_NOM n),
   (buck && decide (f (Obj.PF_LEVEL_MIN p) < d.firstRise n), 0xC206, Obj.PF_LEVEL_MIN p),
   (decide (2 * d.nat (Obj.CH_DRAIN_RATIO n) < d.nat (Obj.RAIL_MAX_MV (d.nat (Obj.CH_RAIL n)))), 0xC207, Obj.CH_DRAIN_RATIO n)]

/-- The gate-drive budget of R103: the channel whose value first makes the running sum exceed 1.6 W. -/
def Dev.gateBudget (d : Dev) : Option (Nat × Nat) :=
  ((List.range 96).find? fun n => decide (1600000 < ((List.range (n + 1)).map fun i => d.gatePower i).sum)).map
    fun n => (0xC208, Obj.CH_FET_QG n)

/-- The dimming groups of a signal group's channels. -/
def Dev.sgGroups (d : Dev) (s : Nat) : List Nat :=
  (((List.range 96).filter fun n => bitOf (d.bytesOf (Obj.SG_CHANNELS s)) n).map fun n => n / 4).eraseDups

/-- Table 3.4, for one group. -/
def Dev.stage3g (d : Dev) (g : Nat) : List Check :=
  let l := d.nat (Obj.GRP_LOCK_SET g)
  let mates := (List.range 24).filter fun h => l ≠ 0 && d.nat (Obj.GRP_LOCK_SET h) == l
  [(mates.any fun h => d.nat (Obj.GRP_PWM_HZ h) != d.nat (Obj.GRP_PWM_HZ g), 0xC301, Obj.GRP_PWM_HZ g),
   (mates.any fun h => d.nat (Obj.GRP_RING_LOCK h) != d.nat (Obj.GRP_RING_LOCK g), 0xC301, Obj.GRP_RING_LOCK g),
   (decide (bitsMax (32 * periodOf (d.nat (Obj.GRP_PWM_HZ g))) < d.nat (Obj.GRP_PWM_BITS g)), 0xC302, Obj.GRP_PWM_BITS g)]

/-- Table 3.4, for one signal group (R123). -/
def Dev.stage3s (d : Dev) (s : Nat) : List Check :=
  let gs := d.sgGroups s
  let one := match gs with
    | [] => true
    | g :: r => r.all fun h => d.sameLock h g
  [(!one, 0xC303, Obj.SG_CHANNELS s),
   (d.nat (Obj.SG_RING s) == 1 && gs.any fun g => d.nat (Obj.GRP_RING_LOCK g) == 0, 0xC304, Obj.SG_RING s)]

/-- Table 4.7, for one channel. -/
def Dev.stage4 (d : Dev) (n : Nat) : List Check :=
  let p := d.prof n
  let g := grpOf n
  let f := fun k => d.pnat n k
  let nom := f (Obj.PF_I_NOM p)
  let m := d.mode n
  let signal := f (Obj.PF_CLASS p) == 1
  let per := periodOf (d.nat (Obj.GRP_PWM_HZ g))
  let duty := d.duty g (f (Obj.PF_LEVEL_MIN p))
  let it := if m = 2 then nom * (1000 + f (Obj.LF_HEADROOM_PM p)) else 1000 * nom
  let ff := d.nat (Obj.SUP_FF_INPUT n)
  let namers := (d.usedChans.filter fun k => decide (k ≤ n)).filter fun k => d.nat (Obj.SUP_FF_INPUT k) == ff
  [(decide (d.steps n (d.nat (Obj.CH_SENSE_RANGE n)) (f (Obj.SUP_OPEN_LO_PM p) * nom) 1000 < 4), 0xC401, Obj.SUP_OPEN_LO_PM p),
   (m != 2 && decide (f (Obj.SUP_BAND_LO_PM p) ≤ f (Obj.SUP_OPEN_LO_PM p)), 0xC401, Obj.SUP_BAND_LO_PM p),
   (signal && decide (100 * f (Obj.SUP_LATENCY_MAX_US p) < f (Obj.SUP_DARK_DEB p) * per + 25000), 0xC402, Obj.SUP_LATENCY_MAX_US p),
   (signal && duty != 65535 && decide (duty * (32 * per) / 65536 < d.validEdges n it), 0xC403, Obj.PF_LEVEL_MIN p),
   (ff != 0xFF && (decide (4 < namers.length) || namers.any fun k => k / 4 != n / 4), 0xC404, Obj.SUP_FF_INPUT n),
   (d.nat (Obj.SUP_OPT_AUTH n) == 1 && (ff == 0xFF || d.nat (Obj.SUP_OPT_REF_NA n) == 0), 0xC405, Obj.SUP_OPT_AUTH n),
   (f (Obj.SUP_PROBE_HZ p) != 0 && f (Obj.PF_PROBE_ALLOWED p) == 0, 0xC406, Obj.SUP_PROBE_HZ p)]

/-- The exclusion pairs of a signal group that are used (R180). -/
def Dev.exclusions (d : Dev) (s : Nat) : List (Nat × Nat) :=
  let b := d.bytesOf (Obj.SG_EXCLUDE s)
  ((List.range 8).map fun i => ((b.getD (2 * i) 0xFF).toNat, (b.getD (2 * i + 1) 0xFF).toNat)).filter fun x =>
    !(x.1 == 0xFF && x.2 == 0xFF)

/-- Table 5.6, for one signal group. -/
def Dev.stage5s (d : Dev) (s : Nat) : List Check :=
  let map := d.bytesOf (Obj.SG_CHANNELS s)
  let ms := (List.range 96).filter fun n => bitOf map n
  let used := d.sgUsed s
  [((ms.any fun n => (List.range 32).any fun t => t != s && bitOf (d.bytesOf (Obj.SG_CHANNELS t)) n) || decide (32 < ms.length) ||
      (ms.any fun n => d.mode n == 0), 0xC501, Obj.SG_CHANNELS s),
   (used && !d.sgHas s (d.nat (Obj.SG_SAFE_ASPECT s)), 0xC502, Obj.SG_SAFE_ASPECT s),
   ((d.exclusions s).any fun x => !(ms.contains x.1 && ms.contains x.2), 0xC506, Obj.SG_EXCLUDE s)]

/-- Is a target refused for its channel's mode (Table 5.1)? -/
def badTarget (mode t : Nat) : Bool :=
  let kind := t / 2 ^ 24
  let mid := t / 65536 % 256
  let low := t % 65536
  if kind = 0 then mode == 3 || mid != 0 || low != 0
  else if kind = 1 then low == 0 || mid != 0
  else if kind = 2 then decide (15 < mid) || low != 0
  else if kind = 3 then mode != 3 || mid != 0 || low != 0
  else true

/-- Table 5.6, for one aspect. -/
def Dev.stage5a (d : Dev) (a : Nat) : List Check :=
  let s := d.nat (Obj.AS_SG a)
  let map := d.bytesOf (Obj.SG_CHANNELS s)
  let ms := (List.range 96).filter fun n => bitOf map n
  let lit := fun n => (let k := d.targetOf s a n / 2 ^ 24; k == 1 || k == 2)
  if 32 ≤ s then []
  else
    [(!d.sgUsed s, 0xC503, Obj.AS_SG a)] ++
    (ms.zipIdx.map fun x => (badTarget (d.mode x.1) (d.nat (Obj.AS_TARGET a x.2)), 0xC504, Obj.AS_TARGET a x.2)) ++
    [((d.exclusions s).any fun x => lit x.1 && lit x.2, 0xC505, Obj.AS_SG a)]

/-- The firefly inputs of a colour lamp (R229). -/
def Dev.colourInputs (d : Dev) (g : Nat) : Bool :=
  let i := fun k => d.nat (Obj.SUP_FF_INPUT (4 * g + k))
  i 0 != 0xFF && i 1 != 0xFF && i 2 != 0xFF && i 0 != i 1 && i 0 != i 2 && i 1 != i 2 && i 3 == i 1

/-- Table 6.4, for one channel. -/
def Dev.stage6 (d : Dev) (n : Nat) : List Check :=
  let p := d.prof n
  let g := grpOf n
  let f := fun k => d.pnat n k
  let colour := f (Obj.LF_COLOUR p) == 1
  [(d.pnum n (Obj.LF_DERATE_SLOPE p) != 0 && d.nat (Obj.GRP_NTC_USE g) == 0, 0xC601, Obj.LF_DERATE_SLOPE p),
   (decide (f (Obj.LF_DERATE_FLOOR_PM p) < f (Obj.PF_VISIBLE_PM p)) ||
      (f (Obj.PF_CLASS p) == 1 && decide (f (Obj.LF_DERATE_FLOOR_PM p) < 700)), 0xC602, Obj.LF_DERATE_FLOOR_PM p),
   (colour && (!((chansOf g).all fun k => d.prof k == p) || !d.colourInputs g || d.nat (Obj.GRP_PHASE_MODE g) == 0),
      0xC603, Obj.LF_COLOUR p),
   (colour && (f (Obj.LF_COL_Y p) == 0 || decide (10000 ≤ f (Obj.LF_COL_X p) + f (Obj.LF_COL_Y p)) ||
      decide (1000 < f (Obj.LF_COL_Q_MIN_PM p)) || decide (f (Obj.LF_COL_Q_MAX_PM p) < 1000)), 0xC604, Obj.LF_COL_Y p)]

/-- Table 7.7, for one engine. An engine with no segment has no program to judge (log entry 15). -/
def Dev.stage7e (d : Dev) (e : Nat) : List Check :=
  let seg := fun i => d.nat (Obj.PE_SEG e i)
  let used := (List.range 16).filter fun i => segKind (seg i) != 0
  let bad := fun i => (let s := seg i
    decide (4 < segKind s) || decide (16 < segNext s) || (decide (segNext s < 16) && segKind (seg (segNext s)) == 0) || segCount s == 0)
  let namers := (List.range 32).filter fun s => d.sgUsed s && (List.range 256).any fun a => d.sgHas s a && (d.enginesOf s a).contains e
  let r := d.nat (Obj.PE_REF_GROUP e)
  if used = [] then [(decide (1 < namers.length), 0xC702, Obj.PE_REF_GROUP e),
      (namers.any fun s => (d.sgGroups s).any fun g => !d.sameLock g r, 0xC702, Obj.PE_REF_GROUP e)]
  else
    (used.map fun i => (bad i, 0xC701, Obj.PE_SEG e i)) ++
    [(decide (1024 < (used.map fun i => segCount (seg i)).sum), 0xC701, Obj.PE_SEG e 0),
     (segKind (seg (d.nat (Obj.PE_START_SEG e))) == 0, 0xC701, Obj.PE_START_SEG e),
     (decide (1 < namers.length), 0xC702, Obj.PE_REF_GROUP e),
     (namers.any fun s => (d.sgGroups s).any fun g => !d.sameLock g r, 0xC702, Obj.PE_REF_GROUP e)]

/-- Table 7.7, for one glowworm port in use. -/
def Dev.stage7g (d : Dev) (k : Nat) : List Check :=
  [(d.nat (Obj.GW_MODE k) != 0 && decide (10000000000 < d.gwFrameTenths k * d.nat (Obj.GW_FRAME_HZ k)), 0xC703, Obj.GW_FRAME_HZ k)]

/-- Table 7.7, for the matrix. -/
def Dev.stage7m (d : Dev) : List Check :=
  let hz := d.nat Obj.MX_FRAME_HZ
  let rows := d.nat Obj.MX_ROWS
  [(decide (1000000 ≤ d.nat Obj.MX_SYNC_OFFSET_US * hz), 0xC704, Obj.MX_SYNC_OFFSET_US),
   (rows != 0 && decide (3200000000 / max 1 (hz * rows) < 3200 * (d.nat Obj.MX_BLANK_US + 8)), 0xC704, Obj.MX_BLANK_US)]

/-- A client slot in use (R293). -/
def Dev.clUsed (d : Dev) (k : Nat) : Bool := decide (k < 512) && d.nat (Obj.CL_CLASS k) != 0xFF

/-- The bytes of the sections of Table 8.8. -/
def sectionBytes : List Nat := [48, 12, 8, 8, 64]

/-- The bytes of the entries in use of an RPDO mapping. -/
def Dev.rpdoBits (d : Dev) (i : Nat) : Nat :=
  ((List.range (d.nat (Obj.RPDO_MAP_COUNT i))).map fun j => d.nat (Obj.RPDO_MAP i j) % 256).sum

/-- Is an object writable through an RPDO: RW or WO? -/
def pdoWritable (k : Nat) : Bool :=
  match objRow k with
  | some r => r.access == .rw || r.access == .wo
  | none => false

/-- Table 8.9, for the device: lanes, task classes, RPDOs. -/
def Dev.stage8 (d : Dev) : List Check :=
  let classes := List.range 8
  [(decide (d.nodeId < 1) || decide (127 < d.nodeId), 0xC801, Obj.NODE_BASE),
   (decide (d.nat Obj.LANE_TIMEOUT_MS ≤ d.nat Obj.LANE_SILENT_MS), 0xC802, Obj.LANE_SILENT_MS),
   (decide (d.nat Obj.LANE_TIMEOUT_MS < 2 * d.nat Obj.VOTE_WINDOW_MS), 0xC802, Obj.LANE_TIMEOUT_MS)] ++
  (classes.map fun c => (d.nat (Obj.TK_CLIENT c) != 0xFFFF && !d.clUsed (d.nat (Obj.TK_CLIENT c)), 0xC804, Obj.TK_CLIENT c)) ++
  ((List.range 16).map fun i =>
    ((List.range (d.nat (Obj.RPDO_MAP_COUNT i))).any (fun j => !pdoWritable (d.nat (Obj.RPDO_MAP i j) / 256)) ||
      decide (480 < d.rpdoBits i), 0xC805, Obj.RPDO_MAP_COUNT i)) ++
  (classes.map fun c =>
    (let t := d.nat (Obj.TK_TPDO c)
     let first := (List.range 5).find? fun i => bit (d.nat (Obj.TK_IN_MASK c)) i
     (t != 0xFF && ((classes.any fun b => b != c && d.nat (Obj.TK_TPDO b) == t) ||
        decide (64 < 12 + (match first with
          | some i => sectionBytes.getD i 0
          | none => 0))), 0xC806, Obj.TK_TPDO c)))

/-- Table 8.9, for one client: a client in use whose task class has no client in use. -/
def Dev.stage8c (d : Dev) (k : Nat) : List Check :=
  let t := d.nat (Obj.CL_TASK_CLASS k)
  [(d.clUsed k && decide (t < 8) && !d.clUsed (d.nat (Obj.TK_CLIENT t)), 0xC804, Obj.CL_TASK_CLASS k)]

/-- The first item at which a running total passes a limit. -/
def firstOver (f : Nat → Nat) (lim : Nat) : List Nat → Nat → Option Nat
  | [], _ => none
  | k :: ks, sum => if lim < sum + f k then some k else firstOver f lim ks (sum + f k)

/-- The total of CL_RET_SIZE (0xC803), judged once, after the last item of its table (R100). -/
def Dev.stage8r (d : Dev) : Option (Nat × Nat) :=
  (firstOver (fun i => d.nat (Obj.CL_RET_SIZE i)) 65536 (List.range 512) 0).map fun k => (0xC803, Obj.CL_RET_SIZE k)

/-- Table 11.10. -/
def Dev.stage11 (d : Dev) : List Check :=
  let n := d.nat Obj.RING_SIZE
  let p := d.ins.straps
  [(decide (n < 1) || decide (16 < n) || (d.ins.masterLow && decide (128 < d.nodeId + n)), 0xCB01, Obj.RING_SIZE),
   (!d.ins.masterLow && (decide (n < 2) || p == 0 || decide (n ≤ p)), 0xCB02, Obj.RING_SIZE),
   (d.nat Obj.PKG_VARIANT_DECL != 0 && d.nat Obj.PKG_VARIANT_DECL != d.nat Obj.PKG_VARIANT, 0xCB03, Obj.PKG_VARIANT_DECL)]

/-- Entry i of BAT_REST_TABLE: mV and permille. -/
def Dev.restEntry (d : Dev) (i : Nat) : Nat × Nat :=
  let b := (d.bytesOf Obj.BAT_REST_TABLE).drop (4 * i)
  (leNat (b.take 2), leNat ((b.drop 2).take 2))

/-- Table 12.10. -/
def Dev.stage12 (d : Dev) : List Check :=
  let rising := (List.range 15).all fun i =>
    decide ((d.restEntry i).1 < (d.restEntry (i + 1)).1) && decide ((d.restEntry i).2 < (d.restEntry (i + 1)).2)
  let th := d.nat Obj.HO_THRESH_MV
  (d.usedChans.map fun n => (d.nat (Obj.RAIL_USE (d.nat (Obj.CH_RAIL n))) == 0, 0xCC01, Obj.CH_RAIL n)) ++
  ((List.range 8).map fun r =>
    (d.nat (Obj.RAIL_USE r) == 1 && (decide (d.nat (Obj.RAIL_MAX_MV r) ≤ d.nat (Obj.RAIL_MIN_MV r)) ||
      decide (2 * d.nat (Obj.RAIL_RATIO r) < d.nat (Obj.RAIL_MAX_MV r))), 0xCC01, Obj.RAIL_MAX_MV r)) ++
  [(d.nat Obj.BAT_USE == 1 && !rising, 0xCC02, Obj.BAT_REST_TABLE),
   (d.nat Obj.BAT_USE == 1 && decide (d.nat Obj.BAT_V_EMPTY_LOADED ≤ d.nat Obj.BAT_V_CUTOFF), 0xCC02, Obj.BAT_V_CUTOFF),
   (th != 0 && (d.nat Obj.BAT_USE == 0 || d.nat (Obj.RAIL_USE 0) == 0 ||
      decide (d.nat (Obj.RAIL_MAX_MV 0) ≤ th + d.nat Obj.HO_HYST_MV)), 0xCC03, Obj.HO_THRESH_MV),
   (d.nat Obj.HOLD_RATIO == 0 && d.nat Obj.HOLD_TRIP_MV != 0, 0xCC04, Obj.HOLD_TRIP_MV),
   (d.nat Obj.HOLD_RATIO == 0 && d.nat Obj.HOLD_WARN_MV != 0, 0xCC04, Obj.HOLD_WARN_MV)]

/-- 0xCE01 (R473). -/
def Dev.stage14 (d : Dev) : List Check :=
  [(d.nat Obj.TT_REPAIR_MODE == 1 && decide (d.nat Obj.PKG_VARIANT < 4), 0xCE01, Obj.TT_REPAIR_MODE)]

/-- The series resistor of a nominal voltage (Table 15.2). -/
def seriesOhm (v : Nat) : Nat := if v = 72 then 33000 else if v = 110 then 62000 else 0

/-- Table 15.5, for one input. -/
def Dev.stage15 (d : Dev) (k : Nat) : List Check :=
  let v := d.nat (Obj.FIN_NOMINAL_V k)
  let o := d.nat (Obj.FIN_SERIES_OHM k)
  let r := seriesOhm v
  [(v != 24 && v != 72 && v != 110, 0xCF01, Obj.FIN_NOMINAL_V k),
   (decide (101 * r < 100 * o) || decide (100 * o < 99 * r), 0xCF01, Obj.FIN_SERIES_OHM k),
   (decide (d.nat (Obj.FIN_DEBOUNCE_US k) < 100) && bit (d.nat Obj.CAP_TRIG_FIN) k, 0xCF02, Obj.FIN_DEBOUNCE_US k)]

/-- The COB-ID of a PDO, if it is valid: bit 31 is clear. -/
def Dev.pdoId (d : Dev) (k : Nat) : Option Nat :=
  let v := (d.cfgVal k).int.toNat
  if bit v 31 then none else some (v % 2 ^ 29)

/-- 0xD002 at each PDO whose COB-ID is that of a valid PDO before it. -/
def Dev.pdoShared (d : Dev) : List Check :=
  let ks := ((List.range 16).map Obj.RPDO_COB_ID) ++ ((List.range 16).map Obj.TPDO_COB_ID)
  ks.zipIdx.map fun x =>
    ((d.pdoId x.1).isSome && (ks.take x.2).any fun k => d.pdoId k == d.pdoId x.1, 0xD002, x.1)

/-- The service-port and PDO checks that close the order (R512). -/
def Dev.stage16 (d : Dev) : List Check :=
  let ip := d.nat Obj.SVC_IPV4_ADDR
  let mask := d.nat Obj.SVC_IPV4_MASK
  let host := 2 ^ 32 - mask
  let gw := d.nat Obj.SVC_IPV4_GW
  [(ip == 0 || decide (ip < 0x01000000) || decide (0xDFFFFFFF < ip) || (decide (4 ≤ host) && ip % host == host - 1), 0xD001, Obj.SVC_IPV4_ADDR),
   (gw != 0 && gw / max 1 host != ip / max 1 host, 0xD001, Obj.SVC_IPV4_GW)] ++
  ((List.range 8).map fun c => (d.nat (Obj.TK_TPDO c) == 15, 0xD002, Obj.TK_TPDO c)) ++ d.pdoShared

/-- The checks up to Table 6.4, in order. -/
def Dev.stageFailA (d : Dev) : List (Option (Nat × Nat)) :=
  [eachItem d.usedChans (Dev.stage2 d), d.gateBudget, eachItem (List.range 24) (Dev.stage3g d),
   eachItem (List.range 32) (Dev.stage3s d), eachItem d.usedChans (Dev.stage4 d), eachItem (List.range 32) (Dev.stage5s d),
   eachItem (List.range 256) (Dev.stage5a d), eachItem d.usedChans (Dev.stage6 d)]

/-- The checks from Table 7.7 on, in order. -/
def Dev.stageFailB (d : Dev) : List (Option (Nat × Nat)) :=
  [eachItem (List.range 16) (Dev.stage7e d), eachItem (List.range 8) (Dev.stage7g d), firstBad d.stage7m, firstBad d.stage8,
   eachItem (List.range 512) (Dev.stage8c d), d.stage8r, firstBad d.stage11, firstBad d.stage12, firstBad d.stage14,
   eachItem (List.range 32) (Dev.stage15 d), firstBad d.stage16]

/-- The staging checks in order, over the block as it would stand: the first failure and its object (R100). -/
def Dev.stageFail (d : Dev) : Option (Nat × Nat) := (d.stageFailA ++ d.stageFailB).findSome? fun x => x

/-! ### Stage states (Table 11.8) -/

/-- The stage state. -/
def Dev.stageSt (d : Dev) : Nat := d.nat Obj.CFG_STAGE_STATE

/-- The half of the configuration area that staging uses is erased under its intent (R323). -/
def Dev.eraseHalf (d : Dev) : Dev := ((d.ember1 0x10 [2]).ember1 0x11 [2])

/-- CFG_STAGE_CONTROL := 1 in EMPTY: the erase begins. -/
def Dev.stageOpen (d : Dev) : Dev :=
  if d.stageSt = 0 ∧ !d.cfg.formatHold then
    let d := d.ember1 0x10 [2]
    { d with ember := { d.ember with intents := d.ember.intents ++ [1] } }.put Obj.CFG_STAGE_STATE 1
  else d

/-- The erase and the copy are complete. -/
def Dev.stageOpened (d : Dev) : Dev :=
  if d.stageSt = 1 ∧ !d.power.banked then
    let d := d.ember1 0x11 [2]
    { d with staged := d.cfgVals, ember := { d.ember with intents := d.ember.intents.erase 1 } }.put Obj.CFG_STAGE_STATE 2
  else d

/-- CFG_STAGE_CONTROL := 2 in OPEN, READY or REFUSED: the checks begin. -/
def Dev.stageComplete (d : Dev) : Dev :=
  if d.stageSt = 2 ∨ d.stageSt = 4 ∨ d.stageSt = 5 then
    ((d.digestBegin 1).put Obj.CFG_STAGE_STATE 3).putBytes Obj.CFG_STAGED_DIGEST (List.replicate 32 0)
  else d

/-- The checks end: READY with the staged digest, or REFUSED with the first failure. -/
def Dev.stageChecked (d : Dev) : Dev :=
  if d.stageSt = 3 ∧ d.kindledPast then
    let st := d.stagedDev
    let d := d.digestDone 1
    match st.stageFail with
    | some f => ((d.put Obj.CFG_STAGE_STATE 5).put Obj.CFG_STAGE_FAIL_CODE f.1).put Obj.CFG_STAGE_FAIL_INDEX f.2
    | none =>
      let d := (d.put Obj.CFG_STAGE_FAIL_CODE 0).put Obj.CFG_STAGE_FAIL_INDEX 0
      (d.put Obj.CFG_STAGE_STATE 4).putBytes Obj.CFG_STAGED_DIGEST st.digest
  else d

/-- CFG_STAGE_CONTROL := 3 in OPEN, READY or REFUSED: the half is erased. -/
def Dev.stageDiscard (d : Dev) : Dev :=
  if d.stageSt = 2 ∨ d.stageSt = 4 ∨ d.stageSt = 5 then
    ({ d.eraseHalf with staged := [] }.put Obj.CFG_STAGE_STATE 0).putBytes Obj.CFG_STAGED_DIGEST (List.replicate 32 0)
  else d

/-- An RWS write in OPEN, READY or REFUSED: the staged value, and the half is OPEN with no digest. -/
def Dev.stageWrite (d : Dev) (k : Nat) (v : Val) : Dev :=
  if d.stageSt = 2 ∨ d.stageSt = 4 ∨ d.stageSt = 5 then
    ({ d with staged := storePut d.staged k v }.put Obj.CFG_STAGE_STATE 2).putBytes Obj.CFG_STAGED_DIGEST (List.replicate 32 0)
  else d

/-! ### ACTIVATE, the switch and CONFIRM (R402 to R405) -/

/-- Train time as device time, or on a member as ring time, by the mapping last kept (R54, R391). -/
def Dev.fromTrain (d : Dev) (us : Nat) : Int :=
  match d.ring.trainMap with
  | some (t, at') => (at' : Int) + ((us : Int) - t) * 100
  | none => 0

/-- Has a TIME been accepted, or on a member a TIME_MAP received (R55)? -/
def Dev.timeKnown (d : Dev) : Bool := d.ring.trainMap.isSome

/-- The instant an ACTIVATE names: a member has it in ring time from its master (R402). -/
def Dev.activateInstant (d : Dev) (b : List Byte) : Int :=
  let t := leNat ((b.drop 8).take 8)
  if d.isMember then (t : Int) else d.fromTrain t

/-- The digests an ACTIVATE may name now, with whether it reverts (check 5 of R402). -/
def Dev.activateDigests (d : Dev) : List (List Byte × Bool) :=
  let back := match d.cfg.switch with
    | some w => w.back
    | none => false
  if d.stageSt = 4 ∨ (d.stageSt = 6 ∧ !back) then [(d.bytesOf Obj.CFG_STAGED_DIGEST, false)]
  else if d.stageSt = 7 ∨ (d.stageSt = 6 ∧ back) then [(d.bytesOf Obj.CFG_PREVIOUS_DIGEST, true)]
  else []

/-- The judgement of an ACTIVATE by the checks of R402, in order: its abort code, 0 where it is accepted, and whether
it raises DIGEST_MISMATCH. -/
def Dev.activateJudge (d : Dev) (b : List Byte) : Nat × Bool :=
  let t := d.activateInstant b
  let reached : Bool := match d.cfg.switch with
    | some w => w.started || decide (w.instant ≤ d.ringTime)
    | none => false
  if leNat (b.take 4) ≤ d.nat Obj.CFG_ACTIVE_EPOCH then (0x08000000, false)
  else if !d.isMember ∧ !d.timeKnown then (0x08000022, false)
  else if t < (d.ringTime : Int) + 1000000 then (0x08000000, false)
  else if d.stageSt = 6 ∧ reached then (0x08000022, false)
  else if !((d.activateDigests.map Prod.fst).contains (b.drop 16)) then (0x08000000, true)
  else (0, false)

/-- ACTIVATE: a switch or a revert is scheduled, or DIGEST_MISMATCH is raised. -/
def Dev.activate (d : Dev) (b : List Byte) : Dev :=
  let j := d.activateJudge b
  if j.2 then (d.raiseC 0x0503 0xFFFF (leNat (b.take 4))).count Obj.CFG_MISMATCH_COUNT
  else if j.1 = 0 then
    let e := leNat (b.take 4)
    let t := (d.activateInstant b).toNat
    let back := (d.activateDigests.headD ([], false)).2
    let d := ((d.put Obj.CFG_STAGE_STATE 6).put Obj.CFG_PENDING_EPOCH e).put Obj.CFG_PENDING_INSTANT t
    { d with cfg := { d.cfg with switch := some ⟨e, b.drop 16, t, false, [], back⟩ } }
  else d

/-- CONFIRM of the active epoch in PREVIOUS: the half is erased and nothing is held for revert; in EMPTY only a
DIGEST_MISMATCH ends (R404). -/
def Dev.confirm (d : Dev) (epoch : Nat) : Dev :=
  if epoch ≠ d.nat Obj.CFG_ACTIVE_EPOCH then d
  else if d.stageSt = 7 then
    let d := d.clearC 0x0503 0xFFFF
    let d := { d.eraseHalf with staged := [] }.put Obj.CFG_STAGE_STATE 0
    let d := (d.put Obj.CFG_PREVIOUS_EPOCH 0).putBytes Obj.CFG_PREVIOUS_DIGEST (List.replicate 32 0)
    (d.jrec 0x0B [(epoch : Int)] (d.bytesOf Obj.CFG_ACTIVE_DIGEST)).commitKeys [Obj.CFG_PREVIOUS_EPOCH, Obj.CFG_PREVIOUS_DIGEST]
  else if d.stageSt = 0 then d.clearC 0x0503 0xFFFF
  else d

/-- STAGE_OPEN_DONE (R401). -/
def execStageOpenDone (s : State) := s.live Dev.stageOpened

/-- STAGING_CHECKS_DONE (R100). -/
def execStagingChecksDone (s : State) := s.live Dev.stageChecked

/-- ACTIVATION_INSTANT (R403): from it on, each object switches at its next frame boundary. -/
def execActivationInstant (s : State) := s.live fun d => d.switchStart d.ringTime

end Sys2Proof.Machine
end

