-- ==== Sys2Proof/Machine/Image.lean ====
section
/-! DEFINITION. Life-cycle fuse rows and transitions, firmware images and their slots (R441 to R458). -/
namespace Sys2Proof.Machine

/-! ### Fuse rows (R441) -/

/-- The value of a fuse row. -/
def Dev.fuseRow (d : Dev) (i : Nat) : Nat := leNat (((d.bytesOf Obj.LC_ROWS).drop (4 * i)).take 4)

/-- A row burned: bits are only ever set. -/
def Dev.burnRow (d : Dev) (i v : Nat) : Dev :=
  let b := d.bytesOf Obj.LC_ROWS
  d.putBytes Obj.LC_ROWS (b.take (4 * i) ++ leBytes 4 (Nat.lor (d.fuseRow i) v) ++ b.drop (4 * i + 4))

/-- The row of a transition: target, source, slot, and the CRC-8 over bits [23:0], bit 23 first. -/
def transitionRow (target source slot : Nat) : Nat :=
  target + 256 * source + 65536 * slot + 2 ^ 24 * crc8 (beBytes 3 (target + 256 * source + 65536 * slot))

/-- Is a row value valid in a slot? -/
def rowValid (slot v : Nat) : Bool := v / 65536 % 256 == slot && v == transitionRow (v % 256) (v / 256 % 256) slot

/-- The fused state: the target of the highest slot whose done row is valid, FACTORY without one. -/
def Dev.fusedState (d : Dev) : Nat :=
  match ((List.range 16).reverse.find? fun k => rowValid k (d.fuseRow (2 * k + 1))) with
  | some k => d.fuseRow (2 * k + 1) % 256
  | none => 0

/-- The lowest slot with both rows blank. -/
def Dev.freeSlot (d : Dev) : Option Nat :=
  (List.range 16).find? fun k => d.fuseRow (2 * k) == 0 && d.fuseRow (2 * k + 1) == 0

/-- LC_FUSED_STATE and LC_SLOTS_USED as the rows have them. -/
def Dev.showFuses (d : Dev) : Dev :=
  (d.put Obj.LC_FUSED_STATE d.fusedState).put Obj.LC_SLOTS_USED
    ((List.range 16).filter fun k => d.fuseRow (2 * k) != 0 || d.fuseRow (2 * k + 1) != 0).length

/-- A life-cycle state by its number. -/
def lcOf (n : Nat) : LcState :=
  if n = 0 then .factory else if n = 1 then .provision else if n = 2 then .service else if n = 3 then .maintenance
  else if n = 4 then .replay else .retired

/-- The number of a life-cycle state. -/
def LcState.code : LcState → Nat
  | .factory => 0 | .provision => 1 | .service => 2 | .maintenance => 3 | .replay => 4 | .retired => 5

/-! ### Key slots (R446) -/

/-- The state of a key slot: 0 blank, 1 installed, 2 revoked. -/
def Dev.keySlot (d : Dev) (i : Nat) : Nat := d.nat Obj.KEY_SLOT_STATE / 4 ^ i % 4

/-- The state of a key slot set; fuses only gain bits of the sequence blank, installed, revoked. -/
def Dev.setKeySlot (d : Dev) (i st : Nat) : Dev :=
  d.put Obj.KEY_SLOT_STATE (d.nat Obj.KEY_SLOT_STATE - d.keySlot i * 4 ^ i + st * 4 ^ i)

/-- The maintenance key in force. -/
def Dev.authKey (d : Dev) : Option (List Byte) :=
  let i := d.nat Obj.KEY_ACTIVE_SLOT
  if i < 4 ∧ d.keySlot i = 1 then look d.admin.keys i else none

/-- A key slot is revoked and its key unusable. -/
def Dev.revokeKey (d : Dev) (i : Nat) : Dev :=
  let d := d.setKeySlot i 2
  let d := if d.nat Obj.KEY_ACTIVE_SLOT = i then d.put Obj.KEY_ACTIVE_SLOT 0xFF else d
  { d with admin := { d.admin with keys := tabDrop d.admin.keys i } }

/-- KEY_INSTALL: the key goes into the lowest blank slot, which becomes the active one. -/
def Dev.installKey (d : Dev) (key : List Byte) : Dev :=
  match (List.range 4).find? fun i => d.keySlot i == 0 with
  | some i =>
    let d := (d.setKeySlot i 1).put Obj.KEY_ACTIVE_SLOT i
    { d with admin := { d.admin with keys := tabIns d.admin.keys i key } }
  | none => d

/-! ### Transitions (R442 to R445, Table 13.2) -/

/-- The session state is cleared. -/
def Dev.clearSession (d : Dev) : Dev :=
  { d with admin := { d.admin with
      maint := false, sessionOpen := false, sessionKey := [], sessionPeer := 0, lastCounter := 0, lastTag := []
      lastAnswer := none, nonce := none } }

/-- The configuration area, the record area and every journal block are erased. -/
def Dev.eraseAll (d : Dev) : Dev :=
  let d := d.ember1 0x10 [0]
  let d := { d with
    dict := d.dict.filter fun (e : Nat × Val) => persOf e.1 != Pers.ember && persOf e.1 != Pers.record
    staged := [], banked := []
    rep := { d.rep with hist := [], histWait := [] }
    jnl := { d.jnl with segs := [], caps := [], lastSeal := [], prog := [] }
    replay := { d.replay with bootTable := [], bootImages := [] }
    cfg := {}, admin := { d.admin with testLock := true } }
  d.ember1 0x11 [0]

/-- Key installation is locked on the way to SERVICE; in PROVISION it is open again (Table 13.1, Table 13.2). -/
def Dev.lockKeys (d : Dev) (on : Bool) : Dev := { d with admin := { d.admin with keyLock := on } }

/-- The steps of a transition, each idempotent. -/
def Dev.lcSteps (d : Dev) (target source : Nat) : Dev :=
  if target = 5 then
    let d := (List.range 4).foldl (fun (d : Dev) i => d.revokeKey i) d
    d.clearSession
  else if source = 0 ∧ target = 1 then d.eraseAll
  else if source = 1 ∧ target = 2 then (d.lockKeys true).clearSession
  else if source = 2 ∧ target = 1 then
    (if d.nat Obj.KEY_ACTIVE_SLOT < 4 then d.revokeKey (d.nat Obj.KEY_ACTIVE_SLOT) else d).lockKeys false |>.clearSession
  else d

/-- The mask ROM on one slot of the fuse rows: a torn intent is voided, an unfinished transition is completed forward
(R443, R444). -/
def Dev.resumeSlot (d : Dev) (k : Nat) : Dev :=
  let a := d.fuseRow (2 * k)
  let b := d.fuseRow (2 * k + 1)
  let void := 2 ^ 32 - 1
  if a = 0 ∨ a = void then d
  else if !rowValid k a then
    (if b = 0 then d.burnRow (2 * k) void else (d.burnRow (2 * k) void).burnRow (2 * k + 1) void)
  else if rowValid k b ∨ b = void then d
  else
    let d := (d.lcSteps (a % 256) (a / 256 % 256)).burnRow (2 * k + 1) a
    (d.put Obj.LC_LAST_RESUMED k).raiseC 0x0703 0xFFFF k

/-- The fuse rows as the mask ROM reads them. -/
def Dev.resumeRows (d : Dev) : Dev := ((List.range 16).foldl Dev.resumeSlot d).showFuses

/-- Does Table 13.2 permit a transition from the present state (R445)? -/
def Dev.lcPermits (d : Dev) (target : Nat) : Bool :=
  match d.lc, target with
  | .factory, 1 => bit (d.nat Obj.SIGN_KEY_STATE) 0 || bit (d.nat Obj.SIGN_KEY_STATE) 1
  | .provision, 2 => decide (d.nat Obj.KEY_ACTIVE_SLOT < 4) && d.nat Obj.FW_PROBATION == 0
  | .maintenance, 1 => (List.range 4).any fun i => d.keySlot i == 0
  | .factory, 5 | .provision, 5 | .maintenance, 5 => true
  | _, _ => false

/-- The fused state a transition starts from. -/
def Dev.lcSource (d : Dev) : Nat := if d.lc = .maintenance then 2 else d.lc.code

/-- A transition from the bank to the done row (R442); the reset follows. -/
def Dev.lcTransit (d : Dev) (target : Nat) : Dev :=
  match d.freeSlot with
  | some k =>
    let v := transitionRow target d.lcSource k
    let src := d.lcSource
    let d := d.bankDark.bankNow
    let d := d.burnRow (2 * k) v
    ((d.lcSteps target src).burnRow (2 * k + 1) v).showFuses
  | none => d

/-! ### Images (R449, R450) -/

/-- Byte i of an image: of a received block, or a byte of the release image a part is delivered with, which the spec
does not give. -/
def Slot.byteAt (s : Slot) (i : Nat) : Byte :=
  if s.base then Config.openByte 543 i else (lookD [] s.blocks (i / 4096)).getD (i % 4096) 0

/-- Bytes of an image. -/
def Slot.bytes (s : Slot) (off n : Nat) : List Byte := (List.range n).map fun i => s.byteAt (off + i)

/-- Fields of the header (Table 13.3). The delivered image uses format 1 and security version 0, as the objects of a
delivered part read. -/
def Slot.version (s : Slot) : Nat := leNat (s.bytes 8 4)
def Slot.secVer (s : Slot) : Nat := if s.base then 0 else (s.byteAt 12).toNat
def Slot.cfgFormat (s : Slot) : Nat := if s.base then 1 else leNat (s.bytes 14 2)
def Slot.bodyLen (s : Slot) : Nat := leNat (s.bytes 20 4)
def Slot.keyIndex (s : Slot) : Nat := (s.byteAt 6).toNat
def Slot.revokes (s : Slot) : Bool := !s.base && (s.byteAt 7).toNat % 2 == 1

/-- The fused hash of a signing key; its value is not given (R543). -/
def signHash (k : Nat) : List Byte := (List.range 32).map fun i => Config.openByte 450 (32 * k + i)

/-- Why an image is not valid, by the causes of Table 13.5, or 0 (R450). -/
def Dev.imageCause (d : Dev) (s : Slot) : Nat :=
  let st := d.nat Obj.SIGN_KEY_STATE
  let k := s.keyIndex
  let rev := d.nat Obj.CONTROL_DIE_REV
  if s.base then (if s.secVer < d.nat Obj.FW_SEC_COUNTER then 4 else 0)
  else if leNat (s.bytes 0 4) ≠ 0xF1E05701 ∨ leNat (s.bytes 4 2) ≠ 1 ∨ 1040384 < s.bodyLen then 1
  else if 1 < k ∨ bit st k = false ∨ (k = 0 ∧ bit st 2 = true) ∨ sha256 (s.bytes 56 64) ≠ signHash k then 2
  else if ecdsaOk (s.bytes 56 64) (sha256 (s.bytes 0 128)) (s.bytes 128 64) = false ∨
      sha256 (s.bytes 4096 s.bodyLen) ≠ s.bytes 24 32 then 3
  else if s.secVer < d.nat Obj.FW_SEC_COUNTER then 4
  else if rev < leNat (s.bytes 16 2) ∨ leNat (s.bytes 18 2) < rev then 5
  else 0

/-- Are blocks 0 to the body's end present? A header that names a longer body is judged with all its blocks there. -/
def Slot.complete (s : Slot) : Bool :=
  (List.range (1 + min 254 (cdiv s.bodyLen 4096))).all fun i => (look s.blocks i).isSome

/-- SLOT_STATE of a slot (Table 13.7, R456). -/
def Dev.slotState (d : Dev) (i : Nat) : Nat :=
  let s := d.slot i
  if s.rejected ≠ 0 then 5
  else if (s.confirmed ≠ 0 ∨ s.trial) ∧ s.secVer < d.nat Obj.FW_SEC_COUNTER then 6
  else if s.confirmed ≠ 0 then 4
  else if s.trial then 3
  else if s.verified then 2
  else if s.blocks = [] ∧ s.parts = [] then 0
  else 1

/-- An image is rejected: the unit is written with the cause. -/
def Dev.rejectSlot (d : Dev) (i cause : Nat) : Dev := d.setSlot i { d.slot i with rejected := cause }

/-- An image confirmed with a security version above the counter, or with the revocation flag, is followed up
(R456). -/
def Dev.confirmFollow (d : Dev) (i : Nat) : Dev :=
  let s := d.slot i
  let d := if d.nat Obj.FW_SEC_COUNTER < s.secVer then d.put Obj.FW_SEC_COUNTER (min 64 s.secVer) else d
  let d := if s.revokes then d.put Obj.SIGN_KEY_STATE (setBit (d.nat Obj.SIGN_KEY_STATE) 2) else d
  if d.cfg.formatHold then
    { d with staged := [], cfg := { d.cfg with formatHold := false } }.put Obj.FW_CFG_HOLD 0
  else d

/-! ### Selection by the mask ROM (R454) -/

/-- The trial slot: TRIAL and neither CONFIRMED nor REJECTED. -/
def Dev.trialSlot (d : Dev) : Option Nat :=
  [0, 1].find? fun i => (d.slot i).trial && (d.slot i).confirmed == 0 && (d.slot i).rejected == 0

/-- The confirmed slots, the one with the higher sequence first. -/
def Dev.confirmedSlots (d : Dev) : List Nat :=
  let l := [0, 1].filter fun i => (d.slot i).confirmed != 0 && (d.slot i).rejected == 0
  if (d.slot 0).confirmed < (d.slot 1).confirmed then l.reverse else l

/-- A rejection is reported as FIRMWARE_REJECTED and counted as a fallback. -/
def Dev.fallback (d : Dev) (i cause : Nat) : Dev :=
  ((((d.rejectSlot i cause).put Obj.FW_REJECT_CAUSE cause).count Obj.FW_FALLBACK_COUNT).raiseOnce 0x0704 0xFFFF cause)

/-- The slot to boot, with the boot number of a probation, 0 outside one. -/
def Dev.selectSlot (d : Dev) : Dev × Option (Nat × Nat) :=
  let old := fun (d : Dev) => match d.confirmedSlots.find? fun i => d.imageCause (d.slot i) == 0 with
    | some i => (d.confirmFollow i, some (i, 0))
    | none => (d, none)
  match d.trialSlot with
  | some i =>
    let s := d.slot i
    if 3 ≤ s.booted then old (d.fallback i 9)
    else if d.imageCause s = 0 then (d.setSlot i { s with booted := s.booted + 1 }, some (i, s.booted + 1))
    else old (d.fallback i 10)
  | none => old d

end Sys2Proof.Machine
end

