-- ==== Sys2Proof/Machine/Reset.lean ====
section
/-! DEFINITION. Reset, kindling from reset release to its end, and what firmware does there: slot selection, format
migration, rejection (R52, R57, R321, R331, R409 to R416, R439, R454 to R457). -/
namespace Sys2Proof.Machine

/-! ### Reset (R409, R52, R57) -/

/-- The dictionary objects of the cicada domain (R417, R420). -/
def cicadaKeys : List Nat := [Obj.CAL_NOW, Obj.CAL_VALID, Obj.CAL_LAST_DOWN, Obj.WAKE_STAMP]

/-- What a reset leaves of the dictionary: the configuration, the fuses and, where the cicada domain lived, its
objects. -/
def Dev.keptObjects (d : Dev) (cicada : Bool) : Store :=
  d.dict.filter fun (e : Nat × Val) =>
    persOf e.1 == Pers.ember || persOf e.1 == Pers.fuse || (cicada && cicadaKeys.contains e.1)

/-- The committed RECORD values when a bank was cut short: of its records, which ones are valid is open (R326). -/
def Dev.tornBank (d : Dev) (b : Bank) : Store :=
  ((d.banked ++ b.snap).map fun (e : Nat × Val) => e.1).eraseDups.foldl (fun (m : Store) (k : Nat) =>
    if Config.openNat 326 [(b.num : Int), (k : Int)] % 2 = 0 then m else storePut m k (storeVal b.snap k)) d.banked

/-- The condition history when a bank was cut short: the entries it had committed, of which how many is open (R326). -/
def Dev.tornHist (d : Dev) (b : Bank) : List HistEntry :=
  ((b.hist.take (Config.openNat 326 [(b.num : Int)] % (b.hist.length + 1))).reverse ++ d.rep.hist).take 256

/-- A configuration switch that has begun stands after a reset, for every group (R403). -/
def Dev.switchForward (d : Dev) : Dev :=
  match d.cfg.switch with
  | some w =>
    if w.started then
      (((List.range 24).filter fun g => !w.passed.contains g).foldl (fun (d : Dev) g => d.swapKeys (d.switchKeys g)) d).put
        Obj.CFG_STAGE_STATE 7
    else d.put Obj.CFG_STAGE_STATE (if w.back then 7 else 3)
  | none => d

/-- The stage state after a reset (R401, Table 11.9). -/
def stageAfter (st : Nat) : Nat := if st = 4 ∨ st = 5 then 3 else if st = 1 then 0 else st

/-- The life-cycle state a boot starts in (R439, R440): the session states are held in the cicada domain. -/
def Dev.lcAtBoot (d : Dev) : LcState :=
  if d.admin.maint ∧ d.nat Obj.LC_FUSED_STATE = 2 then .maintenance else lcOf (d.nat Obj.LC_FUSED_STATE)

/-- What a slot keeps over a reset: blocks that were not complete are gone, and an update is abandoned (Table 13.4). -/
def Slot.kept (s : Slot) : Slot := { s with parts := [], verified := false }

/-- The administration after a reset: keys and slots, and of the cicada domain the session state and the remaining
lockout (R439, R448). -/
def Dev.keptAdmin (d : Dev) : Admin :=
  let lost := d.power.keepLost
  { keys := d.admin.keys, testLock := d.admin.testLock, keyLock := d.admin.keyLock
    maint := d.admin.maint && !lost
    maintRun := if lost then 0 else d.admin.maintRun
    fails := if lost then 0 else d.admin.fails
    lockEnd := if lost then none else d.admin.lockEnd.map fun t => t - d.now
    slot := d.admin.slot.map fun (e : Nat × Slot) => (e.1, e.2.kept) }

/-- The block after a reset, before RESET_CAUSE is set: Ember and journal as they were committed, every MAYFLY object
at its default, device time 0, KINDLING. -/
def Dev.afterReset (d : Dev) : Dev :=
  let d := d.ownBack.switchForward
  let st := stageAfter (d.nat Obj.CFG_STAGE_STATE)
  let banked := match d.ember.bank with
    | some b => d.tornBank b
    | none => d.banked
  let cut := match d.ember.bank with
    | some b => if b.cause = 3 then some b.num else none
    | none => d.ember.cutBank
  let fresh : Dev :=
    { dict := d.keptObjects !d.power.keepLost
      banked := banked
      staged := if d.stageSt = 1 then [] else d.staged
      sent := d.sent
      waiters := d.waiters
      freeCount := d.freeCount
      ins := { d.ins with jtag := false, tapIr := 1 }
      rep := { hist := match d.ember.bank with
        | some b => d.tornHist b
        | none => d.rep.hist }
      jnl := { segs := d.jnl.segs, head := d.jnl.head, lastSeal := d.jnl.lastSeal, caps := d.jnl.caps, prog := d.jnl.prog, firsts := d.jnl.firsts }
      ember := { log := d.ember.log, seqNext := d.ember.seqNext, checkpoint := d.ember.checkpoint
                 intents := d.ember.intents, cutBank := cut }
      cfg := { d.cfg with switch := none }
      power := { calTick := d.power.calTick, wake := d.power.wake, cicada := if d.power.keepLost then none else d.power.cicada }
      admin := d.keptAdmin
      replay := { bootTable := if d.replay.bootNew then d.replay.bootTable.drop 1 else d.replay.bootTable
                  bootImages := if d.replay.bootNew then d.replay.bootImages.drop 1 else d.replay.bootImages } }
  let fresh := fresh.put Obj.CFG_STAGE_STATE st
  let fresh := if fresh.cfg.formatHold then fresh.put Obj.FW_CFG_HOLD 1 else fresh
  let fresh := if 3 ≤ fresh.admin.fails && fresh.admin.lockEnd.isSome then fresh.put Obj.AUTH_STATE 3 else fresh
  { fresh with lc := fresh.lcAtBoot }

/-- Reset release with a cause: RESET_CAUSE is set and the reset counted. -/
def Dev.released (d : Dev) (cause : Nat) : Dev :=
  ({ d with power := { d.power with inReset := false, wake := false } }.put Obj.RESET_CAUSE cause).count Obj.RESET_COUNT

/-- A reset the device makes itself: reset and release in one step. -/
def Dev.resetSelf (d : Dev) (cause : Nat) : Dev := d.afterReset.released cause

/-- RESET_N low for at least 10 us (R409). -/
def Dev.resetLow (d : Dev) (ticks : Nat) : Dev :=
  if 1000 ≤ ticks ∧ !d.power.inReset then
    let r := d.afterReset
    { r with power := { r.power with inReset := true }, ins := { r.ins with resetN := false } }
  else d

/-- Reset release (R409, R420, R371): straps and MASTER_N are read. With RESET_N not low it is the end of a power-on
reset, after which the dormancy is known where the calendar lived (Table 12.11). -/
def Dev.resetRelease (d : Dev) (straps : Nat) (masterLow : Bool) : Dev :=
  let low := d.power.inReset
  let down := d.power.banked
  let r := if low then d else d.afterReset
  let cause := if r.power.wake then 4 else if low then 2 else 1
  let r := { r with ins := { r.ins with resetN := true, holdN := true, supplyOk := true, straps := straps, masterLow := masterLow } }
  let r := r.released cause
  if !low ∧ down ∧ r.nat Obj.CAL_VALID = 1 then
    r.put Obj.DORMANT_S (r.nat Obj.CAL_NOW - r.nat Obj.CAL_LAST_DOWN) else r

/-- HOLD_N high and supplies in range for 100 ms after a power-fail bank: kindling restarts from mask ROM, the crickets
as they are locked. After a bank of CICADA_ENTER the device stays banked (R331). -/
def Dev.bankedRestart (d : Dev) : Dev :=
  if d.power.banked ∧ d.nat Obj.BANK_STATE = 4 ∧ !d.ember.fromCicada ∧ !d.power.inReset then
    let r := ((List.range 40).foldl (fun (r : Dev) k => r.put (Obj.CRK_LOCK_STATE k) (d.nat (Obj.CRK_LOCK_STATE k)))
      (d.resetSelf 1)).put Obj.KINDLE_PHASE 2
    { r with ins := { r.ins with holdN := true, supplyOk := true } }
  else d

/-! ### Rejected images (R455, R457) -/

/-- The running image is rejected with a cause: the unit, the count committed, and a reset. -/
def Dev.rejectImage (d : Dev) (cause : Nat) : Dev :=
  ((d.fallback (d.nat Obj.FW_ACTIVE_SLOT) cause).commitKeys [Obj.FW_FALLBACK_COUNT]).resetSelf 3

/-- HALT-SAFE during probation rejects the image with cause 8, after a power-fail bank where one is in progress (R330,
R455). -/
def Dev.judged (d : Dev) : Dev :=
  if d.op = .haltSafe ∧ d.nat Obj.FW_PROBATION ≠ 0 ∧ !(d.power.banked && d.ember.bank.isSome) then d.rejectImage 8 else d

/-- The probation window is 30 min from KINDLED, in ticks. -/
def probationTicks : Nat := 180000000000

/-- PROBATION_EXPIRY. -/
def Dev.probationEnd (d : Dev) : Dev :=
  if d.nat Obj.FW_PROBATION ≠ 0 ∧ d.kindledPast ∧ d.lanes.kindledAt + probationTicks ≤ d.now then d.rejectImage 7 else d

/-! ### Phases 1 and 2 -/

/-- KINDLE_CLOCKS_LOCKED: the reference-derived crickets K00 to K36 and K39 are locked. -/
def Dev.clocksLocked (d : Dev) : Dev :=
  if d.op = .kindling ∧ d.nat Obj.KINDLE_PHASE = 1 then
    (((List.range 40).filter fun k => k != 37 && k != 38).foldl (fun (d : Dev) k => d.put (Obj.CRK_LOCK_STATE k) 2) d).put
      Obj.KINDLE_PHASE 2
  else d

/-- MASK_ROM_BOOT (R443, R454, R413): fuse rows, slot, then the stoker or the loader. A follow-up of a confirmation is
made up here (R456). -/
def Dev.maskRom (d : Dev) : Dev :=
  if d.op = .kindling ∧ d.nat Obj.KINDLE_PHASE = 2 then
    let d := d.resumeRows
    let d := if d.lc = .replay then d else { d with lc := d.lcAtBoot }
    match d.selectSlot with
    | (d, some (i, boot)) =>
      let d := (d.put Obj.FW_ACTIVE_SLOT i).put Obj.FW_ACTIVE_VERSION (d.slot i).version
      let d := (d.put Obj.FW_PROBATION boot).put Obj.KINDLE_FW_US (d.now / 100 % 2 ^ 32)
      d.put Obj.KINDLE_PHASE 3
    | (d, none) => { d with op := .loader }.put Obj.FW_ACTIVE_SLOT 0xFF
  else d

/-! ### Phase 4 and KINDLED (R351, R412, R457) -/

/-- The active configuration is converted into the image's format in its first probationary boot; whether a conversion
succeeds, the spec leaves open, and the values are kept. A fallback finds the old format as it was held. None where the
conversion fails. -/
def Dev.migrate (d : Dev) : Option Dev :=
  let fmt := (d.slot (d.nat Obj.FW_ACTIVE_SLOT)).cfgFormat
  if fmt = d.cfg.format then some d
  else if d.nat Obj.FW_PROBATION ≠ 0 then
    if Config.openNat 457 [(fmt : Int), (d.cfg.format : Int), (d.nat Obj.FW_ACTIVE_VERSION : Int)] % 2 = 0 then
      some ({ d with staged := d.cfgVals
                     cfg := { d.cfg with formatHold := true, heldFormat := d.cfg.format, format := fmt } }.put Obj.FW_CFG_HOLD 1)
    else none
  else if d.cfg.formatHold ∧ d.cfg.heldFormat = fmt then
    some ({ d with
      dict := d.staged.foldl (fun (m : Store) (e : Nat × Val) => storePut m e.1 e.2) (d.dict.filter fun (e : Nat × Val) => !cfgKey e.1)
      staged := [], cfg := { d.cfg with formatHold := false, format := fmt } }.put Obj.FW_CFG_HOLD 0)
  else some d

/-- The configuration in force and its digest; where the format has changed with it, the digest is journalled. -/
def Dev.confirmDigest (d : Dev) (changed : Bool) : Dev :=
  let d := d.put Obj.CFG_FORMAT d.cfg.format
  let d := (d.digestOnce 1).putBytes Obj.CFG_ACTIVE_DIGEST d.digest
  if changed then
    (d.jrec 0x0B [d.num Obj.CFG_ACTIVE_EPOCH] (d.bytesOf Obj.CFG_ACTIVE_DIGEST)).commitKeys [Obj.CFG_ACTIVE_DIGEST]
  else d

/-- The Viresque links as trained, and the state of each die (R336, R398). -/
def Dev.trainLinks (d : Dev) (dies : List Bool) : Dev :=
  let n := d.nat Obj.PKG_VARIANT
  let up := (List.range n).filter fun i => dies.getD i false
  let d := d.put Obj.VIR_LINKS_UP (up.map fun i => 2 ^ i).sum
  (List.range n).foldl (fun (d : Dev) i =>
    d.put (Obj.JD_STATE (i + 1)) (if dies.getD i false ∧ d.nat (Obj.JD_BAD_BLOCKS (i + 1)) ≤ 160 then 1 else 2)) d

/-- RAIL_STATE for a reading (Table 12.12). -/
def Dev.railState (d : Dev) (r mv : Nat) : Nat :=
  if d.nat (Obj.RAIL_USE r) = 0 then 0
  else if mv < d.nat (Obj.RAIL_MIN_MV r) then 2
  else if d.nat (Obj.RAIL_MAX_MV r) < mv then 3
  else 1

/-- A rail has its first valid reading (R425). -/
def Dev.firstRail (d : Dev) (r mv : Nat) : Dev :=
  ((d.put (Obj.RAIL_MV r) mv).put (Obj.RAIL_LOW_MV r) mv).put (Obj.RAIL_STATE r) (d.railState r mv)

/-- Handover from KINDLED: disabled, CONVERTER, or qualifying at once (R430, Table 12.9). -/
def Dev.startHandover (d : Dev) : Dev :=
  let th := d.nat Obj.HO_THRESH_MV
  if th = 0 then d.put Obj.HO_STATE 5
  else if d.nat (Obj.RAIL_MV 0) < th then
    { d with power := { d.power with rail0Low := some d.now } }.put Obj.HO_STATE 1
  else d.put Obj.HO_STATE 0

/-- The ring and the lanes at KINDLED, by the role (R288, R371, R373, R383, R390). -/
def Dev.startRole (d : Dev) : Dev :=
  let d := d.setRole
  if d.isMember then d.put Obj.RING_POSITION d.ins.straps
  else
    let d := [0, 1, 2].foldl (fun (d : Dev) l => d.put (Obj.LN_STATE l) 1) d
    let d := d.put Obj.RING_TIME_VALID 1
    let d := { d with lanes := { d.lanes with fewSince := some d.now } }
    let d := (List.range 512).foldl (fun (d : Dev) k => d.put (Obj.CL_BUDGET_NOW_MW k) (d.nat (Obj.CL_BUDGET_MW k))) d
    d.declareRing

/-- A heartbeat: NMT state, OPERATING_STATE, CFG_STAGE_STATE, 0, the head of the active digest (Table 16.5). -/
def heartbeatBytes (nmt op stage : Nat) (digest : List Byte) : List Byte :=
  leBytes 1 nmt ++ leBytes 1 op ++ leBytes 1 stage ++ [0] ++ padTo 8 (digest.take 8)

/-- The boot-up heartbeat on every lane (R502); periodic ones follow a period later. -/
def Dev.bootHeartbeat (d : Dev) : Dev :=
  [0, 1, 2].foldl (fun (d : Dev) l =>
    (d.laneSend 3 l (0x700 + d.nodeId) (heartbeatBytes 0 d.op.code d.stageSt d.digestHead)).setLn l
      { d.ln l with lastHbSent := d.now }) d

/-- The boot-table entry of this boot (R352, Table 10.1), with the RECORD values as rebuilt. -/
def Dev.bootEntry (d : Dev) : Dev :=
  let i := d.nat Obj.FW_ACTIVE_SLOT
  let e := leBytes 4 (d.nat Obj.RESET_COUNT) ++ leBytes 4 (d.nat Obj.FW_ACTIVE_VERSION) ++ leBytes 1 (d.slot i).secVer ++
    leBytes 1 i ++ List.replicate 6 0 ++ leBytes 8 (d.ember.seqNext - 1) ++ leBytes 8 d.now ++ d.bytesOf Obj.CFG_ACTIVE_DIGEST
  let rebuilt := storePut (storePut d.recordVals Obj.COND_HISTORY (.bytes d.condHistory)) Obj.REPLAY_BOOT_TABLE
    (.bytes (padTo 1024 d.replay.bootTable.flatten))
  { d with replay := { d.replay with bootTable := (e :: d.replay.bootTable).take 16
                                     bootImages := (rebuilt :: d.replay.bootImages).take 16, bootNew := true } }

/-- The start of capture and of the field inputs (R347, R489). -/
def Dev.startInputs (d : Dev) : Dev :=
  let d := if d.nat Obj.CAP_ARM = 1 then { d.put Obj.CAP_STATE 1 with jnl := { d.jnl with refillAt := d.now } } else d
  (List.range 32).foldl (fun (d : Dev) k => d.setFi k { d.fi k with changeAt := d.now }) d

/-- The times of KINDLED. -/
def Dev.kindleTimes (d : Dev) : Dev :=
  let us := d.now / 100 % 2 ^ 32
  ((d.put Obj.KINDLE_PHASE 5).put Obj.KINDLE_KINDLED_US us).putMax Obj.KINDLE_MAX_US us

/-- KINDLED (R412, R416): the end of kindling phase 4. In the life-cycle state REPLAY the device kindles into
REPLAY. -/
def Dev.kindle (d : Dev) (dies : List Bool) (rails : List Nat) : Dev :=
  if d.op ≠ .kindling ∨ d.nat Obj.KINDLE_PHASE ≠ 4 then d
  else if d.lc = .replay then
    let d := ({ d.trainLinks dies with op := .replay }.kindleTimes).put Obj.REPLAY_STATE 1
    (List.range 24).foldl (Dev.isoShow · 6) d
  else match d.migrate with
    | none => d.rejectImage 6
    | some m =>
      let changed := decide (m.cfg.format ≠ d.cfg.format)
      let d := (m.confirmDigest changed).trainLinks dies
      let d := { d.kindleTimes with op := .kindled, lanes := { d.lanes with kindledAt := d.now } }
      let d := d.installConfig.startRole
      let d := (List.range 8).foldl (fun (d : Dev) r => if d.nat (Obj.RAIL_USE r) = 1 then d.firstRail r (rails.getD r 0) else d) d
      let d := d.startHandover.startInputs
      let d := if d.isMember then d else d.bootHeartbeat
      d.bootEntry

/-- KINDLE_TIMEOUT (R414). -/
def Dev.kindleTimeout (d : Dev) : Dev :=
  if d.lanes.kindledAt + 100000 * d.nat Obj.KINDLE_TIMEOUT_MS ≤ d.now then d.endKindling 1 else d

/-! ### Commands -/

/-- RESET_N_LOW (R409). -/
def execResetNLow (ticks : Nat) (s : State) := s.on fun d => d.resetLow ticks

/-- RESET_RELEASE (R409). -/
def execResetRelease (straps : Fin 16) (masterLow : Bool) (s : State) := s.on fun d => d.resetRelease straps.val masterLow

/-- KINDLE_CLOCKS_LOCKED (R42, R412). -/
def execKindleClocksLocked (s : State) := s.serve Dev.clocksLocked

/-- MASK_ROM_BOOT (R443, R454). -/
def execMaskRomBoot (s : State) := s.serve Dev.maskRom

/-- KINDLED (R412). -/
def execKindled (dies : List Bool) (rails : List Nat) (s : State) := s.serve fun d => d.kindle dies rails

/-- KINDLE_TIMEOUT (R414). -/
def execKindleTimeout (s : State) := s.serve Dev.kindleTimeout

/-- BANKED_RESTART (R331). -/
def execBankedRestart (s : State) := s.on Dev.bankedRestart

/-- PROBATION_EXPIRY (R455). -/
def execProbationExpiry (s : State) := s.serve Dev.probationEnd

/-- BANK_END (R329, R422): an overvoltage met during a power-fail bank halts at its end. -/
def execBankEnd (bytes us : Nat) (s : State) := s.guarded fun d => (d.bankEnd bytes us).judged

end Sys2Proof.Machine
end

