-- ==== Sys2Proof/Machine/Power.lean ====
section
/-! DEFINITION. Supplies, hold-up, rails, battery, handover and autonomy, the tempo monitor, crickets and the watchdog
(R25 to R51, R408 to R435). -/
namespace Sys2Proof.Machine

/-- Lamps and supplies are judged from KINDLED on. -/
def Dev.up (d : Dev) : Bool := d.op == .kindled || d.op == .operating

/-! ### Supplies and hold-up (R410, R420 to R422) -/

/-- The limits of the operating range of VCORE, VANA, VIO, VGD in mV (Table 12.1). -/
def supplyLow (i : Nat) : Nat := [700, 1710, 2970, 10800].getD i 0
def supplyHigh (i : Nat) : Nat := [900, 1890, 3630, 15000].getD i 0

/-- A supply reading. -/
def Dev.supplyRead (d : Dev) (i mv : Nat) : Dev := d.put (Obj.SUPPLY_MV i) (mv % 65536)

/-- A main supply has tripped: its flag and the count. -/
def Dev.supplyTrip (d : Dev) (i mv : Nat) : Dev :=
  let d := (d.supplyRead i mv).put Obj.SUPPLY_FLAGS (setBit (d.nat Obj.SUPPLY_FLAGS) i)
  ({ d with ins := { d.ins with supplyOk := false } }).count Obj.SUPPLY_TRIP_COUNT

/-- A main supply below its range; a run of the replay ends with it. -/
def Dev.supplyBelow (d : Dev) (i mv : Nat) : Dev := if mv < supplyLow i then (d.ownBack.supplyTrip i mv).powerFail else d

/-- A main supply above its range: HALT-SAFE, after the bank where one is in progress (Table 12.9). -/
def Dev.supplyAbove (d : Dev) (i mv : Nat) : Dev :=
  if supplyHigh i < mv then
    let d := d.supplyTrip i mv
    if d.ember.bank.isSome then { d with power := { d.power with overAfter := some (i + 1) } } else d.haltSafe 0x0008 (i + 1)
  else d

/-- VKEEP low: a flag while VIO is present, the loss of the cicada state while it is absent. -/
def Dev.vkeepLow (d : Dev) (vio : Bool) (mv : Nat) : Dev :=
  if vio then
    (if mv < 2000 ∧ !d.power.inReset then (d.supplyRead 4 mv).put Obj.SUPPLY_FLAGS (setBit (d.nat Obj.SUPPLY_FLAGS) 4) else d)
  else if mv < 1600 ∧ (d.power.inReset ∨ d.power.banked) then { d with power := { d.power with keepLost := true } }
  else d

/-- A power-fail bank ends a replay run unreported (Table 10.8). -/
def Dev.failing (d : Dev) : Dev := { d with replay := { d.replay with run := false } }.powerFail

/-- HOLD_N low for 200 ns. -/
def Dev.holdFall (d : Dev) : Dev := { d with ins := { d.ins with holdN := false } }.failing

/-- VHOLD_MV below HOLD_TRIP_MV for 10 us. -/
def Dev.vholdTrip (d : Dev) (mv : Nat) : Dev :=
  let o := d.ownBack
  if o.nat Obj.HOLD_TRIP_MV ≠ 0 ∧ mv < o.nat Obj.HOLD_TRIP_MV then
    (((o.put Obj.VHOLD_MV mv).put Obj.HOLD_STATE 2).count Obj.HOLD_TRIP_COUNT).failing
  else d

/-- VHOLD_MV below HOLD_WARN_MV for 1 s outside a bank. -/
def Dev.holdWarn (d : Dev) (mv : Nat) : Dev :=
  if d.nat Obj.HOLD_WARN_MV ≠ 0 ∧ mv < d.nat Obj.HOLD_WARN_MV ∧ d.ember.bank.isNone then
    ((d.put Obj.VHOLD_MV mv).put Obj.HOLD_STATE 1).raiseOnce 0x0602 0xFFFF mv
  else d

/-- VHOLD_MV above the warning level plus 2 % for 10 s. -/
def Dev.holdClear (d : Dev) (mv : Nat) : Dev :=
  if 102 * d.nat Obj.HOLD_WARN_MV < 100 * mv then
    ((d.put Obj.VHOLD_MV mv).put Obj.HOLD_STATE 0).clearC 0x0602 0xFFFF
  else d

/-- The first WAKE edge while dormant is stamped (R420). -/
def Dev.wakeRise (d : Dev) : Dev :=
  if (d.power.banked ∨ d.power.inReset) ∧ !d.power.wake then
    let t := d.nat Obj.CAL_NOW
    { d with power := { d.power with
      wake := true, cicada := d.power.cicada.map fun (b : List Byte) => b.take 12 ++ leBytes 4 t ++ b.drop 16 } }.put Obj.WAKE_STAMP t
  else d

/-! ### Crickets, tempo, watchdog, SRAM (R26 to R34, R43, R48 to R50) -/

/-- A reference-derived cricket loses lock after KINDLED. -/
def Dev.lockLost (d : Dev) (k : Nat) : Dev :=
  if k ≠ 37 ∧ k ≠ 38 ∧ d.kindledPast then
    ((d.put (Obj.CRK_LOCK_STATE k) 0).count (Obj.CRK_LOCK_LOSS_COUNT k)).haltSafe 0x0001 k
  else d

/-- The shedding stage of a tempo index (Table 1.3). -/
def shedStage (t : Nat) : Nat := if t < 70 then 3 else if t < 85 then 2 else if t < 100 then 1 else 0

/-- SHED_STATE for a stage. -/
def shedBits (st : Nat) : Nat := [0, 1, 3, 7].getD st 7

/-- The stage SHED_STATE shows. -/
def shedOf (bits : Nat) : Nat := if bits = 0 then 0 else if bits = 1 then 1 else if bits = 3 then 2 else 3

/-- A tempo window closes: the indices are reported (R27, R29); an index counts to 1000. TEMPO_MIN_LIFE is shown as of
the last bank. -/
def Dev.tempoShow (d : Dev) (events demand mandatory : Nat) : Dev :=
  let t := min 1000 (events / 2400)
  let d := (d.put Obj.TEMPO_INDEX t).putMax Obj.TEMPO_MAX t
  let d := if t < d.nat Obj.TEMPO_MIN then d.put Obj.TEMPO_MIN t else d
  let d := if t < d.nat Obj.TEMPO_MIN_LIFE then d.put Obj.TEMPO_MIN_LIFE t else d
  (d.put Obj.DEMAND_INDEX (min 1000 (demand / 2400))).put Obj.MANDATORY_DEMAND (min 1000 (mandatory / 2400))

/-- Shedding and its end (R31, R32, R34). -/
def Dev.tempoShed (d : Dev) (t : Nat) : Dev :=
  let old := shedOf (d.nat Obj.SHED_STATE)
  let d := if t < 100 ∧ old = 0 then d.raiseOnce 0x0604 0xFFFF t else d
  let st := max old (shedStage t)
  let d := if old = 0 ∧ 0 < st then d.count Obj.SHED_COUNT else d
  let d := if st = 3 ∧ old < 3 then d.decimate else d
  let good := if 105 ≤ t then d.guard.good + 1 else 0
  let d := { d with guard := { d.guard with good := good } }
  if 100 ≤ good then (d.put Obj.SHED_STATE 0).clearC 0x0604 0xFFFF else d.put Obj.SHED_STATE (shedBits st)

/-- Is a tempo window due to close: windows are whole milliseconds of K36, and each closes once (R26)? -/
def Dev.tempoDue (d : Dev) : Bool := decide (d.guard.window < d.ticks / 100000)

/-- TEMPO_WINDOW_CLOSE. -/
def Dev.tempoWindow (d : Dev) (events demand mandatory : Nat) : Dev :=
  if !d.tempoDue then d
  else
  let d := { d with guard := { d.guard with window := d.ticks / 100000 } }
  let d := d.tempoShow events demand mandatory
  let t := d.nat Obj.TEMPO_INDEX
  let m := d.nat Obj.MANDATORY_DEMAND
  let d := d.tempoShed t
  let d := if d.active 0x0604 0xFFFF then d.count Obj.TEMPO_LOW_TIME_MS else d
  let low := if 4 * t < 5 * m then d.guard.low + 1 else 0
  let d := { d with guard := { d.guard with low := low } }
  if 2 ≤ low then d.haltSafe 0x0004 (65536 * t + m) else d

/-- The watchdog acts: the gates low, ISO high impedance and SAFE1_N on its own, and HALT-SAFE. -/
def Dev.watchdogActs (d : Dev) (cause detail : Nat) : Dev :=
  { d with guard := { d.guard with tripped := true } }.haltSafe cause detail

/-- A token reaches the watchdog. From KINDLED on it counts for SAFE1_N (R205). -/
def Dev.token (d : Dev) (supervision : Bool) : Dev :=
  let g := d.guard
  if supervision then
    (if g.supTok then d.putMax Obj.WDG_SUP_GAP_MAX ((d.now - g.supAt) / 100 % 2 ^ 32) else d) |> fun (d : Dev) =>
      { d with guard := { d.guard with supTok := true, supAt := d.now, supIn := g.supIn || d.kindledPast } }
  else
    (if g.stokerTok then d.putMax Obj.WDG_STOKER_GAP_MAX ((d.now - g.stokerAt) / 100 % 2 ^ 32) else d) |> fun (d : Dev) =>
      { d with guard := { d.guard with stokerTok := true, stokerAt := d.now, stokerIn := g.stokerIn || d.kindledPast } }

/-- A token has been missing for 3.0 ms or 30 ms of the watchdog's own oscillator, each within 10 %. -/
def Dev.tokenMissing (d : Dev) (supervision : Bool) : Dev :=
  let g := d.guard
  if supervision then
    (if g.supTok ∧ g.supAt + 270000 ≤ d.now then d.watchdogActs 0x0003 1 else d)
  else (if g.stokerTok ∧ g.stokerAt + 2700000 ≤ d.now then d.watchdogActs 0x0003 2 else d)

/-- The reference count of a window of 2000 periods of K37. -/
def Dev.refWindow (d : Dev) (count : Nat) : Dev :=
  let d := d.put Obj.WDG_REF_COUNT (min 65535 count)
  if count < 3400 ∨ 4600 < count then d.watchdogActs 0x0002 count else d

/-! ### Rails (R425) -/

/-- The source number of a rail monitor. -/
def railSource (r : Nat) : Nat := 0xA00 + r

/-- A rail has been out of its range for RAIL_DIP_US. -/
def Dev.railDip (d : Dev) (r mv : Nat) : Dev :=
  let st := d.railState r mv
  if d.up ∧ (st = 2 ∨ st = 3) ∧ d.lanes.kindledAt + 100 * d.nat (Obj.RAIL_DIP_US r) ≤ d.now then
    let d := ((d.put (Obj.RAIL_MV r) mv).put (Obj.RAIL_LOW_MV r) (if st = 2 then mv else d.nat (Obj.RAIL_LOW_MV r))).put (Obj.RAIL_STATE r) st
    let same : Bool := match d.cond 0x0601 (railSource r) with
      | some c => c.detail == st - 1
      | none => false
    if same then d
    else ((d.raiseC 0x0601 (railSource r) (st - 1)).count (Obj.RAIL_DIP_COUNT r)).put (Obj.RAIL_LAST_DIP r) d.now
  else d

/-- A rail has been within its range for 10 ms. -/
def Dev.railMend (d : Dev) (r mv : Nat) : Dev :=
  if d.up ∧ d.railState r mv = 1 ∧ d.lanes.kindledAt + 1000000 ≤ d.now then
    (((d.put (Obj.RAIL_MV r) mv).put (Obj.RAIL_LOW_MV r) mv).put (Obj.RAIL_STATE r) 1).clearC 0x0601 (railSource r)
  else d

/-! ### Handover (R430, Table 12.8) -/

/-- RAIL0 below its threshold. -/
def Dev.rail0Below (d : Dev) (mv : Nat) : Dev :=
  if d.up ∧ d.nat Obj.HO_STATE = 0 ∧ mv < d.nat Obj.HO_THRESH_MV then
    ({ d with power := { d.power with rail0Low := some d.now } }.put (Obj.RAIL_MV 0) mv).put Obj.HO_STATE 1
  else d

/-- Has qualification lasted 2 ms? -/
def Dev.qualified (d : Dev) : Bool := sinceAtLeast d.power.rail0Low 200000 d.now

/-- RAIL0 returns before 2 ms. -/
def Dev.rail0Return (d : Dev) (mv : Nat) : Dev :=
  if d.up ∧ d.nat Obj.HO_STATE = 1 ∧ d.nat Obj.HO_THRESH_MV ≤ mv ∧ !d.qualified then
    ({ d with power := { d.power with rail0Low := none } }.put (Obj.RAIL_MV 0) mv).put Obj.HO_STATE 0
  else d

/-- Is the battery cut off (R431)? -/
def Dev.cutOff (d : Dev) : Bool := d.nat Obj.BAT_STATE == 5

/-- RAIL0 has been low for 2 ms. -/
def Dev.qualifyEnd (d : Dev) : Dev :=
  if d.up ∧ d.nat Obj.HO_STATE = 1 ∧ d.qualified then
    let d := { d with power := { d.power with rail0Back := none } }
    if d.cutOff then d.put Obj.HO_STATE 4
    else ((d.put Obj.HO_STATE 2).put Obj.HO_LAST d.now).count Obj.HO_COUNT
  else d

/-- 50 ms since HANDOVER rose. -/
def Dev.dwellEnd (d : Dev) : Dev :=
  if d.up ∧ d.nat Obj.HO_STATE = 2 ∧ d.nat Obj.HO_LAST + 5000000 ≤ d.now then d.put Obj.HO_STATE 3 else d

/-- RAIL0 crosses the stability level: the timer starts, or waits for the next crossing. -/
def Dev.stableChange (d : Dev) (stable : Bool) : Dev :=
  let st := d.nat Obj.HO_STATE
  if d.up ∧ (st = 2 ∨ st = 3 ∨ st = 4) then
    { d with power := { d.power with rail0Back := if stable then some (d.power.rail0Back.getD d.now) else none } }
  else d

/-- Has RAIL0 been stable for 1 s? -/
def Dev.rail0Stable (d : Dev) : Bool := sinceAtLeast d.power.rail0Back 100000000 d.now

/-- The return dwell has passed and RAIL0 is stable. -/
def Dev.returnDue (d : Dev) : Dev :=
  if d.up ∧ d.nat Obj.HO_STATE = 3 ∧ d.nat Obj.HO_LAST + 100000 * d.nat Obj.HO_RETURN_MS ≤ d.now ∧ d.rail0Stable then
    d.put Obj.HO_STATE 0
  else d

/-- RAIL0 stable for 1 s in CUT_OFF. -/
def Dev.cutOffRecover (d : Dev) : Dev :=
  if d.up ∧ d.nat Obj.HO_STATE = 4 ∧ d.rail0Stable then d.put Obj.HO_STATE 0 else d

/-! ### Battery (R426 to R429, R431) -/

/-- BAT_STATE from the current, the conflict and the cut-off. -/
def Dev.batState (d : Dev) : Dev :=
  let i := d.num Obj.BAT_I_UA
  let rest := d.num Obj.BAT_REST_I_UA
  d.put Obj.BAT_STATE (if d.cutOff then 5 else if d.active 0x0603 0xFFFF then 4
    else if rest < i then 3 else if i < -rest then 1 else 2)

/-- BAT_SOC_PM from the count; 50 while a conflict holds it (R426, Table 12.7). -/
def Dev.batSoc (d : Dev) : Dev :=
  if d.active 0x0603 0xFFFF then d.put Obj.BAT_SOC_PM 50
  else d.put Obj.BAT_SOC_PM (min 1000 (roundOpen 426 ((d.num Obj.BAT_CHARGE_MAH).toNat * 1000) (d.nat Obj.BAT_CAPACITY_MAH)))

/-- One millisecond of charge into the count: discharge in full, charge weighted. The remainder below 1 mAh is kept. -/
def Dev.batCharge (d : Dev) (ua : Int) : Dev :=
  let q := d.power.chargeFrac - (if 0 < ua then ua * 1000 else ua * d.num Obj.BAT_CHARGE_EFF_PM)
  { d with power := { d.power with chargeFrac := Int.fmod q 3600000000000 } }.putInt Obj.BAT_CHARGE_MAH
    (d.num Obj.BAT_CHARGE_MAH + Int.fdiv q 3600000000000)

/-- The first row of Table 12.7. -/
def Dev.batConflict (d : Dev) (mv : Nat) (ua : Int) : Dev :=
  if d.num Obj.BAT_CHARGE_MAH ≤ 0 ∧ d.num Obj.BAT_REST_I_UA < ua ∧
      d.nat Obj.BAT_V_EMPTY_LOADED + d.nat Obj.BAT_V_MARGIN < mv ∧ !d.active 0x0603 0xFFFF then
    let d := { d with power := { d.power with chargeFrac := 0 } }.put Obj.BAT_CHARGE_MAH
      (roundOpen 428 (d.nat Obj.BAT_CAPACITY_MAH) 20)
    (d.raiseC 0x0603 0xFFFF mv).count Obj.BAT_CONFLICT_COUNT
  else d

/-- BATTERY_SAMPLE, once a millisecond. -/
def Dev.batSample (d : Dev) (mv : Nat) (ua : Int) : Dev :=
  if d.up ∧ d.nat Obj.BAT_USE = 1 ∧ d.power.sampled < d.now / 100000 then
    let rest := d.num Obj.BAT_REST_I_UA
    let still := decide (-rest ≤ ua) && decide (ua ≤ rest)
    let d := { d with power := { d.power with
      sampled := d.now / 100000, firstSample := some (d.power.firstSample.getD d.now)
      restSince := if still then some (d.power.restSince.getD d.now) else none } }
    let d := (d.put Obj.BAT_V_MV mv).putInt Obj.BAT_I_UA ua
    let d := if d.active 0x0603 0xFFFF then d else d.batCharge ua
    (d.batConflict mv ua).batState.batSoc
  else d

/-- The state of charge a rest voltage stands for, as a ratio of permille (R427). -/
def Dev.restSoc (d : Dev) (mv : Nat) : Nat × Nat :=
  let e := d.restEntry
  if mv ≤ (e 0).1 then ((e 0).2, 1)
  else match (List.range 15).find? fun i => decide (mv ≤ (e (i + 1)).1) with
    | some i =>
      let dv := (e (i + 1)).1 - (e i).1
      ((e i).2 * dv + ((e (i + 1)).2 - (e i).2) * (mv - (e i).1), dv)
    | none => ((e 15).2, 1)

/-- Is a rest point reached (R427)? -/
def Dev.atRest (d : Dev) : Bool :=
  let min' := d.nat Obj.BAT_REST_MIN
  let i := d.num Obj.BAT_I_UA
  let dorm := d.nat Obj.DORMANT_S
  sinceAtLeast d.power.restSince (6000000000 * min') d.now ||
    (dorm != 0xFFFFFFFF && decide (60 * min' ≤ dorm) && decide (d.power.firstSample.getD d.now = d.now) &&
      decide (-d.num Obj.BAT_REST_I_UA ≤ i) && decide (i ≤ d.num Obj.BAT_REST_I_UA))

/-- BATTERY_REST_POINT. -/
def Dev.restPoint (d : Dev) (mv : Nat) : Dev :=
  if d.up ∧ d.nat Obj.BAT_USE = 1 ∧ d.atRest then
    let r := d.restSoc mv
    let d := d.put Obj.BAT_V_MV mv
    let d := { d with power := { d.power with chargeFrac := 0 } }.put Obj.BAT_CHARGE_MAH
      (roundOpen 427 (r.1 * d.nat Obj.BAT_CAPACITY_MAH) (1000 * r.2))
    let d := (d.put Obj.BAT_LAST_REST_DAY d.calDayNow).clearC 0x0603 0xFFFF
    d.batState.put Obj.BAT_SOC_PM (min 1000 (roundOpen 427 r.1 r.2))
  else d

/-- BATTERY_CUTOFF: judged in every handover state. -/
def Dev.batCutoff (d : Dev) (mv : Nat) : Dev :=
  if d.up ∧ d.nat Obj.BAT_USE = 1 ∧ mv < d.nat Obj.BAT_V_CUTOFF ∧ !d.cutOff then
    let d := ((d.put Obj.BAT_V_MV mv).put Obj.BAT_STATE 5).count Obj.BAT_CUTOFF_COUNT
    if d.nat Obj.HO_STATE = 2 ∨ d.nat Obj.HO_STATE = 3 then
      { d with power := { d.power with rail0Back := none } }.put Obj.HO_STATE 4
    else d
  else d

/-- BATTERY_CUTOFF_END. -/
def Dev.batCutoffEnd (d : Dev) (mv : Nat) : Dev :=
  if d.up ∧ d.cutOff ∧ d.nat Obj.BAT_V_EMPTY_LOADED ≤ mv ∧ d.nat Obj.HO_STATE ≠ 2 ∧ d.nat Obj.HO_STATE ≠ 3 then
    ((d.put Obj.BAT_V_MV mv).put Obj.BAT_STATE 2).batState
  else d

/-! ### Autonomy (R433) -/

/-- The autonomy factor of one second on battery. -/
def Dev.autFactor (d : Dev) : Dev :=
  let tLeft := max (d.nat Obj.AUT_TARGET_MIN * 60 - (d.now - d.nat Obj.HO_LAST) / 100000000) 60
  let c := (d.num Obj.BAT_CHARGE_MAH).toNat * 3600000
  let ua := (d.num Obj.BAT_I_UA).toNat
  let a := d.nat Obj.AUT_FACTOR
  let den := tLeft * ua
  let a := if ua = 0 then a
    else if 100 * c < 95 * den then roundOpen 433 (a * 95) 100
    else if 101 * den < 100 * c then roundOpen 433 (a * 101) 100
    else roundOpen 433 (a * c) den
  (d.put Obj.AUT_I_ALLOW_UA (sat (2 ^ 32 - 1) (roundOpen 433 c tLeft))).put Obj.AUT_FACTOR (min a 65536)

/-- The lit emergency channels outside signal groups whose level a new factor changes from what an old one gave. -/
def Dev.autMoved (d : Dev) (old : Nat) : List Nat :=
  let now' := { d with power := { d.power with autWas := (d.nat Obj.AUT_FACTOR, 0) } }
  let was := d.put Obj.AUT_FACTOR old
  (List.range 96).filter fun n => decide (d.mode n ≠ 0) && (d.sgOf n).isNone && d.emergency n &&
    decide ((now'.wantedFree n).level ≠ (was.wantedFree n).level)

/-- AUTONOMY_UPDATE, once a second; each level that it changes is granted at M12 to requester 3. In CONVERTER the factor
rises by at most 1 % a second. -/
def Dev.autonomy (d : Dev) : Dev :=
  if d.op = .operating ∧ d.power.autAt < d.now / 100000000 then
    let d := { d with power := { d.power with autAt := d.now / 100000000 } }
    let old := d.nat Obj.AUT_FACTOR
    let st := d.nat Obj.HO_STATE
    let d := if st = 2 ∨ st = 3 then d.autFactor
      else if st = 0 ∧ old < 65536 then d.put Obj.AUT_FACTOR (min 65536 (roundOpen 433 (old * 101) 100))
      else d
    if d.nat Obj.AUT_FACTOR = old then d
    else (d.autMoved old).foldl (fun (d : Dev) n => d.askDuty (grpOf n) 3) { d with power := { d.power with autWas := (old, d.now) } }
  else d

/-! ### Commands -/

/-- SUPPLY_BELOW_RANGE (R410). -/
def execSupplyBelowRange (supply : Fin 4) (mv : Nat) (s : State) := s.on fun d =>
  if d.power.inReset then d else d.supplyBelow supply.val mv

/-- SUPPLY_ABOVE_RANGE (R410). -/
def execSupplyAboveRange (supply : Fin 4) (mv : Nat) (s : State) := s.guarded fun d => (d.supplyAbove supply.val mv).judged

/-- VKEEP_LOW (R410). -/
def execVkeepLow (vioPresent : Bool) (mv : Nat) (s : State) := s.on fun d => d.vkeepLow vioPresent mv

/-- HOLD_N_FALL (R421). -/
def execHoldNFall (s : State) := s.on fun d => if d.power.inReset then d else d.holdFall

/-- VHOLD_TRIP (R421). -/
def execVholdTrip (mv : Nat) (s : State) := s.on fun d => if d.power.inReset then d else d.vholdTrip mv

/-- HOLDUP_LOW_WARN (R422). -/
def execHoldupLowWarn (mv : Nat) (s : State) := s.talk fun d => d.holdWarn mv

/-- HOLDUP_LOW_CLEAR (R422). -/
def execHoldupLowClear (mv : Nat) (s : State) := s.talk fun d => d.holdClear mv

/-- WAKE_EDGE (R420). -/
def execWakeEdge (s : State) := s.on Dev.wakeRise

/-- CRICKET_LOCK_LOSS (R43). -/
def execCricketLockLoss (k : Fin 40) (s : State) := s.guarded fun d => (d.lockLost k.val).judged

/-- TEMPO_WINDOW_CLOSE (R26 to R34). -/
def execTempoWindowClose (events demand mandatory : Nat) (s : State) :=
  s.guarded fun d => (d.tempoWindow events demand mandatory).judged

/-- WATCHDOG_TOKEN (R48). -/
def execWatchdogToken (supervision : Bool) (s : State) := s.guarded fun d => d.token supervision

/-- WATCHDOG_TOKEN_TIMEOUT (R48). -/
def execWatchdogTokenTimeout (supervision : Bool) (s : State) := s.guarded fun d => (d.tokenMissing supervision).judged

/-- WATCHDOG_REF_WINDOW (R49). -/
def execWatchdogRefWindow (count : Nat) (s : State) := s.guarded fun d => (d.refWindow count).judged

/-- UNCORRECTABLE_SRAM_ERROR (R50, Table 1.6). -/
def execUncorrectableSramError (address : Fin 4294967296) (s : State) :=
  s.guarded fun d => (d.haltSafe 0x0007 address.val).judged

/-- RAIL_DIP_DEBOUNCE (R425). -/
def execRailDipDebounce (rail : Fin 8) (mv : Nat) (s : State) := s.serve fun d => d.railDip rail.val mv

/-- RAIL_DIP_CLEAR (R425). -/
def execRailDipClear (rail : Fin 8) (mv : Nat) (s : State) := s.serve fun d => d.railMend rail.val mv

/-- HO_RAIL0_BELOW (R430). -/
def execHoRail0Below (mv : Nat) (s : State) := s.serve fun d => d.rail0Below mv

/-- HO_RAIL0_RETURN (R430). -/
def execHoRail0Return (mv : Nat) (s : State) := s.serve fun d => d.rail0Return mv

/-- HO_QUALIFY_EXPIRY (R430). -/
def execHoQualifyExpiry (s : State) := s.serve Dev.qualifyEnd

/-- HO_HANDOVER_DWELL (R430). -/
def execHoHandoverDwell (s : State) := s.serve Dev.dwellEnd

/-- RAIL0_STABLE_CHANGE (R430). -/
def execRail0StableChange (stable : Bool) (s : State) := s.serve fun d => d.stableChange stable

/-- HO_RETURN_DUE (R430). -/
def execHoReturnDue (s : State) := s.serve Dev.returnDue

/-- HO_CUTOFF_RECOVER (R430). -/
def execHoCutoffRecover (s : State) := s.serve Dev.cutOffRecover

/-- BATTERY_SAMPLE (R426). -/
def execBatterySample (mv : Nat) (ua : Int) (s : State) := s.serve fun d => d.batSample mv ua

/-- BATTERY_REST_POINT (R427). -/
def execBatteryRestPoint (mv : Nat) (s : State) := s.serve fun d => d.restPoint mv

/-- BATTERY_CUTOFF (R431). -/
def execBatteryCutoff (mv : Nat) (s : State) := s.serve fun d => d.batCutoff mv

/-- BATTERY_CUTOFF_END (R431). -/
def execBatteryCutoffEnd (mv : Nat) (s : State) := s.serve fun d => d.batCutoffEnd mv

/-- AUTONOMY_UPDATE (R433). -/
def execAutonomyUpdate (s : State) := s.serve Dev.autonomy

end Sys2Proof.Machine
end

