-- ==== Sys2Proof/Machine/View.lean ====
section
/-! DEFINITION. The value a read of an object returns: its value in the dictionary, or for an object whose home is
another part of the state the value computed from there (R497). -/
namespace Sys2Proof.Machine

/-- The decimal digits of a number as bytes. -/
def decimal (n : Nat) : List Byte := (Nat.toDigits 10 n).map fun c => BitVec.ofNat 8 c.toNat

/-- The slot that updates go into: the one not running, slot A from the loader (R451, R458). -/
def Dev.updSlot (d : Dev) : Nat := if d.nat Obj.FW_ACTIVE_SLOT = 0 then 1 else 0

/-- The alive lanes as LANES_ALIVE shows them: ALIVE and SILENT (R288). -/
def Dev.laneAlive (d : Dev) (l : Nat) : Bool := let s := d.nat (Obj.LN_STATE l); s == 2 || s == 3

/-- How many lanes are alive. -/
def Dev.aliveCount (d : Dev) : Nat := ([0, 1, 2].filter fun l => d.laneAlive l).length

/-- VOTE_MODE (Table 8.6). -/
def Dev.voteMode (d : Dev) : Nat :=
  if d.isMember then 4 else if d.aliveCount = 3 then 3 else if d.aliveCount = 2 then 2 else 0

/-- The members of a fence group, from CL_FENCES (R303). -/
def Dev.fenceMembers (d : Dev) (f : Nat) : List Nat := (List.range 512).filter fun k => bit (d.nat (Obj.CL_FENCES k)) f

/-- A client's use: the power of its budgeted channels at their applied levels (R297). -/
def Dev.useMw (d : Dev) (k : Nat) : Nat :=
  let own := ((List.range 96).filter fun n => d.nat (Obj.OWN_HOLDER n) == k && d.budgeted n).map fun n => d.nat (Obj.OWN_POWER_MW n)
  own.sum + d.tot (d.heldFar k) (d.yNow k d.now)

/-- Conditions in code and source order. -/
def insCond (c : Cond) (l : List Cond) : List Cond :=
  match l with
  | [] => [c]
  | x :: r => if 65536 * c.code + c.source < 65536 * x.code + x.source then c :: x :: r else x :: insCond c r

/-- COND_ACTIVE_LIST: 8 bytes for each active condition. -/
def Dev.condList (d : Dev) : List Byte :=
  ((d.rep.conds.foldr insCond []).take 1024).flatMap fun c => leBytes 2 c.code ++ leBytes 2 c.source ++ leBytes 4 c.detail

/-- CAP_DIRECTORY: 24 bytes for each capture held. -/
def Dev.capDirectory (d : Dev) : List Byte :=
  d.jnl.caps.flatMap fun (c : Capture) => leBytes 4 c.num ++ leBytes 8 c.trigAt ++ leBytes 8 c.first ++ leBytes 2 c.segs ++
    leBytes 1 c.dec ++ leBytes 1 (b2n c.frozen)

/-- The working journal dies. -/
def Dev.workingDies (d : Dev) : Nat := ((List.range 7).filter fun i => d.nat (Obj.JD_STATE (i + 1)) == 1).length

/-- REPLAY_ROOM_MIB (R363). -/
def Dev.replayRoom (d : Dev) : Nat := d.jnlCapacity - d.frozenMib - 128 * d.workingDies

/-- TT_STATE: slices run from KINDLED in PROVISION, SERVICE and MAINTENANCE (Table 13.1, Table 14.8). -/
def Dev.termiteState (d : Dev) : Nat :=
  let allowed := d.up && (d.lc == .provision || d.lc == .service || d.lc == .maintenance) && !d.testState
  if !allowed then 0 else if bit (d.nat Obj.SHED_STATE) 0 then 2
  else if d.isMember ∧ d.ring.grantAt.isNone then 3 else 1

/-- The repair entries not yet used; entry i goes with spare row 4080 + i, and a void entry's row counts as used
(R470). -/
def Dev.spares (d : Dev) : List Nat :=
  (List.range 16).filter fun i => leNat (((d.bytesOf Obj.REP_ENTRIES).drop (4 * i)).take 4) == 0

/-- Seconds left of a span in ticks, rounded up. -/
def secondsLeft (endAt now : Nat) : Nat := cdiv (endAt - now) 100000000

/-- In kindling phase 1 the reference-derived crickets are locking (R42). -/
def Dev.locking (d : Dev) : Bool := d.op == .kindling && d.nat Obj.KINDLE_PHASE == 1 && !d.power.inReset

/-- Objects of identity, status, time and the lanes that are read from elsewhere. -/
def Dev.viewA (d : Dev) (k : Nat) : Option Val :=
  let n := fun (v : Nat) => some (Val.num (v : Int))
  if k = Obj.ERROR_REGISTER then n d.errorRegister
  else if k = Obj.ERR_FIELD_COUNT then n d.rep.errField.length
  else if Obj.ERR_FIELD 0 ≤ k ∧ k < Obj.ERR_FIELD 16 then n (d.rep.errField.getD (k - Obj.ERR_FIELD 0) 0)
  else if k = Obj.HW_VERSION then
    some (.bytes ([0x43] ++ decimal (d.nat Obj.CONTROL_DIE_REV / 256) ++ [0x2D, 0x4A] ++ decimal (d.nat Obj.PKG_VARIANT)))
  else if k = Obj.SW_VERSION then
    (let v := d.nat Obj.FW_ACTIVE_VERSION
     some (.bytes (decimal (v / 2 ^ 24) ++ [0x2E] ++ decimal (v / 65536 % 256) ++ [0x2E] ++ decimal (v % 65536))))
  else if k = Obj.COB_ID_EMCY then n (0x80 + d.nodeId)
  else if Obj.CONS_HB_TIME 0 ≤ k ∧ k < Obj.CONS_HB_TIME 3 then
    n (65536 * d.nat (Obj.LN_TCMS_NODE (k - Obj.CONS_HB_TIME 0)) + d.nat Obj.LANE_TIMEOUT_MS)
  else if k = Obj.PRODUCT_CODE then n (0x09680000 + d.nat Obj.PKG_VARIANT)
  else if k = Obj.REVISION then n (65536 * d.nat Obj.CONTROL_DIE_REV + d.nat Obj.FW_ACTIVE_VERSION / 65536)
  else if k = Obj.SERIAL_LOW then n (d.nat Obj.SERIAL_NUMBER % 2 ^ 32)
  else if k = Obj.TPDO_COB_ID 15 then some (d.cfgVal k)
  else if k = Obj.OPERATING_STATE then n d.op.code
  else if k = Obj.RESET_CAUSE then n (max 1 (d.nat k))
  else if k = Obj.DEVICE_TIME then n (d.now % 2 ^ 64)
  else if k = Obj.TRAIN_TIME_NOW then n d.trainNow
  else if k = Obj.CRK_LOCK_STATE 37 ∨ k = Obj.CRK_LOCK_STATE 38 then n 3
  else if 0x2010 ≤ k / 256 ∧ k / 256 < 0x2038 ∧ k % 256 = 1 ∧ d.locking then n 1
  else if k = Obj.CRK_PHASE_ERR 37 ∨ k = Obj.CRK_PHASE_ERR 38 then n 0
  else if k = Obj.TEMPO_MIN_LIFE then some (storeVal d.banked k)
  else if k = Obj.NODE_ID then n (d.nodeId % 256)
  else if k = Obj.LANES_ALIVE then n ([0, 1, 2].foldl (fun m l => if d.laneAlive l then m + 2 ^ l else m) 0)
  else if k = Obj.VOTE_MODE then n d.voteMode
  else if k = Obj.HELD_TOTAL then n d.lanes.held.length
  else none

/-- Objects of fences, task classes and clients that are read from elsewhere; on a member the client objects read as
their defaults (R293). -/
def Dev.viewB (d : Dev) (k : Nat) : Option Val :=
  let n := fun (v : Nat) => some (Val.num (v : Int))
  let i := k / 256
  let sub := k % 256
  if 0x2220 ≤ i ∧ i < 0x2240 then
    (let f := i - 0x2220
     if sub = 2 then some (.bytes (bitmap 64 (d.fenceMembers f)))
     else if sub = 4 then some (.bytes (bitmap 64 (d.fg f).issued))
     else if sub = 5 then n (d.lanes.held.filter fun h => h.task.isNone && (d.cl h.client).pendingFences.contains f).length
     else none)
  else if 0x2240 ≤ i ∧ i < 0x2248 ∧ sub = 7 then n (d.lanes.held.filter fun h => h.task == some (i - 0x2240)).length
  else if 0x4000 ≤ i ∧ i < 0x4200 then
    (let c := i - 0x4000
     if d.isMember then some (objDefault k)
     else if sub = 0x0B then n (((List.range c).map fun j => d.nat (Obj.CL_RET_SIZE j)).sum % 65536)
     else if sub = 0x0C then some (.bytes (resize (d.nat (Obj.CL_RET_SIZE c)) (d.bytesOf k)))
     else if sub = 0x0D then n (d.useMw c % 2 ^ 32)
     else if sub = 0x13 then n (d.lanes.held.filter fun h => h.client == c).length
     else none)
  else none

/-- Objects of supervision, effects and field inputs that are read from elsewhere. -/
def Dev.viewC (d : Dev) (k : Nat) : Option Val :=
  let n := fun (v : Nat) => some (Val.num (v : Int))
  let i := k / 256
  let c := (i - 0x3000) / 16
  if 0x3000 ≤ i ∧ i < 0x3600 ∧ k = Obj.SUP_ACTIVE c then n (d.supActive c)
  else if 0x3000 ≤ i ∧ i < 0x3600 ∧ k = Obj.SUP_LATCHED c then n (d.supLatched c)
  else if Obj.GW_ACTIVE 0 / 256 ≤ i ∧ i < Obj.GW_ACTIVE 0 / 256 + 8 ∧ k % 256 = Obj.GW_ACTIVE 0 % 256 then
    (let p := i - Obj.GW_ACTIVE 0 / 256
     n (b2n (d.active 0x0104 (gwSource p)) + 2 * b2n (d.active 0x010A (gwSource p))))
  else if Obj.GW_SWAP_PENDING 0 / 256 ≤ i ∧ i < Obj.GW_SWAP_PENDING 0 / 256 + 8 ∧ k % 256 = Obj.GW_SWAP_PENDING 0 % 256 then
    n (b2n (d.port (i - Obj.GW_SWAP_PENDING 0 / 256)).swapAt.isSome)
  else if k = Obj.MX_OPEN_MAP then
    some (.bytes (bitmap 64 ((d.rep.conds.filter fun x => x.code == 0x0104 && x.source / 512 == 1).map fun x => x.source - 0x200)))
  else if k = Obj.MX_SHORT_MAP then
    some (.bytes (bitmap 64 ((d.rep.conds.filter fun x => x.code == 0x0103 && x.source / 512 == 1).map fun x => x.source - 0x200)))
  else if k = Obj.FIN_STATES then n (d.finMap 1)
  else if k = Obj.FIN_BREAK_MAP then n (d.finMap 2)
  else if k = Obj.FIN_UNKNOWN_MAP then n (d.finMap 3)
  else if 0x2610 ≤ i ∧ i < 0x2630 ∧ k = Obj.FIN_STATE (i - 0x2610) then n (d.finState (i - 0x2610))
  else none

/-- Objects of the Ember store, journal, capture, conditions and replay that are read from elsewhere. -/
def Dev.viewD (d : Dev) (k : Nat) : Option Val :=
  let n := fun (v : Nat) => some (Val.num (v : Int))
  if k = Obj.EMB_SEQ_NEXT then n (d.ember.seqNext % 2 ^ 64)
  else if k = Obj.EMB_RET_DIRTY then n (min 255 d.ember.dirty.length)
  else if k = Obj.JNL_CAPACITY_MIB then n d.jnlCapacity
  else if k = Obj.JNL_HEAD_SEG then n d.jnl.head
  else if k = Obj.JNL_OLDEST_SEG then n (((d.jnl.segs.find? fun g => !g.frozen).map Seg.num).getD d.jnl.head)
  else if k = Obj.JNL_BOOT_SEG then n d.jnl.boot
  else if k = Obj.JNL_RATE_AVG then n (sat (2 ^ 32 - 1) (d.eventBytes 6000000000 / 60))
  else if k = Obj.JNL_RATE_PEAK then n (sat (2 ^ 32 - 1) d.jnl.ratePeak)
  else if k = Obj.JNL_BUF_FILL then n d.bufFill
  else if k = Obj.JNL_BUF_PEAK then n (d.jnl.peak % 2 ^ 32)
  else if k = Obj.JNL_OVERRUN_RECORDS then n (d.nat k + d.jnl.lost)
  else if k = Obj.JNL_FREEZE_MIB then n d.frozenMib
  else if k = Obj.JNL_FREEZE_QUOTA_MIB then n (d.jnlCapacity / 4)
  else if k = Obj.ASH_LAST_SEG then n (d.jnl.head - 1)
  else if k = Obj.ASH_LAST_SEAL then some (.bytes (padTo 32 d.jnl.lastSeal))
  else if k = Obj.CAP_RATE_BYTES then n d.captureRate
  else if k = Obj.CAP_FULL_US then n d.fullUs
  else if k = Obj.CAP_FROZEN_COUNT then n (d.jnl.caps.filter Capture.frozen).length
  else if k = Obj.CAP_DIRECTORY then some (.bytes d.capDirectory)
  else if k = Obj.COND_ACTIVE_COUNT then n d.rep.conds.length
  else if k = Obj.COND_ACTIVE_LIST then some (.bytes d.condList)
  else if k = Obj.COND_HISTORY then some (.bytes d.condHistory)
  else if k = Obj.REPLAY_DEVICE_TIME then n (if d.frozen then d.replay.clock else d.nat k)
  else if k = Obj.REPLAY_ROOM_MIB then n d.replayRoom
  else if k = Obj.REPLAY_BOOT_TABLE then some (.bytes (padTo 1024 d.replay.bootTable.flatten))
  else none

/-- Objects of the ring, power, life cycle, firmware, termite and service port that are read from elsewhere. -/
def Dev.viewE (d : Dev) (k : Nat) : Option Val :=
  let n := fun (v : Nat) => some (Val.num (v : Int))
  let st := d.nat Obj.HO_STATE
  let t := k / 256 - 0x2511
  let s := d.slot t
  let known := s.base || (look s.blocks 0).isSome
  if k = Obj.RING_TIME_NOW then n d.ringTime
  else if k = Obj.RING_MASTER_NODE then n (if d.isMember then d.nat k else d.nodeId % 256)
  else if Obj.POS_NODE_ID 0 / 256 ≤ k / 256 ∧ k / 256 < Obj.POS_NODE_ID 16 / 256 ∧ k % 256 = Obj.POS_NODE_ID 0 % 256 then
    (let p := k / 256 - Obj.POS_NODE_ID 0 / 256
     n (if d.isMaster ∧ p < d.nat Obj.RING_SIZE then (d.nodeId + p) % 256 else 0))
  else if k = Obj.RING_WRAPPED then n (b2n (d.hop 0).down + 2 * b2n (d.hop 1).down)
  else if k = Obj.PORT_STATE 0 ∨ k = Obj.PORT_STATE 1 then
    n (if d.nat Obj.RING_ROLE = 0 then 0 else if d.bypassClosed then 4 else if (d.hop (k / 256 - 0x2401)).down then 3 else 2)
  else if k = Obj.RING_BYPASSED then
    n (if d.isMaster then ((List.range (d.nat Obj.RING_SIZE)).filter fun p => !bit (d.nat Obj.RING_ADMITTED) p).foldl (fun m p => m + 2 ^ p) 0 else 0)
  else if k = Obj.BAT_REMAIN_MIN then
    (let i := d.num Obj.BAT_I_UA
     let v := if 0 < i ∧ d.num Obj.BAT_REST_I_UA < i then (d.num Obj.BAT_CHARGE_MAH).toNat * 60000 / i.toNat else 0xFFFF
     n (if v < 65536 then v else Config.openNat 429 [(v : Int)] % 65536))
  else if k = Obj.HO_ON_BAT_MS then n (if st = 2 ∨ st = 3 then (d.now - d.nat Obj.HO_LAST) / 100000 % 2 ^ 32 else 0)
  else if k = Obj.AUT_ACTIVE then n (b2n (decide (d.nat Obj.AUT_FACTOR < 65536)))
  else if k = Obj.LC_STATE then n d.lc.code
  else if k = Obj.AUTH_LOCKOUT_S then n ((d.admin.lockEnd.map fun e => secondsLeft e d.now).getD 0)
  else if k = Obj.FW_PROBATION_LEFT_S then
    n (if d.nat Obj.FW_PROBATION ≠ 0 ∧ d.kindledPast then secondsLeft (d.lanes.kindledAt + probationTicks) d.now else 0)
  else if k = Obj.FW_UPD_LENGTH then
    n (if d.nat Obj.FW_UPD_STATE ≠ 0 ∧ (look (d.slot d.updSlot).blocks 0).isSome then (d.slot d.updSlot).bodyLen else 0)
  else if 0x2511 ≤ k / 256 ∧ k / 256 < 0x2513 then
    (if k = Obj.SLOT_STATE t then n (d.slotState t)
     else if k = Obj.SLOT_VERSION t then n (if known then s.version else 0)
     else if k = Obj.SLOT_SECVER t then n (if known then s.secVer else 0)
     else if k = Obj.SLOT_CFG_FORMAT t then n (if known then s.cfgFormat else 0)
     else if k = Obj.SLOT_BLOCKS t then n (if s.base then Config.openNat 543 [(t : Int)] % 256 else s.blocks.length)
     else if k = Obj.SLOT_BODY_DIGEST t then some (.bytes (if known then s.bytes 24 32 else List.replicate 32 0))
     else none)
  else if k = Obj.TT_STATE then n d.termiteState
  else if k = Obj.REP_SPARES_FREE then n d.spares.length
  else if k = Obj.REP_ACTIVE_ROWS then n (d.captureRoom / 2048 % 65536)
  else if k = Obj.LK_STATE ∧ d.nat k = 2 then
    n (if d.now ≤ d.test.lkAt + Config.openNat 475 [d.num Obj.LK_PATH, d.num Obj.LK_INDEX, (d.test.lkAt : Int)] then 1 else 2)
  else if k = Obj.SVC_SESSION_PEER then n (if d.admin.sessionOpen then d.admin.sessionPeer % 2 ^ 64 else 0)
  else none

/-- Objects that report a measurement whose value no rule of the spec gives; the value is free (log entry 16). -/
def measured : List Nat :=
  [Obj.EMB_FREE_KIB, Obj.EMB_LIVE_KIB, Obj.BANK_PENDING_BYTES, Obj.JNL_HISTORY_S, Obj.CAP_SRAM_FILL,
   Obj.LAD_THROTTLED, Obj.REPLAY_RATE_PM, Obj.SVC_LINK]

/-- The same for objects of which there are several. -/
def measuredOf (k : Nat) : Bool :=
  let i := k / 256
  let s := k % 256
  measured.contains k || (decide (0x2010 ≤ i) && decide (i < 0x2038) && s == 2 && i != 0x2035 && i != 0x2036) ||
    (decide (0x2201 ≤ i) && decide (i < 0x2204) && s == 0x0B) ||
    (decide (0x2610 ≤ i) && decide (i < 0x2630) && (k == Obj.FIN_FIELD_MV (i - 0x2610) || k == Obj.FIN_CURRENT_UA (i - 0x2610)))

/-- Counts and maxima since reset of what the front ends, links and schedulers meet and no command brings: each is 0 at
reset and never falls (log entry 16). -/
def tallied : List Nat :=
  [Obj.ASH_SEAL_LAT_MAX_US, Obj.ASH_PREEMPTED, Obj.LAD_WAIT_US_5, Obj.LAD_WAIT_US_6, Obj.LAD_WAIT_US_7,
   Obj.LAD_WAIT_US_8, Obj.EXEC_LAT_MAX_US, Obj.RING_RX_CRC_ERR, Obj.LK_SYNC_LOSS]

/-- The same for objects of which there are several. -/
def talliedOf (k : Nat) : Bool :=
  let i := k / 256
  let s := k % 256
  tallied.contains k || (decide (0x2010 ≤ i) && decide (i < 0x2038) && (s == 3 || s == 4)) ||
    ((i == 0x2401 || i == 0x2402) && s == 2)

/-- Counts over life of what a journal die's ECC meets (Table 9.15): they never fall either. -/
def lifeTallied (k : Nat) : Bool :=
  decide (0x2311 ≤ k / 256) && decide (k / 256 < 0x2318) && (k % 256 == 6 || k % 256 == 7)

/-- A tally after a number of ticks, or of seconds of powered time: what each adds is free, of the object, the boot and
the tick. -/
def tally (k boot : Nat) : Nat → Nat
  | 0 => 0
  | t + 1 => tally k boot t + Config.openNat 45 [(k : Int), (boot : Int), (t : Int)]

/-- The block as its objects show it: during a run of the replay with the replayed device time, but for the lockout. -/
def Dev.shown (d : Dev) (k : Nat) : Dev := if d.frozen && k != Obj.AUTH_LOCKOUT_S then { d with now := d.replay.clock } else d

/-- The value a read returns (R497). -/
def Dev.view (d0 : Dev) (k : Nat) : Val :=
  let d := d0.shown k
  if measuredOf k then .num (Config.openNat k [(d.now : Int), (d.nat Obj.RESET_COUNT : Int)] % counterMod k : Nat)
  else if talliedOf k then .num ((d.nat k + tally k (d.nat Obj.RESET_COUNT) d.ticks) % counterMod k : Nat)
  else if lifeTallied k then .num (tally k 0 (d.nat Obj.POWERED_TIME_S) % counterMod k : Nat)
  else match d.viewA k with
    | some v => v
    | none => match d.viewB k with
      | some v => v
      | none => match d.viewC k with
        | some v => v
        | none => match d.viewD k with
          | some v => v
          | none => (d.viewE k).getD (d.val k)

/-- The bytes a read returns; a reserved sub-index reads as 0 (R21). -/
def Dev.read (d : Dev) (k : Nat) : List Byte :=
  match objRow k with
  | some r => encodeVal r.ty (d.view k)
  | none => [0]

/-- The staged value of an object, as the staged half holds it (R516). -/
def Dev.readStaged (d : Dev) (k : Nat) : List Byte :=
  match objRow k with
  | some r => encodeVal r.ty (storeVal d.staged k)
  | none => [0]

/-- Why a read is refused, 0 where it is not: no such index, no such sub-index, write-only (R494, R499). -/
def readRefusal (k : Nat) : Nat :=
  if !indexExists (k / 256) then 0x06020000
  else if highestSub (k / 256) < k % 256 then 0x06090011
  else match objRow k with
    | some r => if r.access == .wo then 0x06010001 else 0
    | none => 0

end Sys2Proof.Machine
end

