-- ==== Sys2Proof/Machine/Admin.lean ====
section
/-! DEFINITION. The service port's answers and sessions, life-cycle requests, key installation and firmware updates
(R438 to R460, R511 to R519). -/
namespace Sys2Proof.Machine

/-! ### The port (R511 to R515) -/

/-- Does the stoker run, or the loader: from kindling phase 3 on (R51, R458)? -/
def Dev.stokerRuns (d : Dev) : Bool := !(d.op == .kindling && decide (d.nat Obj.KINDLE_PHASE < 3))

/-- Does the port hear anything? In the loader and before a configuration is installed it uses the defaults, by which
it is enabled (Table 16.12). -/
def Dev.portOn (d : Dev) : Bool :=
  d.stokerRuns && (d.op == .loader || d.op == .kindling || d.nat Obj.SVC_USE == 1)

/-- The port's own IPv4 address. -/
def Dev.portAddr (d : Dev) : Nat :=
  if d.op = .loader ∨ d.op = .kindling then 0xC0A86008 else d.nat Obj.SVC_IPV4_ADDR

/-- A datagram is answered; an answer with a status other than 0 is counted, a busy one as such too. -/
def Dev.svcAnswer (d : Dev) (peer opcode req status : Nat) (payload : List Byte := []) : Dev :=
  let d := d.emit (.svc peer (opcode + 0x80) req status payload)
  let d := if status = 0 then d else d.count Obj.SVC_REFUSED
  if status = 1 then d.count Obj.SVC_BUSY_COUNT else d

/-- Is rung 8 shed (R31)? -/
def Dev.portShed (d : Dev) : Bool := bit (d.nat Obj.SHED_STATE) 0

/-- A request that is heard is accepted and counted; while rung 8 is shed, every request but a READ is answered
busy. -/
def Dev.svcRequest (d : Dev) (peer opcode req : Nat) (f : Dev → Dev) : Dev :=
  if d.portOn then
    let d := d.count Obj.SVC_RX_DATAGRAMS
    if d.portShed && opcode != 1 then d.svcAnswer peer opcode req 1 else f d
  else d

/-- Bytes 0 to 15 + L of a request (Table 16.13). -/
def datagram (opcode req counter : Nat) (payload : List Byte) : List Byte :=
  leBytes 2 0xF1E7 ++ leBytes 1 1 ++ leBytes 1 opcode ++ leBytes 4 req ++ leBytes 2 0 ++ leBytes 2 payload.length ++
    leBytes 4 counter ++ payload

/-! ### Sessions (R447, R448, R517) -/

/-- The status of the session checks on a write datagram: 0 where tag and counter pass, or where none is needed. -/
def Dev.sessionCheck (d : Dev) (peer counter : Nat) (tag bytes : List Byte) : Nat :=
  let a := d.admin
  if !a.sessionOpen || a.sessionPeer != peer then 4
  else if tag ≠ (hmac256 a.sessionKey bytes).take 16 then 4
  else if counter ≤ a.lastCounter then 5
  else 0

/-- Is the datagram a repeat of the last accepted one? -/
def Dev.sessionRepeat (d : Dev) (peer counter : Nat) (tag : List Byte) : Option Out :=
  let a := d.admin
  if a.sessionOpen && a.sessionPeer == peer && counter == a.lastCounter && tag == a.lastTag then a.lastAnswer else none

/-- What a request marked as a write needs in the present life-cycle state: none where it is not permitted, else
whether it needs a session (Table 13.1, R458, R498). `inService` marks what SERVICE permits. -/
def Dev.writeNeeds (d : Dev) (inService : Bool) : Option Bool :=
  match d.lc with
  | .factory | .provision => some false
  | .service => if inService then some true else none
  | .maintenance | .replay => some true
  | .retired => none

/-- The answer to an accepted write datagram is kept for a repeat of it. -/
def Dev.svcDone (d : Dev) (peer opcode req counter status : Nat) (tag payload : List Byte) (inSession : Bool) : Dev :=
  let d := d.svcAnswer peer opcode req status payload
  if inSession && d.admin.sessionOpen then
    { d with admin := { d.admin with
        lastCounter := counter, lastTag := tag, lastSeen := d.now
        lastAnswer := some (.svc peer (opcode + 0x80) req status payload) } }
  else d

/-- A request marked as a write: the life-cycle state, the session, then what it does, with its status and answer. -/
def Dev.svcWrite (d : Dev) (peer opcode req counter : Nat) (tag bytes : List Byte) (inService : Bool)
    (f : Dev → Dev × Nat × List Byte) : Dev :=
  d.svcRequest peer opcode req fun (d : Dev) =>
    match d.writeNeeds inService with
    | none => d.svcAnswer peer opcode req 3
    | some false =>
      let r := f d
      r.1.svcDone peer opcode req counter r.2.1 tag r.2.2 false
    | some true =>
      match d.sessionRepeat peer counter tag with
      | some o => d.emit o
      | none =>
        let st := d.sessionCheck peer counter tag (datagram opcode req counter bytes)
        if st = 0 then
          let r := f { d with admin := { d.admin with lastCounter := counter } }
          r.1.svcDone peer opcode req counter r.2.1 tag r.2.2 true
        else
          (if d.admin.sessionOpen && d.admin.sessionPeer == peer then d.count Obj.AUTH_FAILS else d).svcAnswer peer opcode req st

/-- AUTH_CHALLENGE: the next nonce of the entropy source, unless the lockout runs. -/
def Dev.challenge (d : Dev) (peer req : Nat) : Dev :=
  d.svcRequest peer 0x10 req fun (d : Dev) =>
    if d.admin.lockEnd.isSome then d.svcAnswer peer 0x10 req 6
    else
      let n := leBytes 16 (Config.nonce d.freeCount)
      let d := { d with freeCount := d.freeCount + 1, admin := { d.admin with nonce := some n } }
      d.authShow.svcAnswer peer 0x10 req 0 n

/-- "UN968-AUTH" and "UN968-SESS". -/
def authLabel : List Byte := [0x55, 0x4E, 0x39, 0x36, 0x38, 0x2D, 0x41, 0x55, 0x54, 0x48]
def sessLabel : List Byte := [0x55, 0x4E, 0x39, 0x36, 0x38, 0x2D, 0x53, 0x45, 0x53, 0x53]

/-- The lockout in ticks after n consecutive failures: 10 s at the third, doubled by each further one, at most
3600 s. -/
def lockout (n : Nat) : Nat := 100000000 * min 3600 (10 * 2 ^ (n - 3))

/-- A failed response. -/
def Dev.authFail (d : Dev) : Dev :=
  let n := d.admin.fails + 1
  let d := { d with admin := { d.admin with
    fails := n, nonce := none, lockEnd := if 3 ≤ n then some (d.now + lockout n) else d.admin.lockEnd } }
  (d.count Obj.AUTH_FAILS).authShow

/-- A matching response opens a session in place of any open one. -/
def Dev.authOpen (d : Dev) (peer : Nat) (key nd nh : List Byte) : Dev :=
  { d with admin := { d.admin with
      fails := 0, nonce := none, lockEnd := none, sessionOpen := true, sessionPeer := peer
      sessionKey := hmac256 key (sessLabel ++ nd ++ nh)
      lastCounter := 0, lastTag := [], lastAnswer := none, lastSeen := d.now, maintRun := 0 } }.authShow

/-- AUTH_RESPONSE; the digest work runs at M04 as requester 0. -/
def Dev.response (d : Dev) (peer req : Nat) (nh resp : List Byte) : Dev :=
  if nh.length ≠ 16 ∨ resp.length ≠ 32 then d
  else d.svcRequest peer 0x11 req fun (d : Dev) =>
    match d.admin.nonce with
    | none => d.svcAnswer peer 0x11 req 4
    | some nd =>
      let d := d.digestOnce 0
      match d.authKey with
      | some key =>
        if resp = hmac256 key (authLabel ++ leBytes 8 (d.nat Obj.SERIAL_NUMBER) ++ nd ++ nh) then
          (d.authOpen peer key nd nh).svcAnswer peer 0x11 req 0
        else d.authFail.svcAnswer peer 0x11 req 4
      | none => d.authFail.svcAnswer peer 0x11 req 4

/-- SESSION_CLOSE: within its session in every state that has one. -/
def Dev.sessionClose (d : Dev) (peer req counter : Nat) (tag : List Byte) : Dev :=
  d.svcWrite peer 0x12 req counter tag [] true fun (d : Dev) =>
    if d.admin.sessionOpen && d.admin.sessionPeer == peer then (d.endSession, 0, []) else (d, 4, [])

/-- AUTH_IDLE_EXPIRY. -/
def Dev.idleEnd (d : Dev) : Dev :=
  if d.admin.sessionOpen ∧ d.admin.lastSeen + 100000000 * d.nat Obj.AUTH_IDLE_S ≤ d.now then d.endSession else d

/-- AUTH_LOCKOUT_EXPIRY. -/
def Dev.lockoutEnd (d : Dev) : Dev :=
  match d.admin.lockEnd with
  | some t => if t ≤ d.now then { d with admin := { d.admin with lockEnd := none } }.authShow else d
  | none => d

/-! ### Reads of the port (R514, R516) -/

/-- READ: the object's bytes, the staged half's where the flag asks for it. -/
def Dev.svcRead (d : Dev) (peer req key : Nat) (stagedHalf : Bool) (off len : Nat) : Dev :=
  d.svcRequest peer 1 req fun (d : Dev) =>
    let d := d.grantAt 9 2
    let no := fun (code : Nat) => d.svcAnswer peer 1 req 7 (leBytes 4 code)
    let half := stagedHalf && cfgKey key
    if len < 1 ∨ 1024 < len then d.svcAnswer peer 1 req 2
    else if readRefusal key ≠ 0 then no (readRefusal key)
    else if half && decide (d.stageSt < 2) then no 0x08000022
    else
      let b := if half then d.readStaged key else d.read key
      if b.length < off then d.svcAnswer peer 1 req 2
      else d.svcAnswer peer 1 req 0 (leBytes 4 b.length ++ (b.drop off).take len)

/-- JOURNAL_INFO. -/
def Dev.svcJournal (d : Dev) (peer req : Nat) : Dev :=
  d.svcRequest peer 0x20 req fun (d : Dev) =>
    d.svcAnswer peer 0x20 req 0 (d.read Obj.JNL_HEAD_SEG ++ d.read Obj.JNL_OLDEST_SEG ++ d.read Obj.JNL_BOOT_SEG ++
      d.read Obj.ASH_LAST_SEG)

/-- SEGMENT_READ: a sealed segment's bytes as programmed. -/
def Dev.svcSegment (d : Dev) (peer req seg off len : Nat) : Dev :=
  d.svcRequest peer 0x21 req fun (d : Dev) =>
    if len < 1 ∨ 1024 < len ∨ off % 1024 ≠ 0 ∨ 65536 ≤ off then d.svcAnswer peer 0x21 req 2
    else match d.jnl.segs.find? fun (g : Seg) => g.num == seg with
      | some g => d.svcAnswer peer 0x21 req 0 ((g.bytes.drop off).take len)
      | none => d.svcAnswer peer 0x21 req 8

/-- EXTRACT_READ. -/
def Dev.svcExtract (d : Dev) (peer req off len : Nat) : Dev :=
  d.svcRequest peer 0x22 req fun (d : Dev) =>
    if len < 1 ∨ 1024 < len then d.svcAnswer peer 0x22 req 2
    else if d.nat Obj.XB_STATE ≠ 1 then d.svcAnswer peer 0x22 req 8
    else if d.replay.built.length < off then d.svcAnswer peer 0x22 req 2
    else d.svcAnswer peer 0x22 req 0 ((d.replay.built.drop off).take len)

/-- An ARP request for the port's address. -/
def Dev.svcArp (d : Dev) (peer target : Nat) : Dev := if d.portOn ∧ target = d.portAddr then d.emit (.arp peer) else d

/-- An ICMP echo request of up to 1472 bytes. -/
def Dev.svcEcho (d : Dev) (peer target : Nat) (data : List Byte) : Dev :=
  if d.portOn ∧ target = d.portAddr ∧ data.length ≤ 1472 then d.emit (.icmp peer data) else d

/-! ### Life-cycle control (R440, R445, R446) -/

/-- LC_MAINT_CONTROL: 1 changes SERVICE to MAINTENANCE, 0 back, at once. -/
def Dev.maintControl (d : Dev) (v : Nat) : Dev :=
  if v = 1 ∧ d.lc = .service then { d with lc := .maintenance, admin := { d.admin with maint := true, maintRun := 0 } }
  else if v = 0 ∧ d.lc = .maintenance then 
    { d with lc := .service, admin := { d.admin with maint := false, maintRun := 0 }, ins := { d.ins with jtag := false, tapIr := 1 } }
  else d

/-- The update in progress is abandoned; its slot is erased at the next open (Table 13.4). -/
def Dev.updAbandon (d : Dev) : Dev :=
  if d.nat Obj.FW_UPD_STATE = 0 then d
  else (d.setSlot d.updSlot { d.slot d.updSlot with verified := false, parts := [] }).put Obj.FW_UPD_STATE 0 |>.digestEnd 3

/-- MAINT_LIMIT_EXPIRY: back to SERVICE, and an update in progress is abandoned (Table 13.6). -/
def Dev.maintLimit (d : Dev) : Dev :=
  if d.lc = .maintenance ∧ !d.admin.sessionOpen ∧ 6000000000 * d.nat Obj.LC_MAINT_LIMIT_MIN ≤ d.admin.maintRun then
    (d.maintControl 0).updAbandon
  else d

/-- The refusals of a transition request that its state gives: the transition, a probation, an update in progress, and
in HALT-SAFE every target but RETIRED (R445, R455, R459). -/
def Dev.lcStateRefuses (d : Dev) (target : Nat) : Bool :=
  !d.lcPermits target || d.nat Obj.FW_PROBATION != 0 || d.nat Obj.FW_UPD_STATE != 0 || (d.op == .haltSafe && target != 5)

/-- The refusals that no other check covers: the serial bytes, and no free transition slot (R444, R445). -/
def Dev.lcRefuses (d : Dev) (serialLow : Nat) : Bool :=
  serialLow != d.nat Obj.SERIAL_NUMBER % 2 ^ 32 || d.freeSlot.isNone

/-- A transition: the rows, the steps and the reset (R442). -/
def Dev.lcGo (d : Dev) (target : Nat) : Dev := (d.lcTransit target).resetSelf 3

/-- LC_REQUEST as it is written (R445). -/
def lcBytes (target serialLow : Nat) : List Byte := leBytes 1 target ++ [0, 0, 0] ++ leBytes 4 serialLow

/-! ### Firmware updates (R451 to R456, R518) -/

/-- Does the update state refuse a FW_UPD_CONTROL value? -/
def Dev.updRefuses (d : Dev) (v : Nat) : Bool :=
  let st := d.nat Obj.FW_UPD_STATE
  if v = 1 then st != 0
  else if v = 2 then st != 2 || !(d.slot d.updSlot).complete
  else if v = 3 then st != 4 || d.stageSt != 0
  else st == 0

/-- FW_UPD_CONTROL := 1: the erase of the inactive slot begins under its intent. -/
def Dev.updOpen (d : Dev) : Dev :=
  let d := (d.setSlot d.updSlot {}).ember1 0x10 [3]
  { d with ember := { d.ember with intents := d.ember.intents ++ [2] } }.put Obj.FW_UPD_STATE 1

/-- The slot erase completes. -/
def Dev.updErased (d : Dev) : Dev :=
  if d.nat Obj.FW_UPD_STATE = 1 then
    let d := d.ember1 0x11 [3]
    { d with ember := { d.ember with intents := d.ember.intents.erase 2 } }.put Obj.FW_UPD_STATE 2
  else d

/-- FW_UPD_CONTROL := 2: verification begins at M04 as requester 3. -/
def Dev.updVerify (d : Dev) : Dev := (d.digestBegin 3).put Obj.FW_UPD_STATE 3

/-- Verification ends. -/
def Dev.updVerified (d : Dev) : Dev :=
  if d.nat Obj.FW_UPD_STATE = 3 then
    let d := d.digestDone 3
    let c := d.imageCause (d.slot d.updSlot)
    if c = 0 then (d.setSlot d.updSlot { d.slot d.updSlot with verified := true }).put Obj.FW_UPD_STATE 4
    else ((d.put Obj.FW_UPD_STATE 5).put Obj.FW_REJECT_CAUSE c).raiseC 0x0704 0xFFFF c
  else d

/-- FW_UPD_CONTROL := 3: TRIAL, a bank, and the reset. The loader has no records to bank. -/
def Dev.updActivate (d : Dev) : Dev :=
  let d := d.setSlot d.updSlot { d.slot d.updSlot with trial := true, trialNo := d.nat Obj.FW_UPDATE_COUNT }
  (if d.op = .loader then d else d.bankDark.bankNow).resetSelf 3

/-- A block part in RECEIVING: the status, and whether the block is complete and programmed. -/
def Dev.fwPart (d : Dev) (block part crc : Nat) (data : List Byte) : Dev × Nat × List Byte :=
  let i := d.updSlot
  let s := d.slot i
  if 254 < block ∨ 3 < part ∨ data.length ≠ 1024 then (d, 2, [])
  else if d.nat Obj.FW_UPD_STATE ≠ 2 ∨ (look s.blocks block).isSome then (d, 3, [])
  else
    let ps := tabIns s.parts (4 * block + part) data
    let got := [0, 1, 2, 3].filterMap fun (j : Nat) => look ps (4 * block + j)
    let rest := [0, 1, 2, 3].foldl (fun (m : Tab (List Byte)) j => tabDrop m (4 * block + j)) ps
    if got.length < 4 then (d.setSlot i { s with parts := ps }, 0, [0])
    else if crc32c got.flatten ≠ crc then (d.setSlot i { s with parts := rest }, 9, [])
    else (d.setSlot i { s with parts := rest, blocks := tabIns s.blocks block got.flatten }, 0, [1])

/-- Are firmware updates permitted in the present state: FACTORY, PROVISION and MAINTENANCE; in the loader in SERVICE
as well (Table 13.1, R458)? -/
def Dev.updPermitted (d : Dev) : Bool :=
  d.lc == .factory || d.lc == .provision || d.lc == .maintenance || (d.op == .loader && d.lc == .service)

/-- FW_BLOCK. -/
def Dev.fwBlock (d : Dev) (peer req counter : Nat) (tag : List Byte) (block part crc : Nat) (data : List Byte) : Dev :=
  d.svcWrite peer 0x31 req counter tag (leBytes 2 block ++ leBytes 1 part ++ [0] ++ leBytes 4 crc ++ data) (d.op == .loader)
    fun (d : Dev) => if d.updPermitted then d.fwPart block part crc data else (d, 3, [])

/-- Is FW_CONFIRM late or out of place: no probation, before KINDLED, from the closing tick on, or in HALT-SAFE (R455,
R459)? -/
def Dev.confirmRefused (d : Dev) : Bool :=
  d.nat Obj.FW_PROBATION == 0 || !d.kindledPast || decide (d.lanes.kindledAt + probationTicks ≤ d.now) || d.op == .haltSafe

/-- FW_CONFIRM: CONFIRMED with the next sequence, and what follows it (R456). -/
def Dev.fwConfirm (d : Dev) : Dev :=
  let i := d.nat Obj.FW_ACTIVE_SLOT
  let s := (d.slot (1 - i)).confirmed + 1
  let d := (d.setSlot i { d.slot i with confirmed := s }).put Obj.FW_PROBATION 0
  (d.confirmFollow i).count Obj.FW_UPDATE_COUNT

/-! ### Commands that are no writes of an object -/

/-- SVC_READ (R516). -/
def execSvcRead (peer req : Nat) (key : Fin 16777216) (stagedHalf : Bool) (offset length : Nat) (s : State) :=
  s.port fun d => d.svcRead peer req key.val stagedHalf offset length

/-- AUTH_CHALLENGE (R447, R448). -/
def execAuthChallenge (peer req : Nat) (s : State) := s.port fun d => d.challenge peer req

/-- AUTH_RESPONSE (R447, R448). -/
def execAuthResponse (peer req : Nat) (hostNonce response : List Byte) (s : State) :=
  s.port fun d => d.response peer req hostNonce response

/-- SESSION_CLOSE (R447). -/
def execSessionClose (peer req counter : Nat) (tag : List Byte) (s : State) :=
  s.port fun d => d.sessionClose peer req counter tag

/-- AUTH_IDLE_EXPIRY (R447). -/
def execAuthIdleExpiry (s : State) := s.port Dev.idleEnd

/-- AUTH_LOCKOUT_EXPIRY (R448). -/
def execAuthLockoutExpiry (s : State) := s.port Dev.lockoutEnd

/-- JOURNAL_INFO (R514). -/
def execJournalInfo (peer req : Nat) (s : State) := s.port fun d => d.svcJournal peer req

/-- SEGMENT_READ (R514). -/
def execSegmentRead (peer req seg offset length : Nat) (s : State) := s.port fun d => d.svcSegment peer req seg offset length

/-- EXTRACT_READ (R514). -/
def execExtractRead (peer req offset length : Nat) (s : State) := s.port fun d => d.svcExtract peer req offset length

/-- ARP_REQUEST (R511). -/
def execArpRequest (peer target : Nat) (s : State) := s.port fun d => d.svcArp peer target

/-- ICMP_ECHO (R511). -/
def execIcmpEcho (peer target : Nat) (data : List Byte) (s : State) := s.port fun d => d.svcEcho peer target data

/-- FW_BLOCK (R451, R518). -/
def execFwBlock (peer req counter : Nat) (tag : List Byte) (block part crc : Nat) (data : List Byte) (s : State) :=
  s.port fun d => d.fwBlock peer req counter tag block part crc data

/-- FW_ERASE_DONE (R451). -/
def execFwEraseDone (s : State) := s.port Dev.updErased

/-- FW_VERIFY_DONE (R450, R451). -/
def execFwVerifyDone (s : State) := s.port Dev.updVerified

/-- MAINT_LIMIT_EXPIRY (R440). -/
def execMaintLimitExpiry (s : State) := s.port Dev.maintLimit

end Sys2Proof.Machine
end

