-- ==== Sys2Proof/Machine/Ring.lean ====
section
/-! DEFINITION. The ring: its time, commits, joining, wrap and bypass, and the frames between the master and its members
(R190 to R194, R371 to R397, R466). -/
namespace Sys2Proof.Machine

/-- A member on the ring: ACTIVE or LOST. -/
def Dev.onRing (d : Dev) : Bool := d.isMember && (d.nat Obj.RING_STATE == 4 || d.nat Obj.RING_STATE == 5)

/-- The lane-side COMMAND sequence a member expects: one above the last, 0 where none has come since admission. -/
def Dev.rxNext (d : Dev) (cls : Nat) : Nat := lookD 0 d.ring.rxSeq cls

/-- The sequence of a class taken. -/
def Dev.rxTake (d : Dev) (cls seq : Nat) : Dev :=
  { d with ring := { d.ring with rxSeq := tabPut 0 d.ring.rxSeq cls (seq + 1) } }

/-- A frame that is new: the next of its class, or the first since admission. -/
def Dev.rxFresh (d : Dev) (cls seq : Nat) : Bool := d.rxNext cls == 0 || d.rxNext cls % 2 ^ 32 == seq

/-- A gap in the sequence of a class is answered by NAK with the first missing one (R380). -/
def Dev.rxGap (d : Dev) (cls seq : Nat) : Dev :=
  if d.rxNext cls ≠ 0 ∧ d.rxNext cls < seq then d.ringSend 0x13 0 (ringPayload 0x13 [(cls : Int), (d.rxNext cls : Int)]) else d

/-- A valid ring frame from the master (R387): a silence ends. -/
def Dev.masterHeard (d : Dev) (halted : Bool) : Dev :=
  if halted then d else ({ d with ring := { d.ring with lastMaster := d.now } }.put Obj.RING_LAST_MASTER_RX d.now).silenceOver

/-- A frame that the journal records: commands, commits, fences and ring time (Table 9.7). -/
def Dev.frameRec (d : Dev) (port cls : Nat) (fields : List Int) (data : List Byte := []) : Dev :=
  d.jrec 0x03 ([(port : Int), (cls : Int)] ++ fields) data

/-! ### Frames on their way round the ring (R35, R379) -/

/-- The source of a ring position. -/
def ringSource (p : Nat) : Nat := 0xC00 + p

/-- Is the device inserted, so that its hops are its own? -/
def Dev.inserted (d : Dev) : Bool := d.nat Obj.RING_ROLE != 0 && !d.bypassClosed

/-- The port that frames of the ring arrive on: W, and E where this end wraps at W (R372, R393, log entry 134). -/
def Dev.rxPort (d : Dev) : Nat := if (d.hop 0).down then 1 else 0

/-- A frame from a port goes on: own frames of rung 2 that wait at M05 go ahead of it. -/
def Dev.forward (d : Dev) (p : Nat) (x : Out) : Dev :=
  if d.waiters.contains (5, 0) then { d with ring := { d.ring with through := d.ring.through ++ [(p + 1, x)] } }
  else (d.grantAt 5 (p + 1)).emit x

/-- A frame of a port is granted at M08; a standalone device has no ring (R35, R371). -/
def Dev.merged (d : Dev) (p : Nat) : Dev := if d.nat Obj.RING_ROLE = 0 then d else d.grantAt 8 p

/-- A ring frame arrives: it is granted at M08, and a member passes it on unless it is addressed to it. The master removes
every frame. -/
def Dev.arrives (d : Dev) (p : Nat) (dst : Option Nat) (x : Out) : Dev :=
  let d := d.merged p
  if d.isMember ∧ d.inserted ∧ dst ≠ some d.ownPos then d.forward p x else d

/-- An arrival and what it does; in HALT-SAFE a device passes frames on and takes only those of `halts` false (R375). -/
def Dev.received (d : Dev) (p : Nat) (dst : Option Nat) (x : Out) (halts : Bool) (f : Dev → Dev) : Dev :=
  let d := d.arrives p dst x
  if halts && d.op == .haltSafe then d else f d

/-- Own telemetry goes behind the frames that have arrived on this instant and wait. -/
def Dev.sendLast (d : Dev) (cls dst : Nat) (payload : List Byte) : Dev :=
  let x := d.ringOut cls dst payload 0
  if d.ring.through ≠ [] ∨ d.waiters.any (fun w => w.1 == 8) then
    let d := d.ringTake cls dst payload
    { d with ring := { d.ring with through := d.ring.through ++ [(0, x)] } }
  else ((d.grantAt 5 0).ringTake cls dst payload).emit x

/-- The instant is over: what gave way at M05 goes out, forwarded frames first and telemetry last. -/
def Dev.ringDrain (d : Dev) : Dev :=
  let q := if d.inserted && !d.power.banked then d.ring.through else []
  ((q.filter fun x => x.1 != 0) ++ q.filter fun x => x.1 == 0).foldl (fun (d : Dev) (x : Nat × Out) => (d.grantAt 5 x.1).emit x.2)
    { d with ring := { d.ring with through := [] } }

/-- A RING_TIME frame as it is passed on: its correction has grown by the residence time, which is open (R388). -/
def timeFrame (r : RingTime) (now : Nat) : Out :=
  let corr := r.corr + (Config.openNat 388 [(r.seq : Int), (now : Int)] : Nat)
  .ring 0x01 (1 + 4 * b2n r.halted + 8 * b2n (decide (r.window ≤ r.stamp + 10000))) r.src.val 0 r.seq
    (leBytes 8 r.stamp ++ leBytes 4 (corr % 2 ^ 32).toNat ++ leBytes 8 r.window)

/-- A COMMAND frame as it is passed on. -/
def commandFrame (f : RingCommand) : Out :=
  .ring 0x10 0 0 f.dst.val f.seq (ringPayload 0x10 [(b2n f.first : Int), (b2n f.last : Int),
    match f.nmt with
    | some b => (b.toNat : Int)
    | none => -1, (f.client.val : Int), (f.node.val : Int), (f.key.val : Int)] f.data)

/-- A frame of the master to all, or to a position. -/
def fromMaster (cls : Nat) (dst : Option Nat) (seq : Nat) (payload : List Byte) : Out :=
  .ring cls (b2n dst.isNone) 0 (dst.getD 0) seq payload

/-- A frame of a position to the master. -/
def toMaster (cls pos seq : Nat) (payload : List Byte) : Out := .ring cls 0 pos 0 seq payload

/-- The sequence of a frame whose command does not give it. -/
def openSeq (cls : Nat) (fields : List Int) : Nat := Config.openNat 379 ((cls : Int) :: fields) % 2 ^ 32

/-! ### Insertion windows and commits (R190, R380, R381) -/

/-- COMMIT_REPEAT: the copies that are due are sent, flagged as repeats. -/
def Dev.commitRepeat (d : Dev) : Dev :=
  let due := d.ring.repeats.filter fun (r : Nat × Nat × Nat × List Byte) => decide (r.1 ≤ d.now)
  let rest := d.ring.repeats.filter fun (r : Nat × Nat × Nat × List Byte) => !decide (r.1 ≤ d.now)
  let more := due.filterMap fun (r : Nat × Nat × Nat × List Byte) =>
    if 1 < r.2.1 then some (r.1 + 1000, r.2.1 - 1, r.2.2.1, r.2.2.2) else none
  due.foldl (fun (d : Dev) (r : Nat × Nat × Nat × List Byte) =>
    (d.grantAt 5 0).emit (.ring 0x11 3 d.ownPos 0 r.2.2.1 r.2.2.2)) { d with ring := { d.ring with repeats := rest ++ more } }

/-- INSERTION_WINDOW_END: what was withheld goes out in voted order. -/
def Dev.windowClose (d : Dev) : Dev :=
  if d.ringMaster ∧ !d.withholds then
    d.ring.withheld.foldl (fun (d : Dev) (f : Nat × Nat × List Byte) =>
      if f.1 = 0x11 then d.commitSend f.2.2 else d.ringSend f.1 f.2.1 f.2.2) { d with ring := { d.ring with withheld := [] } }
  else d

/-- ASPECT_COMMIT at a member: the first copy is taken (R190 to R194). -/
def Dev.commitHeard (d : Dev) (seq s a t q : Nat) : Dev :=
  let d := if d.isMember then d.masterHeard false else d
  if d.onRing then
    let d := d.frameRec 0 0x11 [(seq : Int)] (commitBytes s a t q)
    let seen := d.nat (Obj.SG_COMMIT_SEQ s) == q || (d.sgp s).commits.any fun (c : Nat × Nat × Nat) => c.2.2 == q
    if d.sgUsed s && d.nat (Obj.SG_RING s) == 1 && !seen then
      let d := if t ≤ d.ringTime then d.count (Obj.SG_COMMIT_LATE s) else d
      d.commitPend s a t q
    else d
  else d

/-! ### Wrap (R392 to R394) -/

/-- HOP_DOWN: the hop is down and this end wraps; 16 symbols in error are counted. -/
def Dev.hopDown (d : Dev) (p cause : Nat) : Dev :=
  if !d.inserted then d
  else
    let d := if cause = 2 then d.count (Obj.PORT_SYMBOL_ERR p) 16 else d
    if (d.hop p).down then d.setHop p { d.hop p with lockAt := none, unwrapDue := false }
    else
      let d := (d.setHop p { d.hop p with down := true, lockAt := none, unwrapDue := false, reqAt := none }).put (Obj.PORT_LAST_DOWN p) d.now
      let d := (d.count (Obj.PORT_DOWN_COUNT p)).count Obj.RING_WRAP_COUNT
      d.raiseC 0x0501 (ringSource d.ownPos) (p + 1)

/-- HOP_LOCK_REGAINED. -/
def Dev.hopLock (d : Dev) (p : Nat) : Dev := if (d.hop p).down then d.setHop p { d.hop p with lockAt := some d.now } else d

/-- HOP_RESTORE: up for 1 s, the hop unwraps at the next RING_TIME. -/
def Dev.hopRestore (d : Dev) (p : Nat) : Dev :=
  if (d.hop p).down ∧ sinceAtLeast (d.hop p).lockAt 100000000 d.now then d.setHop p { d.hop p with unwrapDue := true } else d

/-- The hops that are due unwrap at a RING_TIME frame; RING_WRAP clears with the last. -/
def Dev.unwrap (d : Dev) : Dev :=
  [0, 1].foldl (fun (d : Dev) p =>
    if (d.hop p).unwrapDue then
      let d := d.setHop p { d.hop p with down := false, lockAt := none, unwrapDue := false }
      if (d.hop (1 - p)).down then d.raiseC 0x0501 (ringSource d.ownPos) (2 - p) else d.clearC 0x0501 (ringSource d.ownPos)
    else d) d

/-! ### Ring time (R387 to R391) -/

/-- RING_TIME_SEND: every 100 us from KINDLED on, in HALT-SAFE with the master-halted flag. -/
def Dev.timeSend (d : Dev) : Dev :=
  if d.ringMaster ∧ d.kindledPast ∧ (d.ring.lastTime = 0 ∨ d.ring.lastTime + 10000 ≤ d.now) then
    let w := (d.now / 1000000 + 1) * 1000000
    let flags := 1 + (if d.op = .haltSafe then 4 else 0) + (if w ≤ d.now + 10000 then 8 else 0)
    let d := d.ringSend 0x01 0 (leBytes 8 d.now ++ leBytes 4 0 ++ leBytes 8 w) flags
    { d with ring := { d.ring with lastTime := d.now } }.unwrap
  else d

/-- What a RING_TIME frame says ring time is at its arrival, in edge units of 312.5 ps: stamp, correction and the delay of
the upstream hop. -/
def Dev.timeAt (d : Dev) (r : RingTime) : Int :=
  32 * (r.stamp : Int) + r.corr + Int.fdiv (16 * d.num (Obj.PORT_HOP_DELAY_NS r.port.val)) 5

/-- Device time in edge units. -/
def Dev.edges (d : Dev) : Int := 32 * (d.now : Int)

/-- The next boundary of a group moved by edge units. -/
def Grp.shifted (r : Grp) (by' : Int) : Grp :=
  let e := (32 * (r.next : Int) + r.nextSub + by').toNat
  { r with next := e / 32, nextSub := e % 32 }

/-- Ring time follows the frame without a step: how far the estimate moves is open, between nothing and the residual,
and ring time never goes back (R389). The boundaries of ring-locked groups move with it (R113). -/
def Dev.timeTrack (d : Dev) (r : RingTime) : Dev :=
  let res := d.timeAt r - (d.edges + d.ring.offset)
  let back : Int := 32 * ((d.now : Int) - d.ring.lastTime)
  let free : Int := Config.openNat 389 [res, (d.now : Int)]
  let move : Int := if 0 ≤ res then min free res else -(min (min free (-res)) back)
  let d := d.putInt Obj.RING_TIME_ERR_NS (clampInt (-32768) 32767 (roundOpenInt 389 (5 * res) 16))
  let d := { d with ring := { d.ring with offset := d.ring.offset + move } }
  (List.range 24).foldl (fun (d : Dev) g =>
    if d.nat (Obj.GRP_RING_LOCK g) = 1 then d.setGr g ((d.gr g).shifted (-move)) else d) d

/-- The grids on a timebase have moved: ring time, or any (R120). -/
def Dev.gridMoves (d : Dev) (lock : Nat) : Dev :=
  (List.range 24).foldl (fun (d : Dev) g =>
    if lock ≤ d.nat (Obj.GRP_RING_LOCK g) then d.setGr g { d.gr g with moved := true } else d) d

/-- A member that was LOST takes ring time from the frame; its grid moves (R120). -/
def Dev.timeSet (d : Dev) (r : RingTime) : Dev :=
  let d := ({ d with ring := { d.ring with offset := d.timeAt r - d.edges } }).gridMoves 1
  (d.put Obj.RING_TIME_VALID 1).put Obj.RING_STATE 4

/-- The member asks to be admitted. -/
def Dev.joinSend (d : Dev) : Dev :=
  let d := d.joinFrame
  { d with ring := { d.ring with joinAt := d.now } }.put Obj.RING_STATE 3

/-- An INSERTED member counts RING_TIME frames in sequence; with the tenth it sends JOIN. -/
def Dev.timeCount (d : Dev) (r : RingTime) : Dev :=
  let n := if d.rxFresh 0x01 r.seq then d.ring.timeFrames + 1 else 1
  let d := { d with ring := { d.ring with timeFrames := n } }.rxTake 0x01 r.seq
  if 10 ≤ n then d.joinSend else d

/-- RING_TIME at a member, by its state (Table 11.6). -/
def Dev.timeHeard (d : Dev) (r : RingTime) : Dev :=
  if !d.isMember ∨ r.src ≠ 0 then d
  else
    let d := d.frameRec r.port.val 0x01 [(r.stamp : Int), r.corr, (r.window : Int)]
    let d := d.masterHeard r.halted
    let d := { d with ring := { d.ring with hops := r.hops } }
    let st := d.nat Obj.RING_STATE
    let d := if st = 0 ∧ (d.up ∨ (d.op = .haltSafe ∧ d.kindledPast)) then d.put Obj.RING_STATE 1
      else if st = 2 then d.timeCount r
      else if st = 4 then d.timeTrack r
      else if st = 5 then d.timeSet r
      else d
    { d with ring := { d.ring with lastTime := d.now } }.unwrap

/-- RING_TIME_LOSS: none for 1 ms. -/
def Dev.timeLost (d : Dev) : Dev :=
  if d.isMember ∧ d.nat Obj.RING_STATE = 4 ∧ d.ring.lastTime + 100000 ≤ d.now then
    ((d.put Obj.RING_TIME_VALID 0).put Obj.RING_STATE 5).count Obj.RING_TIME_LOSSES
  else d

/-- TIME_MAP at a member: the mapping of R54 in ring time. -/
def Dev.mapHeard (d : Dev) (train ringTime : Nat) : Dev :=
  if d.onRing then { d with ring := { d.ring with trainMap := some (train, ringTime) } } else d

/-- TIME_MAP of the master, at each accepted TIME. -/
def Dev.mapSend (d : Dev) (train at' : Nat) : Dev :=
  if d.ringMaster then d.ringSend 0x03 0 (leBytes 8 train ++ leBytes 8 at') 1 else d

/-! ### Hop delays (R388) -/

/-- DELAY_REQ to the neighbour of a port. -/
def Dev.delaySend (d : Dev) (p : Nat) : Dev :=
  if d.inserted ∧ !(d.hop p).down then
    let q := (d.hop p).reqSeq + 1
    let d := d.setHop p { d.hop p with reqAt := some d.now, reqSeq := q }
    d.ringSend 0x02 0 (ringPayload 0x02 [(p : Int), 0, (q : Int), (d.now : Int)])
  else d

/-- DELAY_RESP with the stamps of arrival and departure. -/
def Dev.delayAnswer (d : Dev) (p pos seq : Nat) : Dev :=
  if d.inserted then d.ringSend 0x02 pos (ringPayload 0x02 [(p : Int), 1, (seq : Int), (d.now : Int), (d.now : Int)]) else d

/-- The mean of the two directions of a hop. -/
def Dev.delayHeard (d : Dev) (p seq t2 t3 : Nat) : Dev :=
  match (d.hop p).reqAt with
  | some t1 =>
    if seq = (d.hop p).reqSeq then
      (d.setHop p { d.hop p with reqAt := none }).put (Obj.PORT_HOP_DELAY_NS p) (5 * ((d.now - t1) - (t3 - t2)) % 2 ^ 32)
    else d
  | none => d

/-! ### A step of device time (R53) -/

/-- An instant moved with device time. -/
def moved (by' : Int) (t : Nat) : Nat := ((t : Int) + by').toNat

/-- An edge in units of 312.5 ps moved with device time. -/
def movedEdge (by' : Int) (e : Nat) : Nat := ((e : Int) + 32 * by').toNat

/-- A channel's instants. -/
def Chan.moved (m : Int) (c : Chan) : Chan :=
  let f := Machine.moved m
  let e := movedEdge m
  let p := fun (r : PulseRec) => { r with
    onEdge := e r.onEdge, offEdge := e r.offEdge, shortHiAt := e r.shortHiAt
    firstShort := r.firstShort.map e, laterShort := r.laterShort.map e }
  { c with
    latchAt := f c.latchAt, litSince := f c.litSince, softAt := f c.softAt, settleEnd := f c.settleEnd, offAt := c.offAt.map f
    placed := c.placed.map e, gateEdge := e c.gateEdge, lowPend := c.lowPend.map p, lowFrom := e c.lowFrom
    pulse := p c.pulse, due := c.due.map p, inrushEnd := f c.inrushEnd, curAt := e c.curAt, curFrom := c.curFrom.map e
    drainAt := c.drainAt.map f, drainLast := f c.drainLast
    darkFrom := e c.darkFrom, probeAt := e c.probeAt, suspendEnd := f c.suspendEnd, optAt := f c.optAt
    litCmdAt := f c.litCmdAt, runAt := f c.runAt, startAt := e c.startAt, cycleAt := e c.cycleAt, gateOffAt := e c.gateOffAt }

/-- The instants of a channel's life data. -/
def LifeSt.moved (m : Int) (l : LifeSt) : LifeSt :=
  let f := Machine.moved m
  { l with
    tInvalidAt := l.tInvalidAt.map f, tValidAt := l.tValidAt.map f, floorAt := l.floorAt.map f
    aboveFloorAt := l.aboveFloorAt.map f, setOne := l.setOne.map f
    fNext := l.fNext.map fun (x : Nat × Nat) => (x.1, f x.2) }

/-- The instants of a group: its next boundary comes when it was to come, and the grid has moved (R120). -/
def Grp.movedTime (m : Int) (r : Grp) : Grp :=
  let f := Machine.moved m
  { r with next := f r.next, isoOpenAt := f r.isoOpenAt, isoClosedAt := f r.isoClosedAt, moved := true }

/-- The instants of a pattern engine. -/
def Pe.moved (m : Int) (p : Pe) : Pe :=
  let f := Machine.moved m
  { p with startAt := p.startAt.map f, stopAt := p.stopAt.map f, jumps := p.jumps.map fun (j : Nat × Nat) => (j.1, f j.2)
           lastAt := p.lastAt.map f, jumpAt := p.jumpAt.map f }

/-- The instants of the desk matrix. -/
def Mx.moved (m : Int) (x : Mx) : Mx :=
  let f := Machine.moved m
  { x with swapAt := x.swapAt.map f, edgeAt := x.edgeAt.map f, startAt := x.startAt.map f, frameAt := f x.frameAt }

/-- The instants of the lanes, votes and clients. -/
def Lanes.moved (m : Int) (l : Lanes) : Lanes :=
  let f := Machine.moved m
  let tab := fun (t : Tab Nat) => t.map fun (e : Nat × Nat) => (e.1, f e.2)
  { l with
    kindledAt := f l.kindledAt, fewSince := l.fewSince.map f, intake := (f l.intake.1, l.intake.2)
    wins := l.wins.map fun (w : VoteWin) => { w with opened := f w.opened }
    timeWait := l.timeWait.map fun (e : Nat × Nat × Nat) => (e.1, e.2.1, f e.2.2)
    sync := l.sync.map fun (e : Nat × Nat × Nat) => (e.1, e.2.1, f e.2.2)
    lane := l.lane.map fun (e : Nat × LaneSt) => (e.1, { e.2 with hbRun := e.2.hbRun.map f, lastHbSent := f e.2.lastHbSent })
    client := l.client.map fun (e : Nat × Client) => (e.1, { e.2 with t1 := f e.2.t1, claimAt := f e.2.claimAt })
    inSnap := l.inSnap.map fun (e : Nat × List (List Byte)) => (f e.1, e.2)
    taskAt := tab l.taskAt, voteDisAt := tab l.voteDisAt, tpdoAt := tab l.tpdoAt }

/-- A count of whole units of device time, kept at its distance from the present. -/
def movedUnit (now dest u x : Nat) : Nat := x + dest / u - now / u

/-- What the power clients have taken: seconds, milliseconds and conversions keep their distance from the present. -/
def Power.moved (now dest : Nat) (p : Power) : Power :=
  let f := Machine.moved ((dest : Int) - now)
  let u := movedUnit now dest
  let tab := fun (k : Nat) (t : Tab Nat) => t.map fun (e : Nat × Nat) => (e.1, u k e.2)
  { p with
    lifeSec := u 100000000 p.lifeSec, autAt := u 100000000 p.autAt, derateAt := u 10000000 p.derateAt, sampled := u 100000 p.sampled
    ntcAt := tab 1000000 p.ntcAt, kgndAt := tab 1000000 p.kgndAt
    autWas := (p.autWas.1, f p.autWas.2), endedAt := f p.endedAt, rail0Low := p.rail0Low.map f, rail0Back := p.rail0Back.map f
    restSince := p.restSince.map f, firstSample := p.firstSample.map f }

/-- The instants of conditions that wait for their report. -/
def Reporting.moved (now dest : Nat) (r : Reporting) : Reporting :=
  let f := Machine.moved ((dest : Int) - now)
  { r with
    src := r.src.map fun (e : Nat × SrcRep) => (e.1, { e.2 with holdEnd := e.2.holdEnd.map f })
    win := r.win.map fun (e : Nat × CoalWin) => (e.1, { e.2 with win := movedUnit now dest 1000000 e.2.win })
    emcyWin := r.emcyWin.map fun (e : Nat × Nat) => (e.1, movedUnit now dest 200000 e.2) }

/-- The instants of the ring that no frame of its own sets anew. -/
def Ring.moved (m : Int) (r : Ring) : Ring :=
  let f := Machine.moved m
  { r with
    hop := r.hop.map fun (e : Nat × Hop) => (e.1, { e.2 with lockAt := e.2.lockAt.map f, reqAt := e.2.reqAt.map f })
    statusAt := f r.statusAt, telemetryAt := f r.telemetryAt, grantAt := r.grantAt.map f }

/-- The journal and the capture over a step of device time. -/
def Journal.moved (j : Journal) (m : Int) : Journal :=
  let f := Machine.moved m
  { j with
    capStart := f j.capStart
    refillAt := f j.refillAt
    lostLast := if j.lost = 0 then f j.lostLast else j.lostLast
    recent := j.recent.map fun (e : Nat × Nat) => (f e.1, e.2) }

/-- Stamps from which a duration of the block still runs: the last boundaries and heartbeats, open fences, the handover. -/
def Dev.stamps (d : Dev) (m : Int) : Dev :=
  let ks := (List.range 24).map Obj.GRP_LAST_BOUNDARY ++ (List.range 3).map Obj.LN_LAST_HB ++ (List.range 32).map Obj.FG_OPENED ++
    [Obj.HO_LAST]
  ks.foldl (fun (d : Dev) k => if d.nat k = 0 then d else d.put k (moved m (d.nat k))) d

/-- What runs over a step of device time runs on: its instants move with it. Stamps that records and other objects hold
stay as they were taken (log entry 133). -/
def Dev.instants (d : Dev) (dest : Nat) : Dev :=
  let m : Int := (dest : Int) - d.now
  let f := moved m
  { d.stamps m with
    chan := d.chan.map fun (e : Nat × Chan) => (e.1, e.2.moved m)
    life := d.life.map fun (e : Nat × LifeSt) => (e.1, e.2.moved m)
    grp := (List.range 24).map fun g => (g, (d.gr g).movedTime m)
    pe := d.pe.map fun (e : Nat × Pe) => (e.1, e.2.moved m)
    gw := d.gw.map fun (e : Nat × Gw) => (e.1, { e.2 with swapAt := e.2.swapAt.map f })
    mx := d.mx.moved m
    fin := d.fin.map fun (e : Nat × Fin') => (e.1, { e.2 with windowAt := e.2.windowAt.map f, changeAt := f e.2.changeAt })
    sg := d.sg.map fun (e : Nat × SigGrp) => (e.1, { e.2 with
      request := e.2.request.map fun (r : Nat × Nat) => (r.1, f r.2), safe := e.2.safe.map fun (r : Nat × Nat) => (r.1, f r.2)
      lastBoundary := f e.2.lastBoundary })
    grants := d.grants.map fun (g : Grant) => { g with at' := f g.at' }
    guard := { d.guard with supAt := f d.guard.supAt, stokerAt := f d.guard.stokerAt }
    lanes := d.lanes.moved m
    ring := d.ring.moved m
    ember := { d.ember with lastBank := d.ember.lastBank.map f }
    jnl := d.jnl.moved m
    rep := d.rep.moved d.now dest
    power := d.power.moved d.now dest
    admin := { d.admin with lastSeen := f d.admin.lastSeen, lockEnd := d.admin.lockEnd.map f }
    test := { d.test with cycleAt := f d.test.cycleAt, sliceEnd := d.test.sliceEnd.map f, asking := d.test.asking.map f
                          lkAt := f d.test.lkAt } }

/-- Device time is set: the journal has the step, and the frames in progress complete as placed. -/
def Dev.stepTime (d : Dev) (dest : Nat) : Dev :=
  let d := (d.jrec 0x0C [(d.now : Int), (dest : Int)]).instants dest
  { d with now := dest }.count Obj.TIME_STEP_COUNT

/-! ### Joining (R383 to R386) -/

/-- INSERTION_WINDOW_START: a LISTENING member opens its bypass. -/
def Dev.windowOpen (d : Dev) : Dev :=
  if d.isMember ∧ d.nat Obj.RING_STATE = 1 then
    { d with ring := { d.ring with inserted := true, timeFrames := 0, rxSeq := [] } }.put Obj.RING_STATE 2
  else d

/-- JOIN_RETRY: no ADMIT within 5 ms. -/
def Dev.joinAgain (d : Dev) : Dev :=
  if d.isMember ∧ d.nat Obj.RING_STATE = 3 ∧ d.ring.joinAt + 500000 ≤ d.now then d.joinSend else d

/-- ADMIT: device time becomes ring time. -/
def Dev.admitted (d : Dev) (pos ringTime : Nat) : Dev :=
  if d.isMember ∧ d.nat Obj.RING_STATE = 3 ∧ pos = d.ownPos then
    let d := d.stepTime ringTime
    let d := { d with ring := { d.ring with offset := 0, lastTime := d.now, lastMaster := d.now, rxSeq := [], frag := none } }
    ((d.put Obj.RING_TIME_VALID 1).put Obj.RING_STATE 4).count Obj.RING_JOIN_COUNT
  else d

/-- A refusal: the bypass closes until reset. -/
def Dev.refused (d : Dev) (pos : Nat) : Dev :=
  if d.isMember ∧ d.nat Obj.RING_STATE = 3 ∧ pos = d.ownPos then
    { d with ring := { d.ring with inserted := false } }.put Obj.RING_STATE 6
  else d

/-- Is a position admitted? -/
def Dev.isAdmitted (d : Dev) (p : Nat) : Bool := bit (d.nat Obj.RING_ADMITTED) p

/-- Why the master refuses a JOIN, by Table 11.7, or 0 (R384). -/
def Dev.joinCause (d : Dev) (j : RingJoin) : Nat :=
  let p := j.pos.val
  let held := d.isAdmitted p && d.nat (Obj.POS_SERIAL p) != j.serial
  let order := ((List.range 16).filter fun q => decide (0 < q) && q != p && d.isAdmitted q).all fun q =>
    let h := (d.pos q).hops
    if h < j.hops then decide (q < p) else if j.hops < h then decide (p < q) else true
  if j.size ≠ d.nat Obj.RING_SIZE then 3
  else if p = 0 ∨ d.nat Obj.RING_SIZE ≤ p ∨ held ∨ !order then 2
  else 0

/-- The declared positions that are not admitted. -/
def Dev.absent (d : Dev) : List Nat := (List.range (d.nat Obj.RING_SIZE)).filter fun p => decide (0 < p) && !d.isAdmitted p

/-- BYPASS_ACTIVE clears when every declared position is admitted. -/
def Dev.bypassClear (d : Dev) : Dev := if d.absent = [] then d.clearC 0x0502 0xFFFF else d

/-- A position becomes admitted. -/
def Dev.admitPos (d : Dev) (p : Nat) : Dev :=
  let d := (d.put Obj.RING_ADMITTED (setBit (d.nat Obj.RING_ADMITTED) p)).put (Obj.POS_STATE p) 3
  (d.put (Obj.POS_CAUSE p) 0).bypassClear

/-- JOIN at the master: the member is admitted and its channel table taken, or refused. -/
def Dev.joinHeard (d : Dev) (j : RingJoin) : Dev :=
  if !d.ringMaster ∨ !d.up then d
  else
    let p := j.pos.val
    let c := d.joinCause j
    if c ≠ 0 then
      let d := if 0 < p ∧ p < d.nat Obj.RING_SIZE ∧ !d.isAdmitted p then (d.put (Obj.POS_STATE p) 4).put (Obj.POS_CAUSE p) c else d
      d.ringSend 0x40 p (ringPayload 0x40 [1, (c : Int)])
    else
      let again := d.isAdmitted p
      let d := (d.put (Obj.POS_SERIAL p) j.serial).put (Obj.POS_VARIANT p) (j.variant % 256)
      let d := (d.putBytes (Obj.POS_ACTIVE_DIGEST p) (padTo 8 (j.active.take 8))).putBytes (Obj.POS_STAGED_DIGEST p) (padTo 8 (j.staged.take 8))
      let d := d.put (Obj.POS_LAST_RX p) d.now
      let d := d.setPos p { d.pos p with hops := j.hops, channels := j.channels, gone := false }
      let d := if again then d else (d.admitPos p).count Obj.RING_JOIN_COUNT
      let d := d.ringSend 0x40 p (ringPayload 0x40 [0, (p : Int), (d.now : Int)])
      (((d.pos p).own.map fun (o : Nat × Nat × Nat) => o.2.1).eraseDups).foldl Dev.reYield d

/-- A frame of a member reached the master. One that fell silent after its admission counts as admitted again. -/
def Dev.posHeard (d : Dev) (p : Nat) : Dev :=
  let d := d.put (Obj.POS_LAST_RX p) d.now
  if (d.pos p).gone then (d.setPos p { d.pos p with gone := false }).admitPos p else d

/-- A member that has been silent for 1 ms is no longer admitted. -/
def Dev.posSilent (d : Dev) (p : Nat) : Dev :=
  if d.isAdmitted p ∧ 0 < p ∧ d.nat (Obj.POS_LAST_RX p) + 100000 ≤ d.now then
    let d := (d.put Obj.RING_ADMITTED (clrBit (d.nat Obj.RING_ADMITTED) p)).put (Obj.POS_STATE p) 1
    d.setPos p { d.pos p with gone := true }
  else d

/-- BYPASS_CHECK: silent members, and 100 ms after KINDLED the positions never admitted (R385). -/
def Dev.bypassCheck (d : Dev) (silent : List Nat) : Dev :=
  if !d.ringMaster ∨ !d.up then d
  else
    let d := (silent.filter fun p => decide (p < 16)).foldl Dev.posSilent d
    let late := decide (d.lanes.kindledAt + 10000000 ≤ d.now)
    let map := d.absent.filter fun p => late || (d.pos p).gone
    if map = [] then d.bypassClear
    else
      let d := map.foldl (fun (d : Dev) p => if d.nat (Obj.POS_CAUSE p) = 0 then d.put (Obj.POS_CAUSE p) 1 else d) d
      let detail := d.nat (Obj.POS_CAUSE (map.headD 0))
      let srcs := map.map ringSource
      let same : Bool := match d.cond 0x0502 0xFFFF with
        | some c => c.map == srcs && c.detail == detail
        | none => false
      if same then d else d.raiseC 0x0502 0xFFFF detail false srcs

/-- FOREIGN_RING_TIME: the master with the higher serial number yields (R386). -/
def Dev.foreign (d : Dev) (serial : Nat) : Dev :=
  if d.ringMaster ∧ d.kindledPast ∧ serial < d.nat Obj.SERIAL_NUMBER then
    { d with ring := { d.ring with yielded := true } }.raiseC 0x0502 0xFFFF 4
  else d

/-! ### Frames between the master and its members (R378, R380, R395, R397) -/

/-- NAK: the kept frames of a member from the missing one on are sent again. -/
def Dev.nakHeard (d : Dev) (pos cls seq : Nat) : Dev :=
  if d.ringMaster then
    (d.ring.sentFrames.filter fun (f : Nat × Nat × Nat × List Byte) => f.1 == cls && f.2.1 == pos && decide (seq ≤ f.2.2.1)).foldl
      (fun (d : Dev) (f : Nat × Nat × Nat × List Byte) =>
        ((d.grantAt 5 0).emit (.ring cls 2 d.ownPos pos f.2.2.1 f.2.2.2)).count Obj.RING_RETRANSMITS) d
  else d

/-- FENCE_MARK at a member. -/
def Dev.markHeard (d : Dev) (seq f k : Nat) : Dev :=
  if d.onRing then
    let d := d.frameRec 0 0x12 [(seq : Int), (f : Int), (k : Int)]
    (d.put (Obj.FG_NEXT f) (if k = 0xFFFFFF then 1 else k + 1)).count (Obj.FG_COMPLETED f)
  else d

/-- FENCE_MARK of the master, ahead of what the fence releases. -/
def Dev.markSend (d : Dev) (f k : Nat) : Dev :=
  if d.ringMaster then d.ringSend 0x12 0 (ringPayload 0x12 [(f : Int), (k : Int)]) 1 else d

/-- STATUS: NMT state, the first 64 bits of both digests, the stage state and the operating state (Table 11.3). -/
def Dev.statusBytes (d : Dev) : List Byte :=
  leBytes 1 d.lanes.nmt ++ d.digestHead ++ d.stagedHead ++ leBytes 1 d.stageSt ++ leBytes 1 d.op.code

/-- STATUS_SEND, every 100 ms. -/
def Dev.statusSend (d : Dev) : Dev :=
  if d.onRing ∧ d.ring.statusAt + 10000000 ≤ d.now then
    { d.ringSend 0x21 0 d.statusBytes with ring := { (d.ringSend 0x21 0 d.statusBytes).ring with statusAt := d.now } }
  else d

/-- STATUS at the master. -/
def Dev.statusHeard (d : Dev) (st : RingStatus) : Dev :=
  let p := st.pos.val
  if d.ringMaster ∧ (d.isAdmitted p ∨ (d.pos p).gone) then
    let d := d.posHeard p
    let d := d.setPos p { d.pos p with status := st.data }
    (d.putBytes (Obj.POS_ACTIVE_DIGEST p) (padTo 8 ((st.data.drop 1).take 8))).putBytes (Obj.POS_STAGED_DIGEST p)
      (padTo 8 ((st.data.drop 9).take 8))
  else d

/-- A member's condition report waits on every lane under its node-ID (R397, R506). -/
def Dev.conditionHeard (d : Dev) (p : Nat) (r : Report) : Dev :=
  if d.ringMaster ∧ (d.isAdmitted p ∨ (d.pos p).gone) then
    (d.posHeard p).emcyAll p [r]
  else d

/-- TELEMETRY_SEND, every 10 ms, while rung 6 is not shed: observed states, SG_PROVEN, tempo index, port states. -/
def Dev.telemetrySend (d : Dev) : Dev :=
  if d.onRing ∧ bit (d.nat Obj.SHED_STATE) 1 = false ∧ d.ring.telemetryAt + 1000000 ≤ d.now then
    let seen := (List.range 96).map fun n => d.num (Obj.SUP_OBSERVED n)
    let proven := (List.range 32).map fun s => d.num (Obj.SG_PROVEN s)
    let rest := ([d.num Obj.TEMPO_INDEX, (d.view (Obj.PORT_STATE 0)).int, (d.view (Obj.PORT_STATE 1)).int] : List Int)
    let d := d.sendLast 0x30 0 (ringPayload 0x30 (seen ++ proven ++ rest))
    { d with ring := { d.ring with telemetryAt := d.now } }
  else d

/-- TELEMETRY at the master. -/
def Dev.telemetryHeard (d : Dev) (p : Nat) (data : List Byte) : Dev :=
  if d.ringMaster ∧ (d.isAdmitted p ∨ (d.pos p).gone) then
    let d := d.posHeard p
    d.setPos p { d.pos p with telemetry := data }
  else d

/-- TEST_GRANT_SEND: once a second each admitted member gets its slice phase (R466). -/
def Dev.grantSend (d : Dev) : Dev :=
  if d.ringMaster ∧ d.up ∧ d.ring.grantSentAt + 100000000 ≤ d.now then
    let d := ((List.range 16).filter fun p => decide (0 < p) && d.isAdmitted p).foldl (fun (d : Dev) p =>
      d.ringSend 0x50 p (ringPayload 0x50 [(p % 4 * 2500 + 100 : Int)])) d
    { d with ring := { d.ring with grantSentAt := d.now } }
  else d

/-- TEST_GRANT at a member. -/
def Dev.grantHeard (d : Dev) (pos : Nat) : Dev :=
  if d.onRing ∧ pos = d.ownPos then
    { d with ring := { d.ring with grantAt := some d.now } }.put Obj.TT_SLICE_PHASE_US (pos % 4 * 2500 + 100)
  else d

/-- No TEST_GRANT for 2 s. -/
def Dev.grantMissing (d : Dev) : Dev :=
  if d.isMember ∧ sinceAtLeast d.ring.grantAt 200000000 d.now then { d with ring := { d.ring with grantAt := none } } else d

/-- DICT_RESP at the master: the proxied upload is answered on its lane (R397). -/
def Dev.respHeard (d : Dev) (p req status : Nat) (data : List Byte) : Dev :=
  if d.ringMaster then
    let d := if d.isAdmitted p ∨ (d.pos p).gone then d.posHeard p else d
    match d.ring.asked.find? fun (a : Nat × Nat × Nat × Nat) => a.1 == req && a.2.2.1 == d.nodeId + p with
    | some (_, lane, _, key) =>
      let d := { d with ring := { d.ring with asked := d.ring.asked.filter fun (a : Nat × Nat × Nat × Nat) => a.1 != req } }
      d.emit (if status = 0 then .usdoData lane key data else .usdoAbort lane status)
    | none => d
  else d

/-- DICT_REQ at a member: a read is answered with the value, a write is refused (R397). -/
def Dev.reqHeard (d : Dev) (pos seq key : Nat) (write : Option (List Byte)) : Dev :=
  if d.onRing ∧ d.stokerRuns ∧ pos = d.ownPos then
    if !d.rxFresh 0x20 seq then d.rxGap 0x20 seq
    else
      let d := (d.rxTake 0x20 seq).grantAt 9 1
      let code := if write.isSome then 0x06010000 else readRefusal key
      d.ringSend 0x20 0 (ringPayload 0x20 [(seq : Int), (code : Int)] (if code = 0 then d.read key else []))
  else d

/-! ### Commands -/

/-- RING_TIME_SEND (R387, R388). -/
def execRingTimeSend (s : State) := s.talk Dev.timeSend

/-- RING_TIME_RX (R383, R388 to R390). -/
def execRingTimeRx (r : RingTime) (s : State) := s.talk fun d =>
  d.received r.port.val none (timeFrame r d.now) false fun d => d.timeHeard r

/-- DELAY_REQ_PERIOD (R388). -/
def execDelayReqPeriod (port : Fin 2) (s : State) := s.talk fun d => d.delaySend port.val

/-- DELAY_REQ_RX (R388). -/
def execDelayReqRx (port : Fin 2) (pos : Fin 16) (seq : Nat) (s : State) := s.talk fun d => (d.merged port.val).delayAnswer port.val pos.val seq

/-- DELAY_RESP_RX (R388). -/
def execDelayRespRx (port : Fin 2) (seq t2 t3 : Nat) (s : State) := s.talk fun d => (d.merged port.val).delayHeard port.val seq t2 t3

/-- TIME_MAP_RX (R391). -/
def execTimeMapRx (seq train ringTime : Nat) (s : State) := s.talk fun d =>
  d.received d.rxPort none (fromMaster 0x03 none seq (leBytes 8 train ++ leBytes 8 ringTime)) false fun d => d.mapHeard train ringTime

/-- ASPECT_COMMIT_RX (R190 to R194). -/
def execAspectCommitRx (seq : Nat) (sg : Fin 32) (aspect : Fin 256) (t commitSeq : Nat) (s : State) :=
  s.talk fun d => d.received d.rxPort none (fromMaster 0x11 none seq (commitBytes sg.val aspect.val t commitSeq)) true fun d =>
    d.commitHeard seq sg.val aspect.val t commitSeq

/-- COMMIT_REPEAT (R380). -/
def execCommitRepeat (s : State) := s.serve Dev.commitRepeat

/-- FENCE_MARK_RX (R395). -/
def execFenceMarkRx (seq : Nat) (group : Fin 32) (k : Nat) (s : State) := s.talk fun d =>
  d.received d.rxPort none (fromMaster 0x12 none seq (ringPayload 0x12 [(group.val : Int), (k : Int)])) true fun d =>
    d.markHeard seq group.val k

/-- NAK_RX (R380). -/
def execNakRx (pos : Fin 16) (cls : Fin 256) (seq : Nat) (s : State) := s.talk fun d =>
  d.received d.rxPort (some 0) (toMaster 0x13 pos.val (openSeq 0x13 [(pos.val : Int), (cls.val : Int), (seq : Int)])
    (ringPayload 0x13 [(cls.val : Int), (seq : Int)])) false fun d => d.nakHeard pos.val cls.val seq

/-- DICT_REQ_RX (R397). -/
def execDictReqRx (q : Asked) (key : Fin 16777216) (write : Option (List Byte)) (s : State) := s.talk fun d =>
  d.received d.rxPort (some q.pos.val) (fromMaster 0x20 (some q.pos.val) q.seq
    (ringPayload 0x20 [(key.val : Int), (b2n write.isSome : Int)] (write.getD []))) false fun d => d.reqHeard q.pos.val q.seq key.val write

/-- DICT_RESP_RX (R397). -/
def execDictRespRx (pos : Fin 16) (seq req status : Nat) (data : List Byte) (s : State) := s.talk fun d =>
  d.received d.rxPort (some 0) (toMaster 0x20 pos.val seq (ringPayload 0x20 [(req : Int), (status : Int)] data)) false fun d =>
    d.respHeard pos.val req status data

/-- STATUS_SEND (R378). -/
def execStatusSend (s : State) := s.talk Dev.statusSend

/-- STATUS_RX (R397). -/
def execStatusRx (st : RingStatus) (s : State) := s.talk fun d =>
  d.received d.rxPort (some 0) (toMaster 0x21 st.pos.val st.seq st.data) false fun d => d.statusHeard st

/-- CONDITION_FRAME_RX (R397, R506). -/
def execConditionFrameRx (pos : Fin 16) (seq kind code source detail at' : Nat) (map : List Nat) (s : State) :=
  let r : Report := ⟨kind, code, source, detail, at', map⟩
  s.talk fun d => d.received d.rxPort (some 0) (toMaster 0x22 pos.val seq (emcyBytes 0 r)) false fun d => d.conditionHeard pos.val r

/-- TELEMETRY_SEND (R31, R378). -/
def execTelemetrySend (s : State) := s.serve Dev.telemetrySend

/-- TELEMETRY_RX (R378). -/
def execTelemetryRx (pos : Fin 16) (seq : Nat) (data : List Byte) (s : State) := s.talk fun d =>
  d.received d.rxPort (some 0) (toMaster 0x30 pos.val seq data) false fun d => d.telemetryHeard pos.val data

/-- INSERTION_WINDOW_START (R383). -/
def execInsertionWindowStart (s : State) := s.serve Dev.windowOpen

/-- INSERTION_WINDOW_END (R381). -/
def execInsertionWindowEnd (s : State) := s.serve Dev.windowClose

/-- JOIN_RX (R384). -/
def execJoinRx (j : RingJoin) (s : State) := s.talk fun d =>
  d.received d.rxPort (some 0) (toMaster 0x40 j.pos.val j.seq (ringPayload 0x40 ([(j.pos.val : Int), (j.hops : Int), (j.serial : Int),
    (j.variant : Int), (j.size : Int)] ++ j.channels.flatMap fun c => [(c.1 : Int), (c.2.1 : Int), (c.2.2 : Int)]) (j.active ++ j.staged)))
    true fun d => d.joinHeard j

/-- JOIN_RETRY (R383). -/
def execJoinRetry (s : State) := s.serve Dev.joinAgain

/-- ADMIT_RX (R53, R383). -/
def execAdmitRx (seq : Nat) (pos : Fin 16) (ringTime : Nat) (s : State) := s.talk fun d =>
  d.received d.rxPort (some pos.val) (fromMaster 0x40 (some pos.val) seq (ringPayload 0x40 [0, (pos.val : Int), (ringTime : Int)])) true
    fun d => d.admitted pos.val ringTime

/-- JOIN_REFUSAL_RX (R375, R383). -/
def execJoinRefusalRx (pos : Fin 16) (reason : Nat) (s : State) := s.talk fun d =>
  d.received d.rxPort (some pos.val) (fromMaster 0x40 (some pos.val) (openSeq 0x40 [(pos.val : Int), (reason : Int)])
    (ringPayload 0x40 [1, (reason : Int)])) true fun d => d.refused pos.val

/-- RING_TIME_LOSS (R383). -/
def execRingTimeLoss (s : State) := s.talk Dev.timeLost

/-- BYPASS_CHECK (R385). -/
def execBypassCheck (silent : List Nat) (s : State) := s.serve fun d => d.bypassCheck silent

/-- FOREIGN_RING_TIME (R386). -/
def execForeignRingTime (serial : Nat) (s : State) := s.talk fun d => d.foreign serial

/-- HOP_DOWN (R392, R393). -/
def execHopDown (port : Fin 2) (cause : Nat) (s : State) := s.talk fun d => d.hopDown port.val cause

/-- HOP_RESTORE (R394). -/
def execHopRestore (port : Fin 2) (s : State) := s.talk fun d => d.hopRestore port.val

/-- HOP_LOCK_REGAINED (R394). -/
def execHopLockRegained (port : Fin 2) (s : State) := s.talk fun d => d.hopLock port.val

/-- TEST_GRANT_SEND (R466). -/
def execTestGrantSend (s : State) := s.serve Dev.grantSend

/-- TEST_GRANT_RX (R466). -/
def execTestGrantRx (seq : Nat) (pos : Fin 16) (s : State) := s.talk fun d =>
  d.received d.rxPort (some pos.val) (fromMaster 0x50 (some pos.val) seq (ringPayload 0x50 [(pos.val % 4 * 2500 + 100 : Int)])) true
    fun d => d.grantHeard pos.val

/-- TEST_GRANT_MISSING (R466). -/
def execTestGrantMissing (s : State) := s.talk Dev.grantMissing

end Sys2Proof.Machine
end

