-- ==== Sys2Proof/Machine/SelfTest.lean ====
section
/-! DEFINITION. Termite slices, the test state and its engine, link checkers and boundary scan (R462 to R480). -/
namespace Sys2Proof.Machine

/-! ### Termite slices (R462 to R472) -/

/-- The items of each test (Table 14.1). -/
def testItems (t : Nat) : Nat :=
  [24000, 9600, 4000, 4096, 256, 1152, 384, 24, 40, 64, 2000, 128, 16].getD (t - 1) 0

/-- The source of a termite test. -/
def testSource (t : Nat) : Nat := 0xE00 + t

/-- The channel of an item of test 6: 12 items for each. -/
def itemChan (item : Nat) : Nat := item / 12

/-- Is a test a memory test? -/
def memoryTest (t : Nat) : Bool := t == 3 || t == 4 || t == 5

/-- The full item of a failure: row and bit of a memory, else the number of the item (R468). -/
def failItem (t item row bitNo : Nat) : Nat := if memoryTest t then row % 4096 + 4096 * (bitNo % 16384) else item

/-- The item as the halt detail holds it. -/
def haltItem (t item row : Nat) : Nat := if memoryTest t then row % 2 ^ 24 else item

/-- Does a slice start now: permitted, not shed, its phase in a slice period that has had none, no slice running, and
on a member with ring time and a grant (R462, R463, R466)? -/
def Dev.sliceStarts (d : Dev) : Bool :=
  d.termiteState == 1 && d.test.sliceEnd.isNone && d.test.asking.isNone && d.test.lastSlice != d.ringTime / 1000000 + 1 &&
    decide (100 * d.nat Obj.TT_SLICE_PHASE_US ≤ d.ringTime % 1000000) && (!d.isMember || d.nat Obj.RING_TIME_VALID == 1)

/-- The cycle ends: counted, its duration and the channels it skipped are reported, and the conditions of its repairs
clear (R464, R465, R469). -/
def Dev.cycleEnd (d : Dev) : Dev :=
  let d := d.count Obj.TT_CYCLE_COUNT
  let d := (d.put Obj.TT_LAST_CYCLE_S ((d.now - d.test.cycleAt) / 100000000 % 2 ^ 32)).putBytes Obj.TT_UNTESTED_CH (bitmap 12 d.test.skipped)
  let d := (d.put Obj.TT_CYCLE_PROGRESS 0).put Obj.TT_TEST_NOW 1
  let d := if d.test.repaired = [] then d else d.clearC 0x0701 (testSource 4)
  { d with test := { d.test with item := 0, failed := none, skipped := [], repaired := [], cycleAt := d.now } }

/-- The next item, in test-number order. -/
def Dev.nextItem (d : Dev) : Dev :=
  let t := d.nat Obj.TT_TEST_NOW
  let i := d.test.item + 1
  let d := { d with test := { d.test with item := i, failed := none } }
  if i < testItems t then d
  else if t < 13 then { d with test := { d.test with item := 0 } }.put Obj.TT_TEST_NOW (t + 1)
  else d.cycleEnd

/-- A capture that fills or drains ends at once, its last segment sealed truncated (R471). -/
def Dev.captureCut (d : Dev) : Dev :=
  if d.capturing then
    let d := d.sealCapture true 61376
    let c : Capture := ⟨d.nat Obj.CAP_NUMBER, d.nat Obj.CAP_TRIG_TIME, d.nat Obj.CAP_FIRST_SEG, d.jnl.head - d.nat Obj.CAP_FIRST_SEG,
      d.nat Obj.CAP_DECIMATION, d.jnl.freezeDue⟩
    let d := { d with jnl := { d.jnl with caps := d.jnl.caps ++ [c], freezeDue := false, refillAt := d.now } }
    (d.clearC 0x0405 0xFFFF).put Obj.CAP_STATE (if d.nat Obj.CAP_ARM = 1 then 1 else 0)
  else if d.nat Obj.CAP_STATE = 1 then { d with jnl := { d.jnl with refillAt := d.now } }
  else d

/-- A row is replaced by the lowest free spare and its entry burned (R469, R470). -/
def Dev.repairRow (d : Dev) (row bitNo : Nat) : Dev :=
  match d.spares with
  | i :: _ =>
    let b := d.bytesOf Obj.REP_ENTRIES
    let e := leBytes 4 (row % 4096 + 4096 * (bitNo % 16384) + 3 * 2 ^ 30)
    let d := d.putBytes Obj.REP_ENTRIES (b.take (4 * i) ++ e ++ b.drop (4 * i + 4))
    let d := { d with test := { d.test with repaired := d.test.repaired ++ [row] } }
    d.captureCut.raiseC 0x0701 (testSource 4) (failItem 4 0 row bitNo)
  | [] => d

/-- A confirmed failure: repaired, or BIST_FAIL and HALT-SAFE (R468, R469). -/
def Dev.failConfirmed (d : Dev) (t : Nat) (r : SliceResult) : Dev :=
  let item := d.test.item
  let d := (d.put Obj.TT_FAIL_TEST t).put Obj.TT_FAIL_ITEM (failItem t item r.row r.bit)
  if t = 4 ∧ 4 ≤ d.nat Obj.PKG_VARIANT ∧ d.nat Obj.TT_REPAIR_MODE = 1 ∧ r.rows = 1 ∧ d.spares ≠ [] then
    (d.repairRow r.row r.bit).nextItem
  else (d.raiseC 0x0701 (testSource t) (failItem t item r.row r.bit)).haltSafe 0x0005 (2 ^ 24 * t + haltItem t item r.row)

/-- The result of the item: a first failure is tested again (R467). -/
def Dev.sliceJudge (d : Dev) (r : SliceResult) : Dev :=
  let t := d.nat Obj.TT_TEST_NOW
  let d := d.put Obj.TT_CYCLE_PROGRESS (min 45760 (d.nat Obj.TT_CYCLE_PROGRESS + 1))
  if r.ok then
    (if d.test.failed.isSome then d.count Obj.TT_RETRY_COUNT else d).nextItem
  else if d.test.failed.isSome then d.failConfirmed t r
  else { d with test := { d.test with failed := some (failItem t d.test.item r.row r.bit) } }

/-- A burst on a link path: an error raises LINK_PATTERN_ERROR, and 100 clean bursts in a row on the path clear it
(R477). -/
def Dev.burst (d : Dev) (path i errors : Nat) : Dev :=
  let k := 256 * path + i
  let d := { d with test := { d.test with hold := some (path, i) } }
  if 0 < errors then
    let d := { d with test := { d.test with clean := tabPut 0 d.test.clean k 1 } }
    (d.count Obj.LK_SERVICE_ERRORS errors).raiseC 0x0702 0xFFFF k
  else
    let n := lookD 0 d.test.clean k
    if n = 0 then d
    else if n < 100 then { d with test := { d.test with clean := tabPut 0 d.test.clean k (n + 1) } }
    else
      let d := { d with test := { d.test with clean := tabDrop d.test.clean k } }
      if d.test.clean = [] then d.clearC 0x0702 0xFFFF else d

/-- Is the block of a slice busy whatever is asked: the digest engine is tested only while M04 is idle (Table 14.1)? -/
def Dev.blockBusy (d : Dev) : Bool := d.nat Obj.TT_TEST_NOW == 10 && d.digests != []

/-- What else a granted slice takes: the ECC test the ports of the Ember store and of Viresque, a burst on a die link the
latter (Table 1.4, Table 14.1, Table 14.2). -/
def Dev.slicePorts (d : Dev) (r : SliceResult) : Dev :=
  let d := if d.nat Obj.TT_TEST_NOW = 12 then (d.grantAt 2 3).grantAt 3 3 else d
  match r.burst with
  | some b => if b.1 = 2 then d.grantAt 3 3 else d
  | none => d

/-- SLICE_PHASE: the slice requests its block, and once it is granted tests one item. -/
def Dev.slice (d : Dev) (r : SliceResult) : Dev :=
  if d.sliceStarts then
    let d := { d with test := { d.test with lastSlice := d.ringTime / 1000000 + 1 } }
    if !r.granted ∨ d.blockBusy then { d with test := { d.test with asking := some d.now } }
    else
      let d := (d.grantAt 13 0).slicePorts r
      let d := { d with test := { d.test with sliceEnd := some (d.now + 5000) } }
      let d := match r.burst with
        | some b => d.burst b.1 b.2.1 b.2.2
        | none => d
      if d.nat Obj.TT_TEST_NOW = 6 ∧ !r.offered then
        let c := itemChan d.test.item
        let s := if d.test.skipped.contains c then d.test.skipped else d.test.skipped ++ [c]
        { d with test := { d.test with skipped := s } }.nextItem
      else d.sliceJudge r
  else d

/-- SLICE_GRANT_TIMEOUT: 5 us without a grant. -/
def Dev.sliceLate (d : Dev) : Dev :=
  if sinceAtLeast d.test.asking 500 d.now then { d with test := { d.test with asking := none } }.count Obj.TT_DEFERRED else d

/-- SLICE_END: the block goes back to its owner. -/
def Dev.sliceOver (d : Dev) : Dev :=
  if d.test.sliceEnd.isSome then { d with test := { d.test with sliceEnd := none, hold := none } }.grantAt 13 1 else d

/-! ### The test state (R474) -/

/-- Does the present state refuse TT_ENGINE_CONTROL: outside FACTORY and MAINTENANCE, a run outside the test state, or
an entry into it again? -/
def Dev.engineRefuses (d : Dev) (v : Nat) : Bool :=
  let st := d.nat Obj.TT_ENGINE_STATE
  !(d.lc == .factory || d.lc == .maintenance) || (if v = 1 then st != 0 else st == 0 || st == 2)

/-- The test state is entered: gates low, isolators released. -/
def Dev.engineEnter (d : Dev) : Dev :=
  let d := (List.range 96).foldl Dev.haltChan d
  let d := (List.range 24).foldl (fun (d : Dev) (g : Nat) => d.isoShow (Config.openNat 474 [(g : Int)] % 8) g) d
  let d := (List.range 16).foldl Dev.peIdle d
  let d := { d.effectsDark with test := { d.test with sliceEnd := none, hold := none, asking := none } }
  d.put Obj.TT_ENGINE_STATE 1

/-- A full run starts. -/
def Dev.engineRun (d : Dev) : Dev := d.put Obj.TT_ENGINE_STATE 2

/-- TEST_ENGINE_DONE: the failed tests, and the first failing item. -/
def Dev.engineDone (d : Dev) (failed item : Nat) : Dev :=
  if d.nat Obj.TT_ENGINE_STATE = 2 then
    let d := d.put Obj.TT_ENGINE_RESULT failed
    let d := if failed = 0 then d else d.put Obj.TT_ENGINE_FAIL_ITEM (item % 2 ^ 32)
    d.put Obj.TT_ENGINE_STATE (if failed = 0 then 3 else 4)
  else d

/-! ### Link checkers (R475, R476) -/

/-- Does the present state refuse LK_CONTROL? -/
def Dev.linkRefuses (d : Dev) (v : Nat) : Bool :=
  !d.testState || (if v = 1 then d.nat Obj.LK_STATE == 2 else d.nat Obj.LK_STATE != 2)

/-- A check starts; it synchronises on the first 31 bits received. -/
def Dev.linkStart (d : Dev) : Dev :=
  let d := ((d.put Obj.LK_BITS 0).put Obj.LK_ERRORS 0).put Obj.LK_STATE 2
  { d with test := { d.test with lkAt := d.now } }

/-- A check is stopped: what it has counted by then is open. -/
def Dev.linkStop (d : Dev) : Dev :=
  let ran : Int := (d.now : Int) - d.test.lkAt
  let d := d.put Obj.LK_BITS (Config.openNat 476 [0, ran] % 2 ^ 64)
  (d.put Obj.LK_ERRORS (Config.openNat 476 [1, ran] % 2 ^ 64)).put Obj.LK_STATE 3

/-- LINK_CHECK_DURATION_END. -/
def Dev.linkOver (d : Dev) (bits errors : Nat) : Dev :=
  if d.nat Obj.LK_STATE = 2 ∧ d.test.lkAt + 100000 * d.nat Obj.LK_DURATION_MS ≤ d.now then
    ((d.put Obj.LK_BITS (bits % 2 ^ 64)).put Obj.LK_ERRORS (errors % 2 ^ 64)).put Obj.LK_STATE 3
  else d

/-! ### Boundary scan (R478) -/

/-- An instruction comes into the TAP: it responds only in FACTORY and MAINTENANCE, and outside the test state every
instruction but BYPASS, IDCODE and SAMPLE/PRELOAD is decoded as BYPASS. -/
def Dev.tap (d : Dev) (code : Nat) : Dev :=
  if d.lc = .factory ∨ d.lc = .maintenance then
    let ir := if d.testState ∨ code = 1 ∨ code = 2 then code else 0xFF
    { d with ins := { d.ins with testen := true, jtag := true, tapIr := ir } }
  else { d with ins := { d.ins with jtag := false, tapIr := 1 } }

/-- Test-Logic-Reset: IDCODE is selected and TDO is high impedance. -/
def Dev.tapReset (d : Dev) : Dev := { d with ins := { d.ins with jtag := false, tapIr := 1 } }

/-! ### Commands -/

/-- SLICE_PHASE (R462 to R470, R477). -/
def execSlicePhase (r : SliceResult) (s : State) := s.serve fun d => (d.slice r).judged

/-- SLICE_GRANT_TIMEOUT (R464). -/
def execSliceGrantTimeout (s : State) := s.serve Dev.sliceLate

/-- SLICE_END (R464). -/
def execSliceEnd (s : State) := s.serve Dev.sliceOver

/-- TEST_ENGINE_DONE (R474). -/
def execTestEngineDone (failed : Fin 8192) (item : Nat) (s : State) := s.serve fun d => d.engineDone failed.val item

/-- LINK_CHECK_DURATION_END (R476). -/
def execLinkCheckDurationEnd (bits errors : Nat) (s : State) := s.serve fun d => d.linkOver bits errors

/-- JTAG_EXTEST (R478). -/
def execJtagExtest (s : State) := s.port fun d => d.tap 0x00

/-- JTAG_IDCODE (R478). -/
def execJtagIdcode (s : State) := s.port fun d => d.tap 0x01

/-- JTAG_SAMPLE_PRELOAD (R478). -/
def execJtagSamplePreload (s : State) := s.port fun d => d.tap 0x02

/-- JTAG_CLAMP (R478). -/
def execJtagClamp (s : State) := s.port fun d => d.tap 0x04

/-- JTAG_HIGHZ (R478). -/
def execJtagHighz (s : State) := s.port fun d => d.tap 0x05

/-- JTAG_EXTEST_PULSE (R478). -/
def execJtagExtestPulse (s : State) := s.port fun d => d.tap 0x06

/-- JTAG_EXTEST_TRAIN (R478). -/
def execJtagExtestTrain (s : State) := s.port fun d => d.tap 0x07

/-- JTAG_BYPASS (R478). -/
def execJtagBypass (s : State) := s.port fun d => d.tap 0xFF

/-- TEST_LOGIC_RESET (R478). -/
def execTestLogicReset (s : State) := s.on Dev.tapReset

end Sys2Proof.Machine
end

