-- ==== Sys2Proof/Machine/Lanes.lean ====
section
/-! DEFINITION. The lanes: heartbeats and lane states, TIME, SYNC, NMT, uploads, EMCY, heartbeats and PDOs sent, and the
vote windows (chapter 08, R500 to R506). -/
namespace Sys2Proof.Machine

/-- The source number of a lane (Table 16.9). -/
def laneSource (l : Nat) : Nat := 0x500 + l

/-- Milliseconds in ticks. -/
def ms (n : Nat) : Nat := 100000 * n

/-- The vote window W in ticks (R281). -/
def Dev.voteW (d : Dev) : Nat := ms (d.nat Obj.VOTE_WINDOW_MS)

/-- The grants of M00 at an arrival on lane l: arrivals that wait on lanes before it have the same stamp, and are granted
first, lane by lane (R37). -/
def Dev.intakeGrant (d : Dev) (l : Nat) : Dev :=
  let ahead := if d.lanes.intake.1 = d.now then d.lanes.intake.2 else []
  if ahead.contains l then { d with lanes := { d.lanes with intake := (d.now, ahead.erase l) } }
  else
    let waiting := fun (m : Nat) => (d.waiters.filter fun x => x.1 == 0 && x.2 == m).length - (ahead.filter (· == m)).length
    let before := (List.range l).flatMap fun m => List.replicate (waiting m) m
    let d := if before = [] then d else { d with lanes := { d.lanes with intake := (d.now, ahead ++ before) } }
    (before ++ [l]).foldl (fun (d : Dev) m => d.grantAt 0 m) d

/-- A frame arrives at a lane that receives: granted at M00, counted, and journalled where the lane accepts it
(Table 9.7, Table 8.11). -/
def Dev.laneFrame (d : Dev) (l id : Nat) (accepted : Bool) (data : List Byte) : Dev :=
  let d := (d.intakeGrant l).countWrap (Obj.LN_FRAMES_RX l)
  if accepted then d.jrec 0x02 [(l : Int), (id : Int)] data else d

/-! ### Lane states (R287 to R290, Table 8.5) -/

/-- How long fewer than two lanes have been alive is followed from the change on (R197). -/
def Dev.fewLanes (d : Dev) : Dev :=
  if d.aliveCount < 2 then
    { d with lanes := { d.lanes with fewSince := some (d.lanes.fewSince.getD d.now) } }
  else { d with lanes := { d.lanes with fewSince := none } }.silenceOver

/-- A lane enters a state. -/
def Dev.laneTo (d : Dev) (l st : Nat) : Dev := (d.put (Obj.LN_STATE l) st).fewLanes

/-- A lane leaves the vote for a cause, into EXCLUDED or BUS_OFF; a lane whose exclusion already stands keeps its
cause. LANE_SILENT ends with SILENT. -/
def Dev.excludeLane (d : Dev) (l cause st : Nat) : Dev :=
  let d := d.clearC 0x0201 (laneSource l)
  let d := d.setLn l { d.ln l with dissents := [], hbRun := none }
  let d := if d.active 0x0203 (laneSource l) then d
    else ((d.put (Obj.LN_EXCL_CAUSE l) cause).count (Obj.LN_EXCL_COUNT l)).raiseC 0x0203 (laneSource l) cause
  d.laneTo l st

/-- The instant the timers of a lane run from: its last heartbeat, before the first one KINDLED (R288). -/
def Dev.lastBeat (d : Dev) (l : Nat) : Nat :=
  if d.nat (Obj.LN_STATE l) = 1 then d.lanes.kindledAt else d.nat (Obj.LN_LAST_HB l)

/-- ALIVE without a heartbeat for LANE_SILENT_MS: SILENT. -/
def Dev.laneSilent (d : Dev) (l : Nat) : Dev :=
  if d.laneOn l ∧ d.nat (Obj.LN_STATE l) = 2 ∧ d.lastBeat l + ms (d.nat Obj.LANE_SILENT_MS) ≤ d.now then
    (d.raiseOnce 0x0201 (laneSource l) 0).laneTo l 3
  else d

/-- WAITING or SILENT without a heartbeat for LANE_TIMEOUT_MS: EXCLUDED, cause 1. -/
def Dev.laneTimeout (d : Dev) (l : Nat) : Dev :=
  let d := d.laneSilent l
  let st := d.nat (Obj.LN_STATE l)
  if d.laneOn l ∧ (st = 1 ∨ st = 3) ∧ d.lastBeat l + ms (d.nat Obj.LANE_TIMEOUT_MS) ≤ d.now then d.excludeLane l 1 4 else d

/-- A heartbeat: a timer that expires on its tick acts first (R289). The run without a gap begins anew after a gap of
LANE_SILENT_MS or more. -/
def Dev.heartbeat (d : Dev) (l : Nat) : Dev :=
  let d := d.laneTimeout l
  let gap := decide (d.nat (Obj.LN_LAST_HB l) + ms (d.nat Obj.LANE_SILENT_MS) ≤ d.now)
  let run : Nat := match (d.ln l).hbRun with
    | some t => if gap then d.now else t
    | none => d.now
  let d := (d.setLn l { d.ln l with hbRun := some run }).put (Obj.LN_LAST_HB l) d.now
  let st := d.nat (Obj.LN_STATE l)
  if st = 1 then d.laneTo l 2
  else if st = 3 then (d.clearC 0x0201 (laneSource l)).laneTo l 2
  else d

/-- A heartbeat frame of a node: that of LN_TCMS_NODE counts (R287). -/
def Dev.beatFrame (d : Dev) (l node : Nat) (nmt : Byte) : Dev :=
  if d.laneOn l then
    let own := decide (node ≠ 0 ∧ node = d.nat (Obj.LN_TCMS_NODE l))
    let d := d.laneFrame l (0x700 + node) own [nmt]
    if own then d.heartbeat l else d
  else d

/-- EXCLUDED with heartbeats that have run without a gap for LANE_READMIT_MS: ALIVE. -/
def Dev.readmit (d : Dev) (l : Nat) : Dev :=
  match (d.ln l).hbRun with
  | some t =>
    if d.nat (Obj.LN_STATE l) = 4 ∧ t + ms (d.nat Obj.LANE_READMIT_MS) ≤ d.now ∧
        d.now < d.nat (Obj.LN_LAST_HB l) + ms (d.nat Obj.LANE_SILENT_MS) then
      ((d.clearC 0x0203 (laneSource l)).put (Obj.LN_EXCL_CAUSE l) 0).laneTo l 2
    else d
  | none => d

/-- Bus-off (R274). An open transfer of the lane is lost. -/
def Dev.busOff (d : Dev) (l : Nat) : Dev :=
  if d.laneOn l then (d.setLn l { d.ln l with usdo := none }).excludeLane l 3 5 else d

/-- Recovery from bus-off: EXCLUDED until readmitted. -/
def Dev.busBack (d : Dev) (l : Nat) : Dev := if d.nat (Obj.LN_STATE l) = 5 then d.laneTo l 4 else d

/-- Does an arrival of the lane take no part in a vote: EXCLUDED or BUS_OFF (R283)? -/
def Dev.laneOut (d : Dev) (l : Nat) : Bool := d.nat (Obj.LN_STATE l) == 4 || d.nat (Obj.LN_STATE l) == 5

/-! ### TIME and SYNC (R291, R292) -/

/-- A TIME frame of an alive lane: accepted where it agrees with one of another alive lane within W before it. The
mapping takes the train time and stamp of the first. -/
def Dev.timeFrame (d : Dev) (l train : Nat) : Dev :=
  if d.laneOn l then
    let d := d.laneFrame l (d.nat Obj.COB_ID_TIME) true (leBytes 8 train)
    if d.laneAlive l then
      let wait := d.lanes.timeWait.filter fun (e : Nat × Nat × Nat) => decide (d.now < e.2.2 + d.voteW)
      let agrees := fun (e : Nat × Nat × Nat) =>
        let diff : Int := 100 * ((train : Int) - e.2.1) - ((d.now : Int) - e.2.2)
        e.1 != l && d.laneAlive e.1 && decide (diff.natAbs ≤ 100 * d.nat Obj.TIME_TOL_US)
      match wait.find? agrees with
      | some e =>
        let d := { d with lanes := { d.lanes with timeWait := [] }
                          ring := { d.ring with trainMap := some (e.2.1, e.2.2) } }
        ((d.put Obj.TIME_RX_TRAIN (e.2.1 % 2 ^ 64)).put Obj.TIME_RX_STAMP e.2.2).mapSend e.2.1 e.2.2
      | none => { d with lanes := { d.lanes with timeWait := wait ++ [(l, train, d.now)] } }
    else d
  else d

/-! ### What PDOs carry (R308 to R311, R501, R503) -/

/-- The sections of Table 8.8. In section 4 the two values of a signal group stand together, group by group. -/
def Dev.sections (d : Dev) : List (List Byte) :=
  let nib := fun n => d.nat (Obj.SUP_OBSERVED n) % 16
  let obs : List Byte := (List.range 48).map fun i => BitVec.ofNat 8 (nib (2 * i) + 16 * nib (2 * i + 1))
  let cond := bitmap 12 ((List.range 96).filter fun n => d.rep.conds.any fun (c : Cond) => c.source == n)
  let v := fun k => (d.view k).int.toNat
  let bat := leBytes 2 (v Obj.BAT_SOC_PM) ++ leBytes 2 (v Obj.BAT_REMAIN_MIN) ++ leBytes 1 (v Obj.BAT_STATE) ++
    leBytes 1 (v Obj.HO_STATE) ++ leBytes 2 0
  let sg := (List.range 32).flatMap fun s => leBytes 1 (d.nat (Obj.SG_ASPECT_APPLIED s)) ++ leBytes 1 (d.nat (Obj.SG_PROVEN s))
  [obs, cond, leBytes 4 (v Obj.FIN_STATES) ++ leBytes 4 (v Obj.FIN_BREAK_MAP), bat, sg]

/-- At a boundary of G00 the state is kept for the input images, where a task class is in use (R308). -/
def Dev.keepImage (d : Dev) (g : Nat) : Dev :=
  if g = 0 ∧ d.nat (Obj.GRP_LAST_BOUNDARY 0) = d.now ∧ ((List.range 8).any fun c => decide (d.nat (Obj.TK_CLIENT c) < 512)) then
    { d with lanes := { d.lanes with inSnap := some (d.now, d.sections) } }
  else d

/-- The selected sections, in order. -/
def maskSections (mask : Nat) (secs : List (List Byte)) : List (List Byte) :=
  (List.range 5).filterMap fun i => if bit mask i then some (secs.getD i []) else none

/-- Whole sections for as long as each still fits within 64 bytes (R311). -/
def fitSections (acc : List Byte) (secs : List (List Byte)) : List Byte :=
  match secs with
  | [] => acc
  | s :: r => if acc.length + s.length ≤ 64 then fitSections (acc ++ s) r else acc

/-- The size of the sections of Table 8.8, one after the other in an image after its header. -/
def splitImage (sizes : List Nat) (img : List Byte) : List (List Byte) :=
  match sizes with
  | [] => []
  | n :: r => img.take n :: splitImage r (img.drop n)

/-- What the TPDO of a task class carries of an image: the header, then the sections that fit (R311). -/
def tpdoImage (mask : Nat) (img : List Byte) : List Byte :=
  let sizes := (List.range 5).filterMap fun i => if bit mask i then some (([48, 12, 8, 8, 64] : List Nat).getD i 0) else none
  fitSections (img.take 12) (splitImage sizes (img.drop 12))

/-- The task class in use that names a TPDO (R308). -/
def Dev.tpdoTask (d : Dev) (p : Nat) : Option Nat :=
  (List.range 8).find? fun c => d.nat (Obj.TK_TPDO c) == p && decide (d.nat (Obj.TK_CLIENT c) < 512)

/-- The bytes an entry of a mapping names. -/
def Dev.mapped (d : Dev) (e : Nat) : List Byte :=
  let n := cdiv (e % 256) 8
  padTo n ((d.read (e / 256)).take n)

/-- The status PDO (Table 16.6). -/
def Dev.statusPdo (d : Dev) : List Byte :=
  let v := fun k => (d.view k).int.toNat
  let on := fun c => b2n (d.active c 0xFFFF)
  let st := d.stageSt
  leBytes 1 d.op.code ++ leBytes 1 d.lc.code ++ leBytes 1 d.voteMode ++ leBytes 1 (v Obj.LANES_ALIVE) ++
    leBytes 2 (v Obj.TEMPO_INDEX) ++ leBytes 1 st ++
    leBytes 1 (on 0x0503 + 2 * on 0x0204 + 4 * on 0x0604 + 8 * on 0x0502 + 16 * b2n (d.nat Obj.FW_PROBATION != 0) +
      32 * b2n (d.nat Obj.FW_CFG_HOLD == 1) + 64 * on 0x0404) ++
    leBytes 4 (v Obj.CFG_ACTIVE_EPOCH) ++ d.digestHead ++
    (if st = 4 ∨ st = 6 then d.stagedHead else List.replicate 8 0) ++ leBytes 2 d.rep.conds.length ++ leBytes 2 (v Obj.HALT_CAUSE)

/-- The content of a TPDO. -/
def Dev.tpdoContent (d : Dev) (p : Nat) : List Byte :=
  if p = 15 then d.statusPdo
  else match d.tpdoTask p with
    | some c => tpdoImage (d.nat (Obj.TK_IN_MASK c)) (d.bytesOf (Obj.TK_IN_IMAGE c))
    | none => ((List.range (d.nat (Obj.TPDO_MAP_COUNT p))).flatMap fun i => d.mapped (d.nat (Obj.TPDO_MAP p i))).take 64

/-- May a TPDO be sent: NMT operational and its COB-ID valid (R273, R501)? -/
def Dev.tpdoOk (d : Dev) (p : Nat) : Bool :=
  !d.isMember && d.lanes.nmt == 5 && decide ((d.view (Obj.TPDO_COB_ID p)).int.toNat < 2 ^ 31)

/-- A TPDO goes out on every lane. -/
def Dev.tpdoOut (d : Dev) (p : Nat) : Dev :=
  let c := d.tpdoContent p
  let id := (d.view (Obj.TPDO_COB_ID p)).int.toNat % 2 ^ 29
  let d := { d with lanes := { d.lanes with
    tpdoAt := tabPut 0 d.lanes.tpdoAt p d.now, tpdoLast := tabPut [] d.lanes.tpdoLast p c, tkQueue := tabPut [] d.lanes.tkQueue p [] } }
  [0, 1, 2].foldl (fun (d : Dev) l => d.laneSend 1 l id (padTo (canFdLen c.length) c)) d

/-- Has a TPDO something new: a queued image, or content other than last sent; of the status PDO bytes 0 to 3, 6
and 7 (R503)? -/
def Dev.tpdoNew (d : Dev) (p : Nat) : Bool :=
  let last := lookD [] d.lanes.tpdoLast p
  if p = 15 then
    (let pick := fun (b : List Byte) => b.take 4 ++ (b.drop 6).take 2
     pick d.statusPdo != pick last)
  else if (d.tpdoTask p).isSome then lookD [] d.lanes.tkQueue p != []
  else d.tpdoContent p != last

/-- Has the inhibit time of a TPDO passed? -/
def Dev.tpdoFree (d : Dev) (p : Nat) : Bool :=
  match look d.lanes.tpdoAt p with
  | some t => decide (t + 10000 * d.nat (Obj.TPDO_INHIBIT p) ≤ d.now)
  | none => true

/-- Is the event time of a TPDO up? -/
def Dev.tpdoEvent (d : Dev) (p : Nat) : Bool :=
  let ev := d.nat (Obj.TPDO_EVENT_MS p)
  ev != 0 && (match look d.lanes.tpdoAt p with
    | some t => decide (t + ms ev ≤ d.now)
    | none => true)

/-- A TPDO of type 0xFE is sent when its content is new and its inhibit time has passed; any at its event time. -/
def Dev.tpdoTimer (d : Dev) (p : Nat) : Dev :=
  if d.tpdoOk p && d.tpdoFree p && (d.tpdoEvent p || (d.nat (Obj.TPDO_TYPE p) == 0xFE && d.tpdoNew p)) then d.tpdoOut p else d

/-- A synchronous TPDO at a SYNC: type 0 when its content is new, type n at every n-th SYNC. -/
def Dev.tpdoSync (d : Dev) (p : Nat) : Dev :=
  let ty := d.nat (Obj.TPDO_TYPE p)
  if ty = 0 then (if d.tpdoOk p && d.tpdoNew p then d.tpdoOut p else d)
  else if ty ≤ 240 then
    (let n := lookD 0 d.lanes.syncCount p + 1
     let due := decide (ty ≤ n)
     let d := { d with lanes := { d.lanes with syncCount := tabPut 0 d.lanes.syncCount p (if due then 0 else n) } }
     if due && d.tpdoOk p then d.tpdoOut p else d)
  else d

/-- A SYNC frame acts when first received on an alive lane (R292). -/
def Dev.syncFrame (d : Dev) (l : Nat) (counter : Option Nat) : Dev :=
  if d.laneOn l then
    let data := match counter with
      | some c => leBytes 1 c
      | none => []
    let d := d.laneFrame l (d.nat Obj.COB_ID_SYNC % 2 ^ 29) true data
    let code := match counter with
      | some c => c + 1
      | none => 0
    let again := match d.lanes.sync with
      | some (c, l0, t0) => l0 != l && decide (d.now < t0 + d.voteW) && (code == 0 || code == c)
      | none => false
    if d.laneAlive l && !again then
      (List.range 16).foldl Dev.tpdoSync { d with lanes := { d.lanes with sync := some (code, l, d.now) } }
    else d
  else d

/-! ### Heartbeats and EMCY sent (R276, R397, R502) -/

/-- The heartbeat period of a lane: the device's own heartbeat, and that of each admitted member from its latest
STATUS. -/
def Dev.beatPeriod (d : Dev) (l : Nat) : Dev :=
  if d.laneOn l ∧ (d.ln l).lastHbSent + ms (d.nat Obj.PROD_HB_TIME) ≤ d.now then
    let d := d.laneSend 3 l (0x700 + d.nodeId) (heartbeatBytes d.lanes.nmt d.op.code d.stageSt d.digestHead)
    let d := ((List.range 16).filter fun p => decide (0 < p) && d.ringMaster && d.isAdmitted p && (d.pos p).status != []).foldl
      (fun (d : Dev) p =>
        let s := (d.pos p).status
        d.laneSend 3 l (0x700 + d.nodeId + p) (s.take 1 ++ (s.drop 18).take 1 ++ (s.drop 17).take 1 ++ [0] ++ (s.drop 1).take 8)) d
    d.setLn l { d.ln l with lastHbSent := d.now }
  else d

/-- A 2 ms window: the oldest report that waits is sent, where none has been sent in this window. -/
def Dev.emcyTurn (d : Dev) (l : Nat) : Dev :=
  if d.emcyFree l then
    match lookD [] d.rep.emcy l with
    | [] => d
    | e :: r => ({ d with rep := { d.rep with emcy := tabPut [] d.rep.emcy l r } }).emcySend l e
  else d

/-! ### Vote windows (R281 to R284) -/

/-- The window of a client and sequence. -/
def Dev.winOf (d : Dev) (c s : Nat) : Option VoteWin := d.lanes.wins.find? fun (w : VoteWin) => w.client == c && w.seq == s

/-- The windows without that of a client and sequence. -/
def Dev.winDrop (d : Dev) (c s : Nat) : Dev :=
  { d with lanes := { d.lanes with wins := d.lanes.wins.filter fun (w : VoteWin) => !(w.client == c && w.seq == s) } }

/-- A window replaced; a new one stands last. -/
def Dev.winPut (d : Dev) (w : VoteWin) : Dev :=
  if (d.winOf w.client w.seq).isSome then
    { d with lanes := { d.lanes with wins := d.lanes.wins.map fun (x : VoteWin) =>
        if x.client == w.client && x.seq == w.seq then w else x } }
  else { d with lanes := { d.lanes with wins := d.lanes.wins ++ [w] } }

/-- Is a body that of a USDO download, so that its lane awaits an answer? An RPDO's begins with 128 and more. -/
def usdoBody (client : Nat) (b : List Byte) : Bool := decide (client < 512) && decide ((b.headD 0).toNat < 128)

/-- The answer to a download: done, or an abort code; a stopped node answers none (R273, R286). -/
def Dev.answer (d : Dev) (l c s : Nat) (body : List Byte) (code : Nat) : Dev :=
  if usdoBody c body && d.laneOn l && d.lanes.nmt != 4 then
    (d.grantAt 7 2).emit (if code = 0 then .usdoOk l c s else .usdoAbort l code)
  else d

/-- The source VOTE_DISAGREE is raised on: the lane, for detail 2 the client; an NMT vote has no client, and the
device stands for it. -/
def disagreeSource (c detail l : Nat) : Nat := if detail = 2 then (if c < 512 then 0x600 + c else 0xFFFF) else laneSource l

/-- VOTE_DISAGREE (R284): raised where it is not active, its second running anew. -/
def Dev.disagree (d : Dev) (c detail l : Nat) : Dev :=
  let src := disagreeSource c detail l
  let v := detail + 65536 * (if c < 512 then c else 0xFFFF)
  let d := if d.active 0x0202 src then d.redetail 0x0202 src v else (d.raiseC 0x0202 src v).count Obj.VOTES_DISAGREE
  { d with lanes := { d.lanes with voteDisAt := tabIns d.lanes.voteDisAt src d.now } }

/-- A dissent of a lane: counted, and LANE_DISSENT_MAX of them within 1 s exclude an alive lane (Table 8.5). -/
def Dev.dissentOf (d : Dev) (l : Nat) : Dev :=
  let d := d.count (Obj.LN_DISSENT l)
  let ds := ((d.ln l).dissents.filter fun t => decide (d.now < t + 100000000)) ++ [d.now]
  let d := d.setLn l { d.ln l with dissents := ds }
  let top := d.nat Obj.LANE_DISSENT_MAX
  if top ≠ 0 ∧ top ≤ ds.length ∧ d.laneAlive l then d.excludeLane l 2 4 else d

/-- dissent of R283: the lanes named, one disagreement. -/
def Dev.dissent (d : Dev) (ls : List Nat) (c detail : Nat) : Dev :=
  ls.foldl Dev.dissentOf (d.disagree c detail (ls.headD 0))

/-- close of R283. -/
def Dev.winClose (d : Dev) (w : VoteWin) : Dev :=
  let d := d.winDrop w.client w.seq
  if w.body.isSome then d
  else
    let ls := [0, 1, 2].filter fun l => w.arrivals.any fun (a : Nat × List Byte) => a.1 == l
    let d := if 2 ≤ ls.length then d.dissent ls w.client 2
      else (d.count (Obj.LN_UNMATCHED (ls.headD 0))).disagree w.client 3 (ls.headD 0)
    w.arrivals.foldl (fun (d : Dev) (a : Nat × List Byte) => d.answer a.1 w.client w.seq a.2 0x08000020) d

/-- The windows that are over are closed, oldest first, before an arrival on the same tick (R281). -/
def Dev.winsOver (d : Dev) : Dev :=
  (d.lanes.wins.filter fun (w : VoteWin) => decide (w.opened + d.voteW ≤ d.now)).foldl Dev.winClose d

/-- Is a USDO transfer open on a lane: a segmented one, a proxied upload, or a download without its answer (R500)? -/
def Dev.usdoBusy (d : Dev) (l : Nat) : Bool :=
  (d.ln l).usdo.isSome || (d.ring.asked.any fun (a : Nat × Nat × Nat × Nat) => a.2.1 == l) ||
    d.lanes.wins.any fun (w : VoteWin) => w.body.isNone && w.arrivals.any fun (a : Nat × List Byte) => a.1 == l && usdoBody w.client a.2

/-- The ring position that a node-ID of an admitted member names (R397). -/
def Dev.proxied (d : Dev) (node : Nat) : Option Nat :=
  if d.ringMaster ∧ d.nodeId < node ∧ d.isAdmitted (node - d.nodeId) ∧ node - d.nodeId < 16 then some (node - d.nodeId) else none

/-- The lanes, alive at this instant, whose arrivals in a window have a body. -/
def Dev.agreeing (d : Dev) (w : VoteWin) (body : List Byte) : List Nat :=
  [0, 1, 2].filter fun l => d.laneAlive l && w.arrivals.any fun (a : Nat × List Byte) => a.1 == l && a.2 == body

/-- The window with an arrival; a later one of the same lane replaces it. -/
def VoteWin.arrive (w : VoteWin) (l : Nat) (body : List Byte) : VoteWin :=
  { w with arrivals := (w.arrivals.filter fun (a : Nat × List Byte) => a.1 != l) ++ [(l, body)] }

/-! ### NMT (R273, R290) -/

/-- An NMT command takes effect on the node. Reset node is executed as reset communication: pre-operational, with the
boot-up heartbeat, and transfers and PDOs begin anew. -/
def Dev.nmtDo (d : Dev) (cmd : Nat) : Dev :=
  let shut := fun (d : Dev) => [0, 1, 2].foldl (fun (d : Dev) l => d.setLn l { d.ln l with usdo := none }) d
  if cmd = 1 then { d with lanes := { d.lanes with nmt := 5 } }
  else if cmd = 2 then shut { d with lanes := { d.lanes with nmt := 4 } }
  else if cmd = 0x80 then { d with lanes := { d.lanes with nmt := 0x7F } }
  else (shut { d with lanes := { d.lanes with nmt := 0x7F, tpdoAt := [], tpdoLast := [], tkQueue := [], syncCount := [] } }).bootHeartbeat

/-- A voted NMT command on the nodes it names; those of members are forwarded (R397). -/
def Dev.nmtExecute (d : Dev) (cmd node : Nat) : Dev :=
  let members := ((List.range 16).filter fun p => decide (0 < p) && d.ringMaster && d.isAdmitted p).filter fun p =>
    node == 0 || node == d.nodeId + p
  let d := if node = 0 ∨ node = d.nodeId then d.nmtDo cmd else d
  members.foldl (fun (d : Dev) p => d.masterSend 0x10 p (ringPayload 0x10 [(cmd : Int), (node : Int)])) d

/-- An NMT command arrives on a lane. It is voted as a command is, command and node being the payload (R290). -/
def Dev.nmtHear (d : Dev) (l cmd node : Nat) : Dev :=
  if d.laneOn l then
    let mine := node == 0 || node == d.nodeId || (d.proxied node).isSome
    let body : List Byte := leBytes 1 cmd ++ leBytes 1 node
    let d := (d.laneFrame l 0 mine body).winsOver
    let s := 256 * cmd + node
    if !mine || d.laneOut l then d
    else match d.winOf 512 s with
      | some w =>
        if w.body.isSome then d.count (Obj.LN_AGREE l)
        else if d.aliveCount < 2 then d
        else
          let w := w.arrive l body
          let ls := d.agreeing w body
          let d := d.winPut w
          if 2 ≤ ls.length then
            (ls.foldl (fun (d : Dev) k => d.count (Obj.LN_AGREE k)) ((d.winPut { w with body := some body }).grantAt 1 0)).nmtExecute cmd node
          else d
      | none => if d.aliveCount < 2 then d else d.winPut ⟨512, s, d.now, [(l, body)], none, 0⟩
  else d

/-! ### Uploads (R277, R397, R500) -/

/-- A USDO upload request. -/
def Dev.upload (d : Dev) (l node key : Nat) : Dev :=
  if d.laneOn l then
    let own := node == d.nodeId
    let d := d.laneFrame l (0x600 + node) (own || (d.proxied node).isSome) (leBytes 4 key)
    if d.lanes.nmt = 4 ∨ !d.stokerRuns then d
    else if own then
      (if d.usdoBusy l then (d.grantAt 7 2).emit (.usdoAbort l 0x05040001)
       else
        let d := (d.grantAt 9 0).grantAt 7 2
        let c := readRefusal key
        d.emit (if c = 0 then .usdoData l key (d.read key) else .usdoAbort l c))
    else match d.proxied node with
      | some p =>
        if d.usdoBusy l then (d.grantAt 7 2).emit (.usdoAbort l 0x05040001)
        else
          let q := d.ring.askSeq + 1
          let d := { d with ring := { d.ring with askSeq := q, asked := d.ring.asked ++ [(q, l, node, key)] } }
          d.ringSend 0x20 p (ringPayload 0x20 [(q : Int), (key : Int)])
      | none => d
  else d

/-- A segmented transfer without a segment for 1 s is aborted (Table 16.3). -/
def Dev.segTimeout (d : Dev) (l : Nat) : Dev :=
  match (d.ln l).usdo with
  | some u =>
    if u.last + 100000000 ≤ d.now then
      let d := d.setLn l { d.ln l with usdo := none }
      if d.laneOn l then (d.grantAt 7 2).emit (.usdoAbort l 0x05040000) else d
    else d
  | none => d

/-! ### Timers of conditions and reports -/

/-- A second after the last disagreement of a source. -/
def Dev.disagreeOver (d : Dev) (src : Nat) : Dev :=
  match look d.lanes.voteDisAt src with
  | some t =>
    if t + 100000000 ≤ d.now then
      ({ d with lanes := { d.lanes with voteDisAt := tabDrop d.lanes.voteDisAt src } }).clearC 0x0202 src
    else d
  | none => d

/-- A second after the last claim conflict of a client (R296). -/
def Dev.conflictOver (d : Dev) (k : Nat) : Dev :=
  if (d.cl k).claimAt + 100000000 ≤ d.now then d.clearC 0x0302 (clSource k) else d

/-- The end of a hold-off (R171). -/
def Dev.holdOffOver (d : Dev) (src : Nat) : Dev :=
  match (d.srcOf src).holdEnd with
  | some t => if t ≤ d.now then d.holdOffEnd src else d
  | none => d

/-- A coalescing window of a code is over (R171). -/
def Dev.coalesceOver (d : Dev) (code : Nat) : Dev :=
  if (lookD {} d.rep.win code).win ≠ d.now / 1000000 then d.closeWin code else d

/-! ### Safe aspects on silence (R197 to R199) -/

/-- Since when the command side has been silent for this device: fewer than two lanes alive, or on a member the last
valid frame of its master. -/
def Dev.silentSince (d : Dev) : Option Nat := if d.isMember then some d.ring.lastMaster else d.lanes.fewSince

/-- A ring signal group of the master: a commit of the safe aspect is sent, and the entry waits for its instant. -/
def Dev.ringSafe (d : Dev) (s : Nat) : Dev :=
  let a := d.nat (Obj.SG_SAFE_ASPECT s)
  let lead := 100 * d.nat (Obj.SG_RING_LEAD_US s)
  let t := (if d.withholds then d.windowEnd else d.ringTime) + lead
  let q := (d.nat (Obj.SG_COMMIT_SEQ s) + 1) % 2 ^ 32
  let d := ((d.put (Obj.SG_COMMIT_INSTANT s) t).put (Obj.SG_COMMIT_SEQ s) q).put (Obj.SG_PENDING s) a
  (d.setSgp s { d.sgp s with safe := some (2, t), delayDone := true }).masterSend 0x11 0 (commitBytes s a t q)

/-- The delay of a signal group expires after a silence. -/
def Dev.safeDelay (d : Dev) (s : Nat) : Dev :=
  let due := sinceAtLeast d.silentSince (ms (d.nat (Obj.SG_SAFE_DELAY_MS s))) d.now
  if d.op = .operating ∧ d.sgUsed s ∧ !(d.sgp s).delayDone ∧ due then
    (if d.ringMaster && d.nat (Obj.SG_RING s) == 1 then d.ringSafe s
     else d.setSgp s { d.sgp s with safe := some (if d.isMember then 3 else 2, d.now), delayDone := true })
  else d

/-! ### Commands -/

/-- LANE_HEARTBEAT_RX (R287 to R289). -/
def execLaneHeartbeatRx (lane : LaneId) (node : Fin 128) (nmt : Byte) (s : State) :=
  s.talk fun d => d.beatFrame (laneNo lane) node.val nmt

/-- LANE_TIME_RX (R291). -/
def execLaneTimeRx (lane : LaneId) (trainUs : Nat) (s : State) := s.talk fun d => d.timeFrame (laneNo lane) trainUs

/-- LANE_SYNC_RX (R292). -/
def execLaneSyncRx (lane : LaneId) (counter : Option (Fin 241)) (s : State) :=
  s.talk fun d => d.syncFrame (laneNo lane) (counter.map fun c => c.val)

/-- NMT_START_REMOTE_NODE (R273, R290). -/
def execNmtStartRemoteNode (lane : LaneId) (node : Fin 128) (s : State) := s.talk fun d => d.nmtHear (laneNo lane) 1 node.val

/-- NMT_STOP_REMOTE_NODE (R273, R290). -/
def execNmtStopRemoteNode (lane : LaneId) (node : Fin 128) (s : State) := s.talk fun d => d.nmtHear (laneNo lane) 2 node.val

/-- NMT_ENTER_PRE_OPERATIONAL (R273, R290). -/
def execNmtEnterPreOperational (lane : LaneId) (node : Fin 128) (s : State) :=
  s.talk fun d => d.nmtHear (laneNo lane) 0x80 node.val

/-- NMT_RESET_NODE (R273, R290). -/
def execNmtResetNode (lane : LaneId) (node : Fin 128) (s : State) := s.talk fun d => d.nmtHear (laneNo lane) 0x81 node.val

/-- NMT_RESET_COMMUNICATION (R273, R290). -/
def execNmtResetCommunication (lane : LaneId) (node : Fin 128) (s : State) :=
  s.talk fun d => d.nmtHear (laneNo lane) 0x82 node.val

/-- USDO_UPLOAD (R277, R397). -/
def execUsdoUpload (lane : LaneId) (node : Fin 128) (key : Fin 16777216) (s : State) :=
  s.talk fun d => d.upload (laneNo lane) node.val key.val

/-- USDO_SEGMENT_TIMEOUT (R499). -/
def execUsdoSegmentTimeout (lane : LaneId) (s : State) := s.talk fun d => d.segTimeout (laneNo lane)

/-- VOTE_WINDOW_CLOSE (R281, R283). -/
def execVoteWindowClose (client : Fin 513) (seq : Fin 65536) (s : State) :=
  s.talk fun d => match d.winOf client.val seq.val with
    | some w => if w.opened + d.voteW ≤ d.now then d.winClose w else d
    | none => d

/-- LANE_SILENT_TIMEOUT (R288). -/
def execLaneSilentTimeout (lane : LaneId) (s : State) := s.talk fun d => d.laneSilent (laneNo lane)

/-- LANE_TIMEOUT (R288). -/
def execLaneTimeout (lane : LaneId) (s : State) := s.talk fun d => d.laneTimeout (laneNo lane)

/-- LANE_READMIT (R288). -/
def execLaneReadmit (lane : LaneId) (s : State) := s.talk fun d => d.readmit (laneNo lane)

/-- LANE_BUS_OFF (R274). -/
def execLaneBusOff (lane : LaneId) (s : State) := s.talk fun d => d.busOff (laneNo lane)

/-- LANE_BUS_OFF_RECOVERED (R274). -/
def execLaneBusOffRecovered (lane : LaneId) (s : State) := s.talk fun d => d.busBack (laneNo lane)

/-- EMCY_WINDOW (R276). -/
def execEmcyWindow (lane : LaneId) (s : State) := s.talk fun d => d.emcyTurn (laneNo lane)

/-- HEARTBEAT_PERIOD (R502). -/
def execHeartbeatPeriod (lane : LaneId) (s : State) := s.talk fun d => d.beatPeriod (laneNo lane)

/-- TPDO_EVENT_TIMER (R501). -/
def execTpdoEventTimer (pdo : Fin 16) (s : State) := s.talk fun d => d.tpdoTimer pdo.val

/-- STATUS_PDO_SEND (R503). -/
def execStatusPdoSend (s : State) := s.talk fun d => d.tpdoTimer 15

/-- VOTE_DISAGREE_CLEAR (R284). -/
def execVoteDisagreeClear (source : Fin 65536) (s : State) := s.talk fun d => d.disagreeOver source.val

/-- CLAIM_CONFLICT_CLEAR (R296). -/
def execClaimConflictClear (client : Fin 512) (s : State) := s.talk fun d => d.conflictOver client.val

/-- SAFE_ASPECT_DELAY (R197, R199). -/
def execSafeAspectDelay (sg : Fin 32) (s : State) := s.live fun d => d.safeDelay sg.val

/-- HOLD_OFF_EXPIRY (R171). -/
def execHoldOffExpiry (source : Fin 65536) (s : State) := s.talk fun d => d.holdOffOver source.val

/-- COALESCING_WINDOW_CLOSE (R171). -/
def execCoalescingWindowClose (code : Fin 65536) (s : State) := s.talk fun d => d.coalesceOver code.val

/-- GROUP_FRAME_BOUNDARY (R118, R47, R308): `complete` tells whether the next buffer was ready, `means` the mean
current of each channel's last period as R68 takes it. -/
def execGroupFrameBoundary (g : Fin 24) (complete : Bool) (means : List (Option Nat)) (s : State) :=
  s.live fun d => ((d.frameBoundary g.val complete means).keepImage g.val).judged

end Sys2Proof.Machine
end

