-- ==== Sys2Proof/Machine/Replay.lean ====
section
/-! DEFINITION. Extracts built and loaded, and how a run of the replay starts and is left (R351 to R365). -/
namespace Sys2Proof.Machine

/-! ### Building an extract (R353, R358 to R360) -/

/-- Bytes padded with zeros to a whole number of 4 KiB. -/
def pad4k (b : List Byte) : List Byte := b ++ List.replicate ((4096 - b.length % 4096) % 4096) 0

/-- The boot-table entry of a boot, with the RECORD values rebuilt there. -/
def Dev.bootOf (d : Dev) (resetCount : Nat) : Option (List Byte × Store) :=
  (d.replay.bootTable.zip d.replay.bootImages).find? fun (e : List Byte × Store) => leNat (e.1.take 4) == resetCount

/-- Is a segment held? -/
def Dev.segHeld (d : Dev) (num : Nat) : Bool := d.jnl.segs.any fun (g : Seg) => g.num == num

/-- Why a build is refused (Table 10.5), or 0. -/
def Dev.buildCause (d : Dev) : Nat :=
  let rc := d.nat Obj.XB_RESET_COUNT
  let last := d.nat Obj.XB_LAST_SEG
  match d.bootOf rc with
  | none => 1
  | some (e, _) =>
    match look d.jnl.firsts rc with
    | none => 2
    | some first =>
      if !d.segHeld first then 2
      else if leNat ((e.drop 16).take 8) < d.ember.checkpoint then 3
      else if last < first ∨ !d.segHeld last then 4
      else 0

/-- The records of segment bytes: type, length, interval from the record before, payload (R339). TIME_BASE sets the
time. What the payload's bytes say, Table 9.7 names without a layout (log entry 7). -/
def segRecs (fuel : Nat) (b : List Byte) (t : Nat) : List (List Byte × JRec) :=
  match fuel with
  | 0 => []
  | f + 1 =>
    match b with
    | ty :: ln :: d0 :: d1 :: rest =>
      let p := rest.take ln.toNat
      let after := rest.drop ln.toNat
      if ty = 1 then (ty :: ln :: d0 :: d1 :: p, ⟨1, [], p, leNat (p.take 8)⟩) :: segRecs f after (leNat (p.take 8))
      else
        let now := t + leNat [d0, d1]
        let x := Config.recordFields ty.toNat p
        (ty :: ln :: d0 :: d1 :: p, ⟨ty.toNat, x.1, x.2, now⟩) :: segRecs f after now
    | _ => []

/-- The events of one segment as programmed (Table 9.9). -/
def segEvents (b : List Byte) : List (List Byte × JRec) :=
  let used := leNat ((b.drop 61440).take 4)
  if (b.getD 6 0) = 0 then segRecs used ((b.drop 64).take (min used 61376)) 0 else []

/-- The digests that CONFIG_EPOCH records name. -/
def epochDigests (rs : List (List Byte × JRec)) : List (List Byte) :=
  rs.filterMap fun (r : List Byte × JRec) => if r.2.ty = 0x0B then some r.2.data else none

/-- A configuration image of the extract: digest, length and serialisation; one that the configuration area no longer
holds has length 0 (R359). -/
def Dev.cfgImage (d : Dev) (digest : List Byte) : List Byte :=
  let body : List Byte :=
    if digest = d.bytesOf Obj.CFG_ACTIVE_DIGEST then d.serial
    else if d.stageSt = 7 ∧ digest = d.bytesOf Obj.CFG_PREVIOUS_DIGEST then d.stagedDev.serial
    else []
  padTo 32 (digest.take 32) ++ leBytes 4 body.length ++ body

/-- The checkpoint image: every RECORD value, serialised as the digest serialises the configuration, in ascending key
(R321). -/
def recordImage (m : Store) : List Byte :=
  (keysOf .record).flatMap fun k => match objRow k with
    | some r => serialObj k r.ty (storeVal m k)
    | none => []

/-- A section: its header and its contents (Table 10.4). -/
def extractPart (ty count : Nat) (b : List Byte) : List Byte :=
  pad4k (leBytes 2 ty ++ leBytes 2 0 ++ leBytes 4 count ++ leBytes 8 b.length ++ b)

/-- The extract (Table 10.3, Table 10.4). -/
def Dev.extract (d : Dev) (entry : List Byte) (image : Store) (first last : Nat) : List Byte :=
  let segs := d.jnl.segs.filter fun (g : Seg) => decide (first ≤ g.num) && decide (g.num ≤ last)
  let digests := (((entry.drop 32).take 32 :: epochDigests (segs.flatMap fun (g : Seg) => segEvents g.bytes)).eraseDups).take 4
  let state := recordImage image
  let header := leBytes 4 0xA5E50E01 ++ leBytes 2 1 ++ leBytes 2 3 ++ leBytes 8 (d.nat Obj.SERIAL_NUMBER) ++
    leBytes 2 (d.nat Obj.CONTROL_DIE_REV) ++ leBytes 1 (d.nat Obj.PKG_VARIANT) ++ [0] ++ padTo 64 (entry.take 64) ++ leBytes 8 last
  pad4k header ++ extractPart 1 digests.length (digests.flatMap d.cfgImage) ++
    extractPart 2 1 (state ++ leBytes 4 (crc32c state)) ++ extractPart 3 segs.length (segs.flatMap Seg.bytes)

/-- XB_BUILD := 1: a build starts (R358). -/
def Dev.buildStart (d : Dev) : Dev :=
  (({ d with replay := { d.replay with building := true, built := [] } }.put Obj.XB_STATE 0).put Obj.XB_CAUSE 0).put Obj.XB_SIZE 0

/-- The build is complete: ready, or refused with its cause (R360). -/
def Dev.buildDone (d : Dev) : Dev :=
  if d.replay.building then
    let d := { d with replay := { d.replay with building := false } }
    let c := d.buildCause
    if c ≠ 0 then (d.put Obj.XB_STATE 2).put Obj.XB_CAUSE c
    else
      let rc := d.nat Obj.XB_RESET_COUNT
      let e := (d.bootOf rc).getD ([], [])
      let x := d.extract e.1 e.2 (lookD 0 d.jnl.firsts rc) (d.nat Obj.XB_LAST_SEG)
      ({ d with replay := { d.replay with built := x } }.put Obj.XB_STATE 1).put Obj.XB_SIZE x.length
  else d

/-! ### The extract as loaded (R359, R360, R363) -/

/-- A section of the extract at an offset: type, item count, contents, and the offset of the next. -/
def sectionAt (x : List Byte) (off : Nat) : Nat × Nat × List Byte × Nat :=
  let b := x.drop off
  let n := leNat ((b.drop 8).take 8)
  (leNat (b.take 2), leNat ((b.drop 4).take 4), (b.drop 16).take n, off + cdiv (16 + n) 4096 * 4096)

/-- The three sections' counts and contents, where the layout is valid. -/
def extractSections (x : List Byte) : Option ((Nat × List Byte) × (Nat × List Byte) × (Nat × List Byte)) :=
  let a := sectionAt x 4096
  let b := sectionAt x a.2.2.2
  let c := sectionAt x b.2.2.2
  if leNat (x.take 4) = 0xA5E50E01 ∧ leNat ((x.drop 4).take 2) = 1 ∧ leNat ((x.drop 6).take 2) = 3 ∧
      a.1 = 1 ∧ b.1 = 2 ∧ c.1 = 3 ∧ c.2.2.2 = x.length ∧ c.2.2.1.length = 65536 * c.2.1 ∧ 0 < c.2.1 ∧ 1 ≤ a.2.1 ∧ a.2.1 ≤ 4 then
    some ((a.2.1, a.2.2.1), (b.2.1, b.2.2.1), (c.2.1, c.2.2.1))
  else none

/-- The anchor entry of an extract. -/
def anchorOf (x : List Byte) : List Byte := (x.drop 20).take 64

/-- The configuration images of a section: digest and serialisation. -/
def cfgImages (n : Nat) (b : List Byte) : List (List Byte × List Byte) :=
  match n with
  | 0 => []
  | k + 1 =>
    let len := leNat ((b.drop 32).take 4)
    (b.take 32, (b.drop 36).take len) :: cfgImages k (b.drop (36 + len))

/-- The segments of a section, 65,536 bytes each. -/
def segsOf (n : Nat) (b : List Byte) : List (List Byte) :=
  match n with
  | 0 => []
  | k + 1 => b.take 65536 :: segsOf k (b.drop 65536)

/-- Does a segment carry the magic and its own seal? -/
def sealOk (g : List Byte) : Bool :=
  leNat (g.take 4) == 0xA5E50001 && (g.drop 61452).take 32 == sha256 (g.take 61452)

/-- Do segments form a chain: each seal holds, each links to the one before, and the numbers have no gap? -/
def chainOk (gs : List (List Byte)) : Bool :=
  match gs with
  | [] => true
  | a :: r =>
    sealOk a && (match r with
      | [] => true
      | b :: _ => (b.drop 32).take 32 == (a.drop 61452).take 32 && leNat ((b.drop 8).take 8) == leNat ((a.drop 8).take 8) + 1) &&
      chainOk r

/-- The slot that holds a firmware version which may run. -/
def Dev.replaySlot (d : Dev) (version : Nat) : Option Nat :=
  [0, 1].find? fun i =>
    let s := d.slot i
    (s.base || (look s.blocks 0).isSome) && s.version == version && decide (d.nat Obj.FW_SEC_COUNTER ≤ s.secVer)

/-- Why a loaded extract is refused (Table 10.5), or 0. -/
def Dev.loadCause (d : Dev) : Nat :=
  let x := d.replay.loaded
  match extractSections x with
  | none => 11
  | some (c, e, j) =>
    let a := anchorOf x
    let images := cfgImages c.1 c.2
    let n := e.2.length - 4
    if leNat ((x.drop 16).take 2) / 256 ≠ d.nat Obj.CONTROL_DIE_REV / 256 then 12
    else if !chainOk (segsOf j.1 j.2) then 13
    else if !(images.any fun (i : List Byte × List Byte) => i.1 == (a.drop 32).take 32 && i.2 != []) ||
        images.any (fun (i : List Byte × List Byte) => i.2 != [] && sha256 i.2 != i.1) then 14
    else if e.2.length < 4 ∨ leNat (e.2.drop n) ≠ crc32c (e.2.take n) then 15
    else if (d.replaySlot (leNat ((a.drop 4).take 4))).isNone then 16
    else if d.replayRoom * 2 ^ 20 < x.length then 17
    else 0

/-- The recorded events of an extract, with their segments; a truncated segment ends them (R366). -/
def extractEvents (gs : List (List Byte)) : List (Nat × List Byte × JRec) :=
  match gs with
  | [] => []
  | g :: r =>
    let here := (segEvents g).map fun (e : List Byte × JRec) => (leNat ((g.drop 8).take 8), e.1, e.2)
    if (g.getD 7 0).toNat % 2 = 1 then here else here ++ extractEvents r

/-- The load ends: LOADED with the anchor and the size, or REFUSED with its cause. Each segment's seal is checked at
M04 as requester 2. -/
def Dev.loadDone (d : Dev) : Dev :=
  let n := match extractSections d.replay.loaded with
    | some (_, _, j) => j.1
    | none => 0
  let d := (List.range n).foldl (fun (d : Dev) _ => d.digestOnce 2) d
  let c := d.loadCause
  if c ≠ 0 then (d.put Obj.REPLAY_STATE 6).put Obj.REPLAY_REFUSE_CAUSE c
  else
    let x := d.replay.loaded
    let images := match extractSections x with
      | some (c, _, _) => cfgImages c.1 c.2
      | none => []
    let segs := match extractSections x with
      | some (_, _, j) => segsOf j.1 j.2
      | none => []
    let d := { d with replay := { d.replay with
      inputs := extractEvents segs, pos := 0
      images := (images.filter fun (i : List Byte × List Byte) => i.2 != []).map Prod.fst } }
    ((d.put Obj.REPLAY_STATE 3).put Obj.REPLAY_REFUSE_CAUSE 0).put Obj.REPLAY_DEVICE_TIME (leNat (((anchorOf x).drop 24).take 8))

/-- A part of an extract: its status. The first one begins the load, which takes the place of the history that is not
frozen (R363, R365, R518). -/
def Dev.loadPart (d : Dev) (offset : Nat) (data : List Byte) (last : Bool) : Dev × Nat × List Byte :=
  let st := d.nat Obj.REPLAY_STATE
  if data.length < 1 ∨ 1024 < data.length then (d, 2, [])
  else if d.op ≠ .replay ∨ (st ≠ 1 ∧ st ≠ 2) then (d, 3, [])
  else if offset ≠ d.replay.loaded.length then (d, 0x000A, [])
  else
    let d := if st = 1 then
        { d with jnl := { d.jnl with segs := d.jnl.segs.filter Seg.frozen } }.put Obj.REPLAY_STATE 2
      else d
    let d := d.grantAt 3 2
    let d := { d with replay := { d.replay with loaded := d.replay.loaded ++ data } }
    let d := d.put Obj.REPLAY_LOADED_MIB (cdiv d.replay.loaded.length (2 ^ 20) % 2 ^ 32)
    (if last then d.loadDone else d, 0, [])

/-- EXTRACT_LOAD as it is written. -/
def loadBytes (offset : Nat) (last : Bool) (data : List Byte) : List Byte :=
  leBytes 8 offset ++ leBytes 1 (b2n last) ++ [0, 0, 0] ++ data

/-! ### A run (R351, R362, R364) -/

/-- The objects of a serialisation, as a half holds them; the block's own objects are in none. -/
def objsOf (fuel : Nat) (b : List Byte) (m : Store) : Store :=
  match fuel with
  | 0 => m
  | f + 1 =>
    if b.length < 6 then m
    else
      let k := 256 * leNat (b.take 2) + leNat ((b.drop 2).take 1)
      let n := leNat ((b.drop 4).take 2)
      let v := (b.drop 6).take n
      objsOf f (b.drop (6 + n)) (match objRow k with
        | some r => if ownKey k then m else storePut m k (decodeVal r.ty v)
        | none => m)

/-- The block as a step of a run computes with it: replayed time, state and supplies; its store, its session and its
buses are apart. -/
def Dev.inRun (d : Dev) : Dev :=
  { d with
    now := d.replay.clock, op := d.replay.op, lc := .service, power := d.replay.power
    waiters := [], ember := {}, banked := [], admin := {}, test := {}, guard := {}, sent := []
    ins := { d.ins with holdN := true, supplyOk := true, resetN := true }
    jnl := d.replay.jnl
    replay := { d.replay with run := true } }

/-- What such a step leaves: the replayed values; its lamp outputs and its frames go nowhere (Table 10.6, R362). -/
def Dev.outRun (d r : Dev) : Dev :=
  { r with
    now := d.now, op := d.op, lc := d.lc, power := d.power, waiters := d.waiters, ember := d.ember, banked := d.banked
    admin := d.admin, test := d.test, guard := d.guard, sent := d.sent, ins := d.ins, outs := d.outs, jnl := d.jnl
    replay := { r.replay with
      run := false, clock := r.now, op := r.op, power := r.power, jnl := r.jnl } }

/-- The state at the anchor: its configuration, its RECORD values, the MAYFLY defaults, at the KINDLED it recorded. -/
def Dev.atAnchor (d : Dev) : Dev :=
  let x := d.replay.loaded
  let a := anchorOf x
  match extractSections x with
  | some (c, e, _) =>
    let image := (((cfgImages c.1 c.2).find? fun (i : List Byte × List Byte) => i.1 == (a.drop 32).take 32).map Prod.snd).getD []
    let m := d.dict.filter fun (e : Nat × Val) => ownKey e.1
    let m := objsOf image.length (image.drop 10) m
    let m := objsOf e.2.length (e.2.take (e.2.length - 4)) m
    let t := leNat ((a.drop 24).take 8)
    let d := { d with
      dict := m, staged := [], cfg := { format := leNat ((image.drop 8).take 2), heldFormat := leNat ((image.drop 8).take 2) }, rep := {}
      replay := { d.replay with
        own := some ⟨d.dict, d.staged, d.cfg, d.rep⟩, clock := t, op := .kindled, power := {}, jnl := { recovered := true, refillAt := t }
        made := [], asked := [], expect := [], points := [], pos := 0 } }
    let d := d.putBytes Obj.CFG_ACTIVE_DIGEST ((a.drop 32).take 32)
    let r := { d.inRun with lanes := { d.lanes with kindledAt := t } }
    let r := r.kindleTimes.installConfig.startRole.startInputs
    d.outRun (if r.isMember then r else r.bootHeartbeat)
  | none => d

/-- REPLAY_CONTROL := 2 in LOADED: the core restarts in the slot that holds the recorded firmware, its image verified,
and runs from the anchor (R364). -/
def Dev.replayStart (d : Dev) : Dev :=
  match d.replaySlot (leNat (((anchorOf d.replay.loaded).drop 4).take 4)) with
  | some i =>
    if d.nat Obj.REPLAY_STATE = 3 ∧ d.imageCause (d.slot i) = 0 then
      let d := (d.put Obj.FW_ACTIVE_SLOT i).put Obj.FW_ACTIVE_VERSION (d.slot i).version
      let d := ((d.put Obj.REPLAY_STATE 4).put Obj.REPLAY_END_REASON 0).put Obj.REPLAY_EVENT_INDEX 0
      let d := ((d.put Obj.DIV_KIND 0).put Obj.REPLAY_SAMPLE_PULSES 0).put Obj.REPLAY_STREAM_PULSES 0
      d.atAnchor
    else d
  | none => d

/-- REPLAY_CONTROL := 3 in LOADED, REFUSED and ENDED: the extract is discarded, and with it what a run showed. -/
def Dev.replayDiscard (d : Dev) : Dev :=
  let st := d.nat Obj.REPLAY_STATE
  if st = 3 ∨ st = 5 ∨ st = 6 then
    let d := d.ownBack
    ({ d with replay := { d.replay with loaded := [], inputs := [], images := [], pos := 0 } }.put Obj.REPLAY_STATE 1).put
      Obj.REPLAY_LOADED_MIB 0
  else d

/-- REPLAY_CONTROL := 1 in MAINTENANCE: a reset after which the device kindles into REPLAY (R361). -/
def Dev.replayEnter (d : Dev) : Dev := { d.resetSelf 3 with lc := .replay }

/-! ### Commands -/

/-- XB_BUILD_DONE (R360). -/
def execXbBuildDone (s : State) := s.port Dev.buildDone

/-- EXTRACT_LOAD (R518). -/
def execExtractLoad (peer req counter : Nat) (tag : List Byte) (offset : Nat) (data : List Byte) (s : State) :=
  s.port fun d => d.svcWrite peer 0x30 req counter tag (loadBytes offset false data) false fun d => d.loadPart offset data false

/-- EXTRACT_LOAD_FINAL (R363, R365). -/
def execExtractLoadFinal (peer req counter : Nat) (tag : List Byte) (offset : Nat) (data : List Byte) (s : State) :=
  s.port fun d => d.svcWrite peer 0x30 req counter tag (loadBytes offset true data) false fun d => d.loadPart offset data true

end Sys2Proof.Machine
end

