-- ==== Sys2Proof/Machine/WriteChecks.lean ====
section
/-! DEFINITION. The checks of a write, in the order of Table 16.3, and what a write is judged by: existence, access,
length, range, state, rights, admission (R294 to R298, R496 to R499). -/
namespace Sys2Proof.Machine

/-- What a write's object is, where a write does more than change a staged value. -/
inductive Target where
  | dim (n : Nat) | supClear (n : Nat) | lifeReset (n : Nat) | bind (n : Nat)
  | sgReq (s : Nat)
  | peControl (e : Nat) | peJump (e : Nat)
  | gwData (k : Nat) | gwSwap (k : Nat) | mxRow (r : Nat) | mxSwap
  | voted | fence | task (c : Nat) | budget (k : Nat) | retain (k : Nat)
  | capArm | capTrigger | capFreeze | capUnfreeze
  | replayControl | replayStop | xbReset | xbLast | xbBuild
  | stageControl | activate | confirm
  | calNow | cicada | errCount
  | lcRequest | maint | keyInstall | fwConfirm | fwUpd
  | engine | lkPath | lkIndex | lkPattern | lkDuration | lkControl
  | staged (k : Nat)
  /-- a reserved sub-index: a write is ignored (R21) -/
  | ignored
  deriving DecidableEq, Repr

/-- The target of a key of the lamp and effect objects. -/
def targetLamp (k : Nat) : Option Target :=
  let i := k / 256
  if 0x3000 ≤ i ∧ i < 0x3600 then
    (let n := (i - 0x3000) / 16
     if k = Obj.DIM_LEVEL n then some (.dim n)
     else if k = Obj.SUP_CLEAR n then some (.supClear n)
     else if k = Obj.LIFE_RESET n then some (.lifeReset n) else none)
  else if 0x3800 ≤ i ∧ i < 0x3820 then (if k = Obj.SG_REQUEST (i - 0x3800) then some (.sgReq (i - 0x3800)) else none)
  else if 0x2700 ≤ i ∧ i < 0x2710 then
    (if k = Obj.PE_CONTROL (i - 0x2700) then some (.peControl (i - 0x2700))
     else if k = Obj.PE_JUMP_SEG (i - 0x2700) then some (.peJump (i - 0x2700)) else none)
  else if Obj.PE_CH_BIND 0 ≤ k ∧ k < Obj.PE_CH_BIND 96 then some (.bind (k - Obj.PE_CH_BIND 0))
  else if 0x2720 ≤ i ∧ i < 0x2728 then
    (if k = Obj.GW_DATA (i - 0x2720) then some (.gwData (i - 0x2720))
     else if k = Obj.GW_SWAP (i - 0x2720) then some (.gwSwap (i - 0x2720)) else none)
  else if Obj.MX_ROW 0 ≤ k ∧ k < Obj.MX_ROW 16 then some (.mxRow (k - Obj.MX_ROW 0))
  else if k = Obj.MX_SWAP then some .mxSwap
  else none

/-- The target of a key of the device's own objects. -/
def targetDevice (k : Nat) : Option Target :=
  let i := k / 256
  if k = Obj.VOTED_WRITE then some .voted
  else if k = Obj.FENCE_ISSUE then some .fence
  else if 0x2240 ≤ i ∧ i < 0x2248 ∧ k = Obj.TK_FENCE (i - 0x2240) then some (.task (i - 0x2240))
  else if 0x4000 ≤ i ∧ i < 0x4200 ∧ k = Obj.CL_BUDGET_NOW_MW (i - 0x4000) then some (.budget (i - 0x4000))
  else if 0x4000 ≤ i ∧ i < 0x4200 ∧ k = Obj.CL_RETAIN (i - 0x4000) then some (.retain (i - 0x4000))
  else if k = Obj.CAP_ARM then some .capArm
  else if k = Obj.CAP_TRIGGER then some .capTrigger
  else if k = Obj.CAP_FREEZE then some .capFreeze
  else if k = Obj.CAP_UNFREEZE then some .capUnfreeze
  else if k = Obj.REPLAY_CONTROL then some .replayControl
  else if k = Obj.REPLAY_STOP_TIME then some .replayStop
  else if k = Obj.XB_RESET_COUNT then some .xbReset
  else if k = Obj.XB_LAST_SEG then some .xbLast
  else if k = Obj.XB_BUILD then some .xbBuild
  else none

/-- The target of a key of configuration, life cycle and test. -/
def targetAdmin (k : Nat) : Option Target :=
  if k = Obj.CFG_STAGE_CONTROL then some .stageControl
  else if k = Obj.CFG_ACTIVATE then some .activate
  else if k = Obj.CFG_CONFIRM then some .confirm
  else if k = Obj.CAL_NOW then some .calNow
  else if k = Obj.CICADA_ENTER then some .cicada
  else if k = Obj.ERR_FIELD_COUNT then some .errCount
  else if k = Obj.LC_REQUEST then some .lcRequest
  else if k = Obj.LC_MAINT_CONTROL then some .maint
  else if k = Obj.KEY_INSTALL then some .keyInstall
  else if k = Obj.FW_CONFIRM then some .fwConfirm
  else if k = Obj.FW_UPD_CONTROL then some .fwUpd
  else if k = Obj.TT_ENGINE_CONTROL then some .engine
  else if k = Obj.LK_PATH then some .lkPath
  else if k = Obj.LK_INDEX then some .lkIndex
  else if k = Obj.LK_PATTERN then some .lkPattern
  else if k = Obj.LK_DURATION_MS then some .lkDuration
  else if k = Obj.LK_CONTROL then some .lkControl
  else none

/-- The target of a key. -/
def Target.of (k : Nat) : Target :=
  match targetLamp k with
  | some t => t
  | none => match targetDevice k with
    | some t => t
    | none => match targetAdmin k with
      | some t => t
      | none => if cfgKey k then .staged k else .ignored

/-! ### Checks 4 to 7: existence, access, length, range -/

/-- The states in which RWM objects and MAINTENANCE clients act (Table 13.1). -/
def Dev.maintLike (d : Dev) : Bool := d.lc == .maintenance || d.lc == .factory || d.lc == .provision

/-- Check 6 (R496): the stated maximum of CL_RETAIN and GW_DATA is another object's value. -/
def Dev.lenCode (d : Dev) (r : ObjRow) (k n : Nat) : Nat :=
  match r.ty.size with
  | some s => if n = s then 0 else 0x06070010
  | none =>
    let top := match Target.of k with
      | .gwData p => d.gwBytes p
      | .retain c => d.nat (Obj.CL_RET_SIZE c)
      | _ => r.len
    if top < n then 0x06070012 else if r.ty = .ostring ∧ n < r.len then 0x06070013 else 0

/-- Is an IPv4 mask contiguous: ones, then zeros? -/
def maskOk (m : Nat) : Bool := (List.range 33).any fun i => m == 2 ^ 32 - 2 ^ i

/-- A value as the row's own bits take it (R21). -/
def maskVal (r : ObjRow) (v : Val) : Val :=
  match v with
  | .num x => if r.mask = 0 then v else .num ((Nat.land x.toNat r.mask : Nat) : Int)
  | .bytes _ => v

/-- Check 7: the row's writable values. -/
def rangeOk (r : ObjRow) (k : Nat) (v : Val) : Bool :=
  match v with
  | .num x =>
    (r.range.isEmpty || r.range.any fun (i : Int × Int) => decide (i.1 ≤ x) && decide (x ≤ i.2)) &&
      (r.ty != .bool || x == 0 || x == 1) && (k != Obj.SVC_IPV4_MASK || maskOk x.toNat)
  | .bytes b => r.ty != .vstring || b.all fun (c : Byte) => decide (0x20 ≤ c.toNat) && decide (c.toNat ≤ 0x7E)

/-- The value that the bytes of a write give an object. -/
def writeVal (k : Nat) (b : List Byte) : Val :=
  match objRow k with
  | some r => maskVal r (decodeVal r.ty b)
  | none => .bytes b

/-- Checks 4 to 7 on a write of bytes to an object, or 0. -/
def Dev.staticCode (d : Dev) (k : Nat) (b : List Byte) : Nat :=
  if !indexExists (k / 256) then 0x06020000
  else if highestSub (k / 256) < k % 256 then 0x06090011
  else match objRow k with
    | none => 0
    | some r =>
      let replay := decide (0x23C0 ≤ k / 256) && decide (k / 256 < 0x2400) && d.lc == .replay
      if r.access = .ro ∨ (r.access = .rwm ∧ !d.maintLike ∧ !replay) then 0x06010002
      else if d.lenCode r k b.length ≠ 0 then d.lenCode r k b.length
      else if rangeOk r k (writeVal k b) then 0 else 0x06090030

/-! ### Check 9: state -/

/-- May a write be executed in HALT-SAFE (R459)? -/
def haltPermits (t : Target) (v : Nat) : Bool :=
  match t with
  | .maint | .fwUpd => true
  | .lcRequest => v % 256 == 5
  | _ => false

/-- Is a target one of the replay and extract objects, which the service port alone writes (R365)? -/
def Target.replay (t : Target) : Bool :=
  match t with
  | .replayControl | .replayStop | .xbReset | .xbLast | .xbBuild => true
  | _ => false

/-- Is a target a master-only object (R192, R293)? -/
def Dev.masterOnly (d : Dev) (t : Target) : Bool :=
  match t with
  | .sgReq s => d.nat (Obj.SG_RING s) == 1
  | .fence | .task _ | .budget _ | .retain _ => true
  | .staged k => decide (0x4000 ≤ k / 256) && decide (k / 256 < 0x4200)
  | _ => false

/-- Does the stage state refuse CFG_STAGE_CONTROL (Table 11.8, R455, R457)? -/
def Dev.stageRefuses (d : Dev) (v : Nat) : Bool :=
  let st := d.stageSt
  d.nat Obj.FW_PROBATION != 0 || d.cfg.formatHold ||
    (if v = 1 then st != 0 else st != 2 && st != 4 && st != 5 && !(v == 3 && st == 0))

/-- Does the replay state refuse REPLAY_CONTROL (R361, Table 10.7)? -/
def Dev.replayRefuses (d : Dev) (v : Nat) : Bool :=
  let st := d.nat Obj.REPLAY_STATE
  if v = 1 then d.lc != .maintenance || d.op == .haltSafe || !d.admin.sessionOpen
  else d.op != .replay || (if v = 2 then st != 3 else st != 3 && st != 5 && st != 6)

/-- What the target's own state refuses. -/
def Dev.ownState (d : Dev) (lane : Bool) (t : Target) (v : Nat) (b : List Byte) : Bool :=
  match t with
  | .staged _ => (d.stageSt != 2 && d.stageSt != 4 && d.stageSt != 5) || d.cfg.formatHold
  | .stageControl => d.stageRefuses v
  | .activate => d.nat Obj.FW_PROBATION != 0 || (d.activateJudge b).1 == 0x08000022
  | .confirm => d.stageSt != 7 && d.stageSt != 0
  | .lcRequest => d.lcStateRefuses (v % 256)
  | .maint => if v = 1 then d.lc != .service else d.lc != .maintenance
  | .keyInstall => d.lc != .provision || d.admin.keyLock
  | .fwConfirm => d.confirmRefused
  | .fwUpd => !d.updPermitted || d.updRefuses v
  | .engine => lane || d.engineRefuses v
  | .lkControl => d.linkRefuses v
  | .replayControl => d.replayRefuses v
  | _ => false

/-- Check 9: is a write refused by the state of the device? -/
def Dev.stateRefuses (d : Dev) (lane : Bool) (t : Target) (v : Nat) (b : List Byte) : Bool :=
  (lane && (d.lc == .factory || d.lc == .retired || t.replay)) ||
    (d.op == .haltSafe && !haltPermits t v) || (d.op == .loader && t != .fwUpd) || (d.op == .kindling) ||
    (d.op == .replay && !t.replay) || (t.replay && d.lc != .maintenance && d.lc != .replay) ||
    (d.isMember && d.masterOnly t) || d.ownState lane t v b

/-! ### Check 10: rights (R170, R179, R245, R246, R250, R294) -/

/-- The service port writes as a client beside the 512 slots: of class MAINTENANCE, with every claim and right (R498,
log entry 14). -/
def portClient : Nat := 512

/-- The class of a writer. -/
def Dev.classOf (d : Dev) (c : Nat) : Nat := if c < 512 then d.nat (Obj.CL_CLASS c) else 3

/-- Does a writer claim channel n of position p? -/
def Dev.claims (d : Dev) (c p n : Nat) : Bool := decide (512 ≤ c) || bitOf (d.bytesOf (Obj.CL_CLAIM c)) (96 * p + n)

/-- Does a writer claim signal group s of position p? -/
def Dev.sgClaims (d : Dev) (c p s : Nat) : Bool := decide (512 ≤ c) || bitOf (d.bytesOf (Obj.CL_SG_CLAIM c)) (32 * p + s)

/-- Has a writer the right to stage? -/
def Dev.mayStage (d : Dev) (c : Nat) : Bool := decide (512 ≤ c) || d.nat (Obj.CL_STAGE_RIGHT c) == 1

/-- The owner of a matrix row. -/
def Dev.rowOwner (d : Dev) (r : Nat) : Nat := leNat (((d.bytesOf Obj.MX_ROW_OWNER).drop (2 * r)).take 2)

/-- Table 7.4: may a class bind a channel of a profile class? -/
def mayBind (cls pf : Nat) : Bool := cls == 0 || cls == 3 || pf == 0 || (cls == 1 && pf == 3)

/-- Table 7.4: may a client of a class drive what another client may own? -/
def mayDrive (cls c owner : Nat) : Bool := cls == 0 || cls == 3 || owner == c

/-- Is a channel of position p in a signal group? -/
def Dev.inGroup (d : Dev) (p n : Nat) : Bool :=
  if p = d.ownPos then (d.sgOf n).isSome else ((d.pos p).channels.getD n (0, 0, 0)).2.2 == 1

/-- The target's own rules of rights, for a write to position p. What a member's own tables decide, the master cannot
see; there the claim and the class decide. -/
def Dev.ownRights (d : Dev) (c p : Nat) (t : Target) (v : Nat) : Bool :=
  let cls := d.classOf c
  let here := p == d.ownPos
  let authorised := cls == 0 || cls == 3
  match t with
  | .dim n => d.claims c p n && !d.inGroup p n && !(here && (d.boundTo n).isSome)
  | .bind n => d.claims c p n && !d.inGroup p n && !(here && decide (v < 16) && d.engineInAspect v) &&
      (!here || mayBind cls (d.pnat n (Obj.PF_CLASS (d.prof n))))
  | .supClear n | .lifeReset n => authorised && d.claims c p n
  | .sgReq s => d.sgClaims c p s
  | .peControl e | .peJump e => !here || (!d.engineInAspect e && mayDrive cls c (d.nat (Obj.PE_OWNER e)))
  | .gwData k | .gwSwap k => !here || mayDrive cls c (d.nat (Obj.GW_OWNER k))
  | .mxRow r => !here || mayDrive cls c (d.rowOwner r)
  | .mxSwap => !here || (List.range 16).any fun r => mayDrive cls c (d.rowOwner r)
  | .capTrigger | .capFreeze | .capUnfreeze | .cicada => authorised
  | .staged _ | .stageControl | .activate | .confirm | .calNow => d.mayStage c
  | .budget _ => cls == 0
  | .retain k => k == c
  | .fence => decide (c < 512) && (decide (32 ≤ v / 2 ^ 24) || bit (d.nat (Obj.CL_FENCES c)) (v / 2 ^ 24))
  | .task k => d.nat (Obj.TK_CLIENT k) == c
  | .maint => decide (512 ≤ c)
  | _ => true

/-- Check 10 but for claim conflicts: is a write refused for want of a right? -/
def Dev.rightsRefuse (d : Dev) (c p : Nat) (t : Target) (v : Nat) : Bool :=
  (decide (c < 512) && (d.classOf c == 0xFF || (d.classOf c == 3 && !d.maintLike))) || !d.ownRights c p t v

/-! ### Holders and conflicts (R295, R296) -/

/-- The rank of a client; MAINTENANCE ranks in MAINTENANCE only. -/
def Dev.rank (d : Dev) (c : Nat) : Nat :=
  let cls := d.classOf c
  if cls = 3 ∧ !d.maintLike then 0 else rankOf cls

/-- The holder of channel n of position p, counting the writes that are granted and wait for their boundary. -/
def Dev.holderOf (d : Dev) (p n : Nat) : Nat :=
  if p ≠ d.ownPos then (lookD (0xFFFF, 0) (d.pos p).own n).1
  else match (d.grants.filter fun (w : Grant) => w.key == Obj.DIM_LEVEL n || w.key == Obj.PE_CH_BIND n).getLast? with
    | some w =>
      let free := if w.key = Obj.DIM_LEVEL n then w.val == .num 0 else w.val == .num 0xFF
      if free || decide (512 ≤ w.client) then 0xFFFF else w.client
    | none => d.nat (Obj.OWN_HOLDER n)

/-- Another holder of the channel that a level or binding write is for. -/
def Dev.rival (d : Dev) (c p : Nat) (t : Target) : Option (Nat × Nat) :=
  match t with
  | .dim n | .bind n =>
    let h := d.holderOf p n
    if h < 512 ∧ h ≠ c then some (h, 96 * p + n) else none
  | _ => none

/-- Is a write refused by a conflict: the rival's rank is equal or higher? -/
def Dev.conflictRefuses (d : Dev) (c p : Nat) (t : Target) : Bool :=
  match d.rival c p t with
  | some (h, _) => decide (d.rank c ≤ d.rank h)
  | none => false

/-- CLAIM_CONFLICT on the writing client, raised at a conflict whatever its outcome; while it stands, a further one
changes its detail and holds it (R296). The service port is no client and raises none. -/
def Dev.conflictNote (d : Dev) (c p : Nat) (t : Target) : Dev :=
  match d.rival c p t with
  | some (h, ch) =>
    if c < 512 then
      (d.setCl c { d.cl c with claimAt := d.now }).raiseAnew 0x0302 (clSource c) (h + 65536 * ch)
    else d
  | none => d

/-! ### Check 11: admission (R298, R307, R328) -/

/-- The block with the granted levels, bindings, budgets and retained bytes as if they had taken effect; it serves
judgements only. -/
def Dev.ahead (d : Dev) : Dev :=
  (d.grants.filter fun (w : Grant) => match Target.of w.key with
    | .dim _ | .bind _ | .budget _ | .retain _ => true
    | _ => false).foldl Dev.applyGrant { d with grants := [] }

/-- Would a level or binding raise its client's use above its budget (R298)? -/
def Dev.budgetRefuses (d : Dev) (c p : Nat) (t : Target) (v : Nat) : Bool :=
  if 512 ≤ c ∨ d.classOf c = 0 then false
  else match t with
    | .dim n => v != 0 && d.ahead.overBudget c (96 * p + n - 96 * d.ownPos) v
    | .bind n => decide (v < 16) && p == d.ownPos && d.ahead.overBudget c n (d.tapPeak v (d.nat (Obj.PE_CH_TAP n)))
    | _ => false

/-- Is an early bank permitted now (R327)? -/
def Dev.earlyOk (d : Dev) : Bool :=
  match d.ember.lastBank with
  | some t => decide (t + 30000000000 ≤ d.now)
  | none => true

/-- Would a write dirty a further page while 24 are the limit (R328)? -/
def Dev.pagesRefuse (d : Dev) (t : Target) (b : List Byte) : Bool :=
  match t with
  | .retain c =>
    let a := d.ahead
    let more := (a.pagesOf c b).filter fun x => !a.ember.dirty.contains x
    !more.isEmpty && !d.earlyOk && decide (24 < a.ember.dirty.length + more.length)
  | _ => false

/-! ### Check 12: what no other check covers -/

/-- The next fence number (R303). -/
def fenceNext (k : Nat) : Nat := if k = 0xFFFFFF then 1 else k + 1

/-- Check 12: does the owning rule reject the value? -/
def Dev.valueRefuses (d : Dev) (p : Nat) (t : Target) (v : Nat) (b : List Byte) : Bool :=
  let here := p == d.ownPos
  match t with
  | .voted => true
  | .sgReq s => here && !d.sgHas s v
  | .peJump e => here && d.nat (Obj.PE_STATE e) == 0
  | .fence =>
    let g := v / 2 ^ 24
    let k := v % 2 ^ 24
    decide (32 ≤ g) || !((k == (d.fg g).last && (d.fg g).lastTimedOut) || k == d.nat (Obj.FG_NEXT g))
  | .capFreeze =>
    (match d.jnl.caps.find? fun (x : Capture) => x.num == v with
     | some x => !x.frozen && d.overQuota x.segs
     | none => match d.capSoFar v with
       | some k => !d.jnl.freezeDue && d.overQuota k
       | none => true)
  | .capUnfreeze => !(d.jnl.caps.any fun (x : Capture) => x.num == v) && (d.capSoFar v).isNone
  | .activate => here && (d.activateJudge b).1 != 0
  | .confirm => here && v != d.nat Obj.CFG_ACTIVE_EPOCH
  | .lcRequest => d.lcRefuses (v / 2 ^ 32)
  | .keyInstall => !(List.range 4).any fun i => d.keySlot i == 0
  | .fwConfirm => v != d.nat Obj.FW_ACTIVE_VERSION
  | .lkControl => v == 1 && d.nat Obj.LK_PATH == 0
  | _ => false

/-! ### One judgement -/

/-- The number a value stands for; of bytes, their little-endian number. -/
def Val.number (v : Val) : Nat :=
  match v with
  | .num x => x.toNat
  | .bytes b => leNat b

/-- A write of a command: key and value. -/
abbrev KeyVal := Nat × Val

/-- Checks 9 and 10 on one write of a writer to a position, 0 where they pass. A member's own state is its own to
judge. -/
def Dev.codeA (d : Dev) (c p : Nat) (w : KeyVal) : Nat :=
  let t := Target.of w.1
  let v := w.2.number
  if t = .ignored then 0
  else if (p = d.ownPos ∧ d.stateRefuses (decide (c < 512)) t v w.2.raw) ∨ (p ≠ d.ownPos ∧ d.masterOnly t) then 0x08000022
  else if d.rightsRefuse c p t v ∨ d.conflictRefuses c p t then 0x08000021
  else 0

/-- Checks 11 and 12 on one write, but for the holding limits. -/
def Dev.codeB (d : Dev) (c p : Nat) (w : KeyVal) : Nat :=
  let t := Target.of w.1
  let v := w.2.number
  if t = .ignored then 0
  else if d.budgetRefuses c p t v ∨ d.pagesRefuse t w.2.raw then 0x05040005
  else if d.valueRefuses p t v w.2.raw then 0x08000000
  else 0

/-- The rights that a member's own tables decide when a command of the master reaches it: the level of a bound channel, a
binding to an engine that an aspect names, and such an engine's control are refused, and change nothing (R245 to R247). -/
def Dev.memberRefuses (d : Dev) (t : Target) (v : Nat) : Bool :=
  match t with
  | .dim n => (d.sgOf n).isSome || (d.boundTo n).isSome
  | .bind n => (d.sgOf n).isSome || (decide (v < 16) && d.engineInAspect v)
  | .peControl e | .peJump e => d.engineInAspect e
  | _ => false

/-- What the master keeps of a level or binding of a member's channel; the highest tap of a member's engine is not
known to it. Yields of both clients are computed anew. -/
def Dev.farHold (d : Dev) (c p : Nat) (w : KeyVal) : Dev :=
  let v := w.2.number
  let set := fun (n lc : Nat) (free : Bool) =>
    let was := (lookD (0xFFFF, 0) (d.pos p).own n).1
    let own := if free then tabDrop (d.pos p).own n else tabIns (d.pos p).own n (c, lc)
    let d := (d.setPos p { d.pos p with own := own }).reYield was
    if was = c then d else d.reYield c
  match Target.of w.1 with
  | .dim n => set n v (v == 0)
  | .bind n => set n (Config.openNat 297 [(p : Int), (n : Int), (v : Int)] % 65536) (v == 0xFF)
  | _ => d

/-- The block as a judgement of a command's later writes sees it after an earlier one: a command is admitted or refused
whole (R298). -/
def Dev.judgedAfter (d : Dev) (c p : Nat) (w : KeyVal) : Dev :=
  if p ≠ d.ownPos then d.farHold c p w
  else match Target.of w.1 with
    | .dim _ | .bind _ | .retain _ => { d with grants := d.grants ++ [⟨w.1, w.2, c, d.now, false⟩] }
    | _ => d

/-- Checks 11 and 12 on the writes of a command in their order, each beside those before it. -/
def Dev.codesB (d : Dev) (c p : Nat) (ws : List KeyVal) : List Nat :=
  match ws with
  | [] => []
  | w :: r => d.codeB c p w :: (d.judgedAfter c p w).codesB c p r

/-- The first code of a list that refuses, or 0. -/
def firstCode (l : List Nat) : Nat := (l.find? fun c => c != 0).getD 0

end Sys2Proof.Machine
end

