-- ==== Sys2Proof/Machine/Writes.lean ====
section
/-! DEFINITION. What an executed write does, the vote of lane commands, holding by fences and task images, writes of the
service port, and ring commands (R278 to R286, R303 to R312, R395, R396, R498). -/
namespace Sys2Proof.Machine

/-! ### What a write does -/

/-- A write granted at M12, which takes effect at the next boundary of its group (R18, R118, R119). -/
def Dev.grantWrite (d : Dev) (c : Nat) (w : KeyVal) : Dev :=
  let g := d.grantGroup w.1
  let t := d.grantInstant g
  let d := d.askDuty g 0
  { d with grants := d.grants ++ [⟨w.1, w.2, c, t, false⟩] }

/-- SG_REQUEST: a request for the next boundary after its grant, or of a ring signal group a commit at its grant; SG_PENDING
shows it from then on (R119, R181, R182, R190). -/
def Dev.requestAspect (d : Dev) (s a : Nat) : Dev :=
  let t := d.grantInstant (d.sgGroup s)
  let d := (d.askDuty (d.sgGroup s) 0).put (Obj.SG_REQUEST s) a
  if d.nat (Obj.SG_RING s) = 1 ∧ t = d.now then d.ringCommit s a
  else
    let d := d.setSgp s { d.sgp s with request := (d.sgp s).request ++ [(a, t)] }
    if t = d.now then d.put (Obj.SG_PENDING s) a else d

/-- A voted write of a pattern engine asks at M12 for its reference group (R119, R247). -/
def Dev.askEngine (d : Dev) (e : Nat) : Dev := d.askDuty (d.nat (Obj.PE_REF_GROUP e)) 0

/-- PE_CONTROL. -/
def Dev.peControl (d : Dev) (e v : Nat) : Dev := if v = 1 then (d.askEngine e).peStart e else (d.askEngine e).peStop e

/-- GW_SWAP and MX_SWAP: the swap waits for the next frame start. -/
def Dev.gwSwap (d : Dev) (k : Nat) : Dev := let d := d.grantAt 12 0; d.setPort k { d.port k with swapAt := some d.now }
def Dev.mxSwap (d : Dev) : Dev := let d := d.grantAt 12 0; { d with mx := { d.mx with swapAt := some d.now } }

/-- CFG_STAGE_CONTROL. -/
def Dev.stageControl (d : Dev) (v : Nat) : Dev :=
  if v = 1 then d.stageOpen else if v = 2 then d.stageComplete else d.stageDiscard

/-- CAP_FREEZE and CAP_UNFREEZE (R349). -/
def Dev.capFreeze (d : Dev) (num : Nat) (on : Bool) : Dev :=
  match d.jnl.caps.find? fun (x : Capture) => x.num == num with
  | some x => d.freezeSegs x on
  | none => if (d.capSoFar num).isSome then d.freezeRest on else d

/-- FW_UPD_CONTROL (Table 13.4). -/
def Dev.updControl (d : Dev) (v : Nat) : Dev :=
  if v = 1 then d.updOpen else if v = 2 then d.updVerify else if v = 3 then d.updActivate else d.updAbandon

/-- TT_ENGINE_CONTROL and LK_CONTROL (R474, R476). -/
def Dev.engineControl (d : Dev) (v : Nat) : Dev := if v = 1 then d.engineEnter else d.engineRun
def Dev.linkControl (d : Dev) (v : Nat) : Dev := if v = 1 then d.linkStart else d.linkStop

/-- REPLAY_CONTROL (R361, R364, Table 10.7). -/
def Dev.replayControl (d : Dev) (v : Nat) : Dev :=
  if v = 1 then d.replayEnter else if v = 2 then d.replayStart else d.replayDiscard

/-- CICADA_ENTER: a power-fail bank after which the device stays banked (R331, R418). -/
def Dev.cicadaEnter (d : Dev) : Dev := { d with ember := { d.ember with fromCicada := true } }.powerFail

/-- Every write of an RW or WO object is granted at M12 as requester 0 (R498, Table 1.4); those of the lamps, the effects and
other objects that wait for a boundary ask with their group. -/
def Dev.grantOther (d : Dev) (k : Nat) : Dev :=
  match Target.of k with
  | .dim _ | .bind _ | .supClear _ | .budget _ | .retain _ | .capArm | .calNow | .errCount | .gwData _ | .mxRow _ | .lifeReset _
  | .sgReq _ | .peControl _ | .peJump _ | .gwSwap _ | .mxSwap => d
  | _ => if pdoWritable k then d.grantAt 12 0 else d

/-- What a granted write of a lamp, effect or device object does. A fence write is not among these. -/
def Dev.writeEffect (d : Dev) (c : Nat) (w : KeyVal) : Dev :=
  let v := w.2.number
  match Target.of w.1 with
  | .dim _ | .bind _ | .supClear _ | .budget _ | .retain _ | .capArm | .calNow | .errCount | .gwData _ | .mxRow _ => d.grantWrite c w
  | .lifeReset n => ((d.askDuty (n / 4) 0).lifeReset n).lifeCommit n
  | .sgReq s => d.requestAspect s v
  | .peControl e => d.peControl e v
  | .peJump e => (d.askEngine e).peJumpReq e v
  | .gwSwap k => d.gwSwap k
  | .mxSwap => d.mxSwap
  | .capTrigger => d.capTrigger 0xFFFF
  | .capFreeze => d.capFreeze v true
  | .capUnfreeze => d.capFreeze v false
  | .stageControl => d.stageControl v
  | .activate => d.activate w.2.raw
  | .confirm => d.confirm v
  | .cicada => d.cicadaEnter
  | .lcRequest => d.lcGo (v % 256)
  | .maint => d.maintControl v
  | .keyInstall => d.installKey w.2.raw
  | .fwConfirm => d.fwConfirm
  | .fwUpd => d.updControl v
  | .engine => d.engineControl v
  | .lkControl => d.linkControl v
  | .lkPath | .lkIndex | .lkPattern | .lkDuration | .replayStop | .xbReset | .xbLast => d.putVal w.1 w.2
  | .replayControl => d.replayControl v
  | .xbBuild => d.buildStart
  | .staged k => d.stageWrite k w.2
  | .voted | .fence | .task _ | .ignored => d

/-- An executed write of the block's own. -/
def Dev.applyHere (d : Dev) (c : Nat) (w : KeyVal) : Dev := (d.grantOther w.1).writeEffect c w

/-! ### Writes for members (R395, R396, R402) -/

/-- The first fragment carries up to 484 value bytes, a later one up to 490 (log entry 18). -/
def fragments (b : List Byte) : List (List Byte) :=
  if b.length ≤ 484 then [b] else [b.take 484, (b.drop 484).take 490] ++ (if 974 < b.length then [b.drop 974] else [])

/-- The value of a write as a member gets it: the instant of an ACTIVATE is in ring time. -/
def Dev.farVal (d : Dev) (w : KeyVal) : List Byte :=
  let b := match objRow w.1 with
    | some r => encodeVal r.ty w.2
    | none => w.2.raw
  if w.1 = Obj.CFG_ACTIVATE then
    b.take 8 ++ leBytes 8 (d.fromTrain (leNat ((b.drop 8).take 8))).toNat ++ b.drop 16
  else b

/-- A write executed for a member goes out as COMMAND frames in voted order. -/
def Dev.applyFar (d : Dev) (c p : Nat) (w : KeyVal) : Dev :=
  let fs := fragments (d.farVal w)
  let d := d.farHold c p w
  ((List.range fs.length).zip fs).foldl (fun (d : Dev) (f : Nat × List Byte) =>
    d.masterSend 0x10 p (ringPayload 0x10 [(f.1 : Int), (fs.length : Int), (c : Int), ((d.nodeId + p : Nat) : Int), (w.1 : Int)] f.2)) d

/-- A write executed for a position. -/
def Dev.applyTo (d : Dev) (c p : Nat) (w : KeyVal) : Dev := if p = d.ownPos then d.applyHere c w else d.applyFar c p w

/-! ### Releases (R304, R307 to R309) -/

/-- A held command is applied; it is admitted only now. One that is refused is counted and journalled, in a record whose
type the spec does not name. -/
def Dev.releaseRun (d : Dev) (h : Held) : Dev :=
  let state := h.writes.map fun (w : KeyVal) =>
    if h.pos = d.ownPos ∧ d.stateRefuses true (Target.of w.1) w.2.number w.2.raw then 0x08000022 else 0
  let code := firstCode (state ++ d.codesB h.client h.pos h.writes)
  if code = 0 then h.writes.foldl (fun (d : Dev) w => d.applyTo h.client h.pos w) d
  else (d.count (Obj.CL_REFUSED h.client)).jrec (Config.openNat 307 [] % 256) ([(h.client : Int), (code : Int)] ++ h.writes.map fun (w : KeyVal) => (w.1 : Int))

/-- Commands leave the held ones, in voted order; a command whose client has a task class joins its output image where a
fence releases it. -/
def Dev.releaseAll (d : Dev) (out : Held → Bool) : Dev :=
  let go := d.lanes.held.filter out
  let class' := fun (h : Held) => d.nat (Obj.CL_TASK_CLASS h.client)
  let toImage := fun (h : Held) => out h && h.task.isNone && decide (class' h < 8)
  let kept := d.lanes.held.filterMap fun (h : Held) =>
    if toImage h then some { h with task := some (class' h) } else if out h then none else some h
  (go.filter fun h => !toImage h).foldl Dev.releaseRun { d with lanes := { d.lanes with held := kept } }

/-- complete of R306; FENCE_MARK goes ahead of what the fence releases (R395). -/
def Dev.fenceComplete (d : Dev) (g : Nat) (timeout : Bool) : Dev :=
  let k := d.nat (Obj.FG_NEXT g)
  let d := (d.fenceMembers g).foldl (fun (d : Dev) c =>
    d.setCl c { d.cl c with pendingFences := (d.cl c).pendingFences.filter (· != g) }) d
  let d := (d.markSend g k).setFg g { d.fg g with issued := [], last := k, lastTimedOut := timeout }
  let d := (d.put (Obj.FG_NEXT g) (fenceNext k)).count (Obj.FG_COMPLETED g)
  let d := if timeout then d.count (Obj.FG_TIMEOUTS g) else d.clearC 0x0303 (0x800 + g)
  d.releaseAll fun h => h.task.isNone && (d.cl h.client).pendingFences.isEmpty

/-- on_fence of R306. -/
def Dev.fenceIssue (d : Dev) (c v : Nat) : Dev :=
  let g := v / 2 ^ 24
  let k := v % 2 ^ 24
  let f := d.fg g
  if k = f.last ∧ f.lastTimedOut then d.setFg g { f with late := f.late + 1 }
  else
    let d := if f.issued = [] then d.put (Obj.FG_OPENED g) d.now else d
    let issued := if f.issued.contains c then f.issued else f.issued ++ [c]
    let d := d.setFg g { f with issued := issued }
    let d := d.setCl c { d.cl c with pendingFences := ((d.cl c).pendingFences.filter (· != g)) ++ [g] }
    if (d.fenceMembers g).all issued.contains then d.fenceComplete g false else d

/-- FENCE_TIMEOUT (R305). -/
def Dev.fenceLate (d : Dev) (g : Nat) : Dev :=
  let f := d.fg g
  if f.issued ≠ [] ∧ d.nat (Obj.FG_OPENED g) + ms (d.nat (Obj.FG_TIMEOUT_MS g)) ≤ d.now then
    let missing := ((d.fenceMembers g).filter fun c => !f.issued.contains c).map clSource
    (d.raiseAnew 0x0303 (0x800 + g) (d.nat (Obj.FG_NEXT g)) missing).fenceComplete g true
  else d

/-- What a task fence released names the instant of the fence: the writes and aspect requests that were not there before
count at a boundary on it (R118). -/
def Dev.named (before d : Dev) : Dev :=
  let d := { d with grants := before.grants ++ (d.grants.drop before.grants.length).map fun (w : Grant) =>
    { w with at' := d.now, named := true } }
  (List.range 32).foldl (fun (d : Dev) s =>
    let old := (before.sgp s).request
    let new := (d.sgp s).request.drop old.length
    if new = [] ∨ d.nat (Obj.SG_RING s) = 1 then d
    else d.setSgp s { d.sgp s with request := old ++ new.map fun (r : Nat × Nat) => (r.1, d.now - 1) }) d

/-- A task fence: the input image is latched, the output image granted, the image queued in its TPDO (R308 to R310). -/
def Dev.taskFence (d : Dev) (k cycle : Nat) : Dev :=
  let snap := match d.lanes.inSnap with
    | some s => s
    | none => (d.now, d.sections)
  let image := leBytes 8 snap.1 ++ leBytes 4 cycle ++ (maskSections (d.nat (Obj.TK_IN_MASK k)) snap.2).flatten
  let d := d.putBytes (Obj.TK_IN_IMAGE k) image
  let d := match look d.lanes.taskAt k with
    | some t =>
      let d := d.put (Obj.TK_PERIOD_US k) ((d.now - t) / 100 % 2 ^ 32)
      if cycle = (d.nat (Obj.TK_CYCLE k) + 1) % 2 ^ 32 then d else d.count (Obj.TK_MISSED k)
    | none => d
  let d := { d.put (Obj.TK_CYCLE k) cycle with lanes := { d.lanes with taskAt := tabIns d.lanes.taskAt k d.now } }
  let d := d.named (d.releaseAll fun h => h.task == some k)
  let p : Nat := d.nat (Obj.TK_TPDO k)
  if p < 16 then ({ d with lanes := { d.lanes with tkQueue := tabPut [] d.lanes.tkQueue p image } } : Dev).tpdoTimer p else d

/-! ### Execution (R285, R294, R304, R307) -/

/-- Does a write mark a fence or a task cycle? Such a command is never held. -/
def marks (w : KeyVal) : Bool :=
  match Target.of w.1 with
  | .fence | .task _ => true
  | _ => false

/-- One write of a command applied. -/
def Dev.applyOne (d : Dev) (c p : Nat) (w : KeyVal) : Dev :=
  match Target.of w.1 with
  | .fence => (d.grantAt 12 0).fenceIssue c w.2.number
  | .task k => (d.grantAt 12 0).taskFence k w.2.number
  | _ => d.applyTo c p w

/-- The task class that holds a command of a client, or none while a fence does (R309). -/
def Dev.holdTask (d : Dev) (c : Nat) : Option Nat :=
  if (d.cl c).pendingFences = [] ∧ d.nat (Obj.CL_TASK_CLASS c) < 8 then some (d.nat (Obj.CL_TASK_CLASS c)) else none

/-- Is a command held: after its client's pending fence, or for the output image of its task class? -/
def Dev.isHeld (d : Dev) (c : Nat) (ws : List KeyVal) : Bool :=
  decide (c < 512) && !ws.any marks && ((d.cl c).pendingFences != [] || (d.holdTask c).isSome)

/-- Are the holding limits of R307 reached? -/
def Dev.holdFull (d : Dev) (c : Nat) : Bool :=
  decide (1024 ≤ d.lanes.held.length) || decide (64 ≤ (d.lanes.held.filter fun (h : Held) => h.client == c).length)

/-- The outcome of a command: 0, or the abort code of the first check that fails. A command of several writes is applied
whole or not at all. -/
def Dev.commandCode (d : Dev) (c p : Nat) (ws : List KeyVal) : Nat :=
  let a := firstCode (ws.map (d.codeA c p))
  if a ≠ 0 then a
  else if d.isHeld c ws then
    (if d.holdFull c then 0x05040005
     else firstCode (ws.map fun (w : KeyVal) =>
       if d.valueRefuses p (Target.of w.1) w.2.number w.2.raw then 0x08000000 else 0))
  else firstCode (d.codesB c p ws)

/-- What a refused or accepted command raises beside its effect: claim conflicts where nothing but the holder stands in
its way, and DIGEST_MISMATCH of an ACTIVATE refused for its digest (R296, R402). -/
def Dev.commandNotes (d : Dev) (c p : Nat) (ws : List KeyVal) : Dev :=
  ws.foldl (fun (d : Dev) (w : KeyVal) =>
    let t := Target.of w.1
    let v := w.2.number
    let clear := !(p == d.ownPos && d.stateRefuses (decide (c < 512)) t v w.2.raw) && !d.rightsRefuse c p t v
    if !clear then d
    else if t = .activate ∧ p = d.ownPos ∧ (d.activateJudge w.2.raw).2 then d.activate w.2.raw
    else d.conflictNote c p t) d

/-- A command is executed: refused, held, or applied. -/
def Dev.runCommand (d : Dev) (c p : Nat) (ws : List KeyVal) : Dev :=
  let code := d.commandCode c p ws
  let noted := d.commandNotes c p ws
  if code ≠ 0 then noted
  else if d.isHeld c ws then
    { noted with lanes := { noted.lanes with held := noted.lanes.held ++ [⟨c, ws, d.holdTask c, p⟩] } }
  else ws.foldl (fun (d : Dev) w => d.applyOne c p w) noted

/-! ### The vote (R280 to R284) -/

/-- Is a sequence fresh (R280)? -/
def Client.fresh (x : Client) (s : Nat) : Bool :=
  match x.high with
  | none => true
  | some h =>
    let ahead := (s + 65536 - h) % 65536
    let behind := (h + 65536 - s) % 65536
    (decide (1 ≤ ahead) && decide (ahead ≤ 32767)) ||
      (decide (behind ≤ 63) && !x.done.any fun (e : Nat × Nat × Nat) => e.1 == s)

/-- A sequence becomes executed, with the CRC of its payload and its result. -/
def Client.mark (x : Client) (s crc result : Nat) : Client :=
  let h := match x.high with
    | none => s
    | some h => if 1 ≤ (s + 65536 - h) % 65536 ∧ (s + 65536 - h) % 65536 ≤ 32767 then s else h
  { x with high := some h
           done := (x.done.filter fun (e : Nat × Nat × Nat) => decide ((h + 65536 - e.1) % 65536 ≤ 63)) ++ [(s, crc, result)] }

/-- A refusal answered on its lane at once. -/
def Dev.abort (d : Dev) (l code : Nat) : Dev :=
  if d.laneOn l && d.lanes.nmt != 4 then (d.grantAt 7 2).emit (.usdoAbort l code) else d

/-- What an execution leaves beside its effect: counters, the record of the sequence, dissents and answers. -/
def Dev.finish (d : Dev) (w : VoteWin) (body : List Byte) (ls : List Nat) (code : Nat) : Dev :=
  let c := w.client
  let d := d.setCl c ((d.cl c).mark w.seq (crc32c body) code)
  let d := (d.count Obj.VOTES_EXECUTED).count (Obj.CL_EXECUTED c)
  let d := d.put (Obj.CL_SEQ_LAST c) ((d.cl c).high.getD 0)
  let d := if code = 0 then d else d.count (Obj.CL_REFUSED c)
  let d := d.winPut { w with body := some body, result := code }
  let other := w.arrivals.filter fun (a : Nat × List Byte) => a.2 != body
  let d := other.foldl (fun (d : Dev) (a : Nat × List Byte) => (d.dissent [a.1] c 1).answer a.1 c w.seq a.2 0x08000020) d
  ls.foldl (fun (d : Dev) l => (d.count (Obj.LN_AGREE l)).answer l c w.seq body code) d

/-- execute of R283 at M01. A command that resets the device or takes its supplies away is answered first. -/
def Dev.execute (d : Dev) (w : VoteWin) (body : List Byte) (p : Nat) (ws : List KeyVal) : Dev :=
  let d := (d.grantAt 1 0).endKindling 2
  let ls := d.agreeing w body
  let code := d.commandCode w.client p ws
  let done := d.runCommand w.client p ws
  if done.op = .kindling ∨ done.power.banked then (d.finish w body ls code).runCommand w.client p ws
  else done.finish w body ls code

/-- on_arrival of R283 for a command to a position. An excluded lane's arrival is counted in its frames only, and its
download answered with an abort (R286). -/
def Dev.arrive (d : Dev) (l c s : Nat) (body : List Byte) (p : Nat) (ws : List KeyVal) : Dev :=
  if d.laneOut l then d.answer l c s body 0x08000020
  else
    let x := d.cl c
    let win := d.winOf c s
    match x.done.find? fun (e : Nat × Nat × Nat) => e.1 == s with
    | some (_, crc, result) =>
      (match win with
       | some w =>
         if w.body = some body then ((d.winPut (w.arrive l body)).count (Obj.LN_AGREE l)).answer l c s body w.result
         else (d.dissent [l] c 1).answer l c s body 0x08000020
       | none =>
         if crc32c body = crc then (d.count (Obj.LN_LATE l)).answer l c s body result
         else (d.dissent [l] c 4).answer l c s body 0x08000020)
    | none =>
      if !x.fresh s then (d.count Obj.SEQ_STALE).answer l c s body 0x08000020
      else if d.aliveCount < 2 then d.answer l c s body 0x08000020
      else
        let w := (win.getD ⟨c, s, d.now, [], none, 0⟩).arrive l body
        let d := d.winPut w
        if 2 ≤ (d.agreeing w body).length then d.execute w body p ws else d

/-- A download whose object the lane may write only by vote: a VOTED_WRITE of a client and sequence to a node. -/
def Dev.votedWrite (d : Dev) (l node c s key : Nat) (b : List Byte) : Dev :=
  if d.laneOn l then
    let mine := node == d.nodeId || (d.proxied node).isSome
    let envelope := leBytes 2 c ++ leBytes 2 s ++ leBytes 2 (key / 256) ++ leBytes 1 (key % 256) ++ [0] ++ b
    let d := (d.laneFrame l (0x600 + node) mine envelope).winsOver
    let p := if node = d.nodeId then d.ownPos else (d.proxied node).getD 0
    if !mine || d.lanes.nmt == 4 || !d.stokerRuns then d
    else if d.usdoBusy l ∨ b.length < 1 ∨ 1024 < b.length then d.abort l 0x05040001
    else
      let d := d.grantAt 9 0
      let code := d.staticCode key b
      if code ≠ 0 then d.abort l code
      else d.arrive l c s (leBytes 1 node ++ envelope.drop 4) p [(key, writeVal key b)]
  else d

/-- An envelope of a completed segmented VOTED_WRITE (Table 8.3). -/
def Dev.envelope (d : Dev) (l node : Nat) (b : List Byte) : Dev :=
  let c := leNat (b.take 2)
  if b.length < 9 then d.abort l 0x05040001
  else if 511 < c then d.abort l 0x08000021
  else d.votedWrite l node c (leNat ((b.drop 2).take 2)) (256 * leNat ((b.drop 4).take 2) + leNat ((b.drop 6).take 1)) (b.drop 8)

/-- A USDO download to another object is refused (R278). -/
def Dev.otherDownload (d : Dev) (l node key : Nat) (b : List Byte) : Dev :=
  if d.laneOn l then
    let mine := node == d.nodeId || (d.proxied node).isSome
    let d := (d.laneFrame l (0x600 + node) mine (leBytes 4 key ++ b)).winsOver
    if !mine || !d.stokerRuns then d
    else if d.usdoBusy l then d.abort l 0x05040001
    else if key = Obj.VOTED_WRITE then d.envelope l node b
    else d.abort l 0x06010000
  else d

/-- A segment of a segmented download: the first opens the transfer, the last completes it (R500). -/
def Dev.segmentHeard (d : Dev) (l node key : Nat) (b : List Byte) (last : Bool) : Dev :=
  if d.laneOn l then
    let mine := node == d.nodeId || (d.proxied node).isSome
    let d := d.laneFrame l (0x600 + node) mine (leBytes 4 key ++ b)
    if !mine || d.lanes.nmt == 4 || !d.stokerRuns then d
    else
      let joined : Option (List Byte) := match (d.ln l).usdo with
        | some u => if u.node = node ∧ u.key = key then some (u.data ++ b) else none
        | none => if d.usdoBusy l then none else some b
      match joined with
      | none => d.abort l 0x05040001
      | some x =>
        if last then
          let d := (d.setLn l { d.ln l with usdo := none }).winsOver
          if key = Obj.VOTED_WRITE then d.envelope l node x else d.abort l 0x06010000
        else d.setLn l { d.ln l with usdo := some ⟨node, key, d.now, x⟩ }
  else d

/-- The objects a command RPDO writes, from its mapping and the bytes after its header (R278, Table 16.4). -/
def Dev.rpdoWrites (d : Dev) (num : Nat) (b : List Byte) : List (Nat × List Byte) :=
  ((List.range (d.nat (Obj.RPDO_MAP_COUNT num))).foldl (fun (a : List (Nat × List Byte) × List Byte) i =>
    let e := d.nat (Obj.RPDO_MAP num i)
    let n := cdiv (e % 256) 8
    (a.1 ++ [(e / 256, a.2.take n)], a.2.drop n)) (([] : List (Nat × List Byte)), b)).1

/-- A command RPDO: in NMT operational, of a valid COB-ID; refused without an answer (R273, R278, R499). -/
def Dev.rpdoHeard (d : Dev) (l num c s : Nat) (b : List Byte) : Dev :=
  if d.laneOn l then
    let id := d.nat (Obj.RPDO_COB_ID num)
    let ok := decide (id < 2 ^ 31) && d.lanes.nmt == 5
    let d := (d.laneFrame l (id % 2 ^ 29) ok (leBytes 2 c ++ leBytes 2 s ++ b)).winsOver
    let ws := d.rpdoWrites num b
    if !ok || (ws.any fun (w : Nat × List Byte) => d.staticCode w.1 w.2 != 0) then d
    else d.arrive l c s (leBytes 1 (128 + num) ++ b) d.ownPos (ws.map fun (w : Nat × List Byte) => (w.1, writeVal w.1 w.2))
  else d

/-! ### The service port (R498, R513, R514) -/

/-- The value that the service port writes, as the device takes it: on a member an ACTIVATE names train time, which its
mapping converts (R391, R402). -/
def Dev.portValue (d : Dev) (key : Nat) (b : List Byte) : List Byte :=
  if d.isMember ∧ key = Obj.CFG_ACTIVATE then b.take 8 ++ leBytes 8 (d.fromTrain (leNat ((b.drop 8).take 8))).toNat ++ b.drop 16 else b

/-- An ACTIVATE through the service port of a member that has no mapping yet (R55, check 2 of R402). -/
def Dev.portUnmapped (d : Dev) (key : Nat) (b : List Byte) : Bool :=
  d.isMember && key == Obj.CFG_ACTIVATE && !d.timeKnown && decide (d.nat Obj.CFG_ACTIVE_EPOCH < leNat (b.take 4))

/-- WRITE: the value with what stands before the offset; a refusal by the dictionary's checks is status 7 with its
code. -/
def Dev.svcStore (d : Dev) (peer req counter : Nat) (tag : List Byte) (key off : Nat) (data : List Byte) : Dev :=
  let bytes := leBytes 2 (key / 256) ++ leBytes 1 (key % 256) ++ [0] ++ leBytes 4 off ++ data
  let inService := (key == Obj.LC_MAINT_CONTROL && off == 0 && data == [1]) || (d.op == .loader && key == Obj.FW_UPD_CONTROL)
  d.svcWrite peer 2 req counter tag bytes inService fun (d : Dev) =>
    if data.length < 1 ∨ 1024 < data.length then (d, 2, [])
    else
      let d := d.grantAt 9 2
      let old := if cfgKey key then (storeVal d.staged key).raw else d.bytesOf key
      let b := padTo off (old.take off) ++ data
      let code := d.staticCode key b
      if code ≠ 0 then (d, 7, leBytes 4 code)
      else
        let w : KeyVal := (key, writeVal key (d.portValue key b))
        let code := d.commandCode portClient d.ownPos [w]
        if d.portUnmapped key b then (d, 7, leBytes 4 0x08000022)
        else (d.runCommand portClient d.ownPos [w], if code = 0 then 0 else 7, if code = 0 then [] else leBytes 4 code)

/-! ### Commands from the master (R395, R396) -/

/-- A COMMAND frame at a member: granted at M01 when all its fragments have arrived, and applied. -/
def Dev.commandHeard (d : Dev) (f : RingCommand) : Dev :=
  let d := if d.isMember then d.masterHeard false else d
  if d.onRing ∧ f.dst.val = d.ownPos then
    if !d.rxFresh 0x10 f.seq then d.rxGap 0x10 f.seq
    else
      let d := (d.frameRec 0 0x10 [(f.seq : Int), (f.client.val : Int), (f.node.val : Int), (f.key.val : Int)] f.data).rxTake 0x10 f.seq
      let part : Option (List Byte) := if f.first then some f.data else d.ring.frag.map (· ++ f.data)
      match part with
      | none => d
      | some b =>
        if !f.last then { d with ring := { d.ring with frag := some b } }
        else
          let d := { d with ring := { d.ring with frag := none } }
          let d := if d.ownPos ≤ f.node.val ∧ f.node.val ≠ 0 then d.put Obj.RING_MASTER_NODE (f.node.val - d.ownPos) else d
          let d := (d.grantAt 1 1).endKindling 2
          match f.nmt with
          | some cmd => d.nmtDo cmd.toNat
          | none =>
            let w : KeyVal := (f.key.val, writeVal f.key.val b)
            let t := Target.of w.1
            if d.staticCode f.key.val b ≠ 0 ∨ t = .ignored ∨ d.stateRefuses true t w.2.number w.2.raw ∨ d.memberRefuses t w.2.number then d
            else if d.valueRefuses d.ownPos t w.2.number w.2.raw then
              (if t = .activate ∧ (d.activateJudge w.2.raw).2 then d.activate w.2.raw else d)
            else d.applyHere f.client.val w
  else d

/-! ### Every write by where it comes from -/

/-- A write to one object, as a lane or the service port brings it. -/
def Dev.writeFrom (d : Dev) (o : Origin) (key : Nat) (b : List Byte) : Dev :=
  match o with
  | .lane l node c s => d.votedWrite (laneNo l) node.val c.val s.val key b
  | .svc peer req counter tag => d.svcStore peer req counter tag key 0 b

/-- A general write (R498). -/
def Dev.writeAny (d : Dev) (w : WriteReq) : Dev :=
  match w with
  | .voted l node c s key b => d.votedWrite (laneNo l) node.val c.val s.val key.val b
  | .download l node key b => d.otherDownload (laneNo l) node.val key.val b
  | .rpdo l num c s b => d.rpdoHeard (laneNo l) num.val c.val s.val b
  | .malformed l => if d.laneOn (laneNo l) then (d.laneFrame (laneNo l) (0x600 + d.nodeId) false []).abort (laneNo l) 0x05040001 else d
  | .segment l node key b last => d.segmentHeard (laneNo l) node.val key.val b last
  | .svc peer req counter tag key off b => d.svcStore peer req counter tag key.val off b

/-- Does a write come through the service port? -/
def originPort (o : Origin) : Bool :=
  match o with
  | .svc _ _ _ _ => true
  | .lane _ _ _ _ => false

/-- A write command: lanes are silent during a run of the replay, the port is not (R365). -/
def State.write (s : State) (o : Origin) (key : Nat) (b : List Byte) : Host.Outcome State Fault Refusal :=
  s.port fun d => if d.frozen && !originPort o then d else (d.writeFrom o key b).judged

end Sys2Proof.Machine
end

