-- ==== Sys2Proof/Machine/Commands.lean ====
section
/-! DEFINITION. The write commands: each brings its value to its object by a lane's vote or by the service port (R278,
R498). -/
namespace Sys2Proof.Machine

/-! ### Lamps -/

/-- DIM_LEVEL (R295). -/
def execDimLevel (o : Origin) (ch : Fin 96) (level : Fin 65536) (s : State) := s.write o (Obj.DIM_LEVEL ch.val) (leBytes 2 level.val)

/-- SG_REQUEST (R181). -/
def execSgRequest (o : Origin) (sg : Fin 32) (aspect : Fin 256) (s : State) := s.write o (Obj.SG_REQUEST sg.val) (leBytes 1 aspect.val)

/-- PE_CH_BIND (R245). -/
def execPeChBind (o : Origin) (ch : Fin 96) (engine : Fin 256) (s : State) := s.write o (Obj.PE_CH_BIND ch.val) (leBytes 1 engine.val)

/-- PE_START: PE_CONTROL := 1 (R247). -/
def execPeStart (o : Origin) (e : Fin 16) (s : State) := s.write o (Obj.PE_CONTROL e.val) [1]

/-- PE_STOP: PE_CONTROL := 2 (R247). -/
def execPeStop (o : Origin) (e : Fin 16) (s : State) := s.write o (Obj.PE_CONTROL e.val) [2]

/-- PE_JUMP_SEG (R248). -/
def execPeJumpSeg (o : Origin) (e : Fin 16) (seg : Fin 256) (s : State) := s.write o (Obj.PE_JUMP_SEG e.val) (leBytes 1 seg.val)

/-- GW_DATA (R256). -/
def execGwData (o : Origin) (port : Fin 8) (data : List Byte) (s : State) := s.write o (Obj.GW_DATA port.val) data

/-- GW_SWAP (R256). -/
def execGwSwap (o : Origin) (port : Fin 8) (s : State) := s.write o (Obj.GW_SWAP port.val) [1]

/-- MX_ROW (R262). -/
def execMxRow (o : Origin) (row : Fin 16) (data : List Byte) (s : State) := s.write o (Obj.MX_ROW row.val) data

/-- MX_SWAP (R262). -/
def execMxSwap (o : Origin) (s : State) := s.write o Obj.MX_SWAP [1]

/-- SUP_CLEAR (R170). -/
def execSupClear (o : Origin) (ch : Fin 96) (bits : Fin 65536) (s : State) := s.write o (Obj.SUP_CLEAR ch.val) (leBytes 2 bits.val)

/-- LIFE_RESET (R233). -/
def execLifeReset (o : Origin) (ch : Fin 96) (s : State) := s.write o (Obj.LIFE_RESET ch.val) [1]

/-! ### Clients, fences and capture -/

/-- CL_BUDGET_NOW_MW (R298). -/
def execClBudgetNowMw (o : Origin) (client : Fin 512) (mw : Fin 4294967296) (s : State) := s.write o (Obj.CL_BUDGET_NOW_MW client.val) (leBytes 4 mw.val)

/-- CL_RETAIN (R312). -/
def execClRetain (o : Origin) (client : Fin 512) (data : List Byte) (s : State) := s.write o (Obj.CL_RETAIN client.val) data

/-- FENCE_ISSUE: the fence number in bits 23..0, the group above (R306). -/
def execFenceIssue (o : Origin) (group : Fin 256) (k : Fin 16777216) (s : State) := s.write o Obj.FENCE_ISSUE (leBytes 4 (k.val + 2 ^ 24 * group.val))

/-- TK_FENCE (R308). -/
def execTkFence (o : Origin) (cls : Fin 8) (cycle : Fin 4294967296) (s : State) := s.write o (Obj.TK_FENCE cls.val) (leBytes 4 cycle.val)

/-- CAP_TRIGGER (R347). -/
def execCapTrigger (o : Origin) (s : State) := s.write o Obj.CAP_TRIGGER [1]

/-- CAP_FREEZE (R349). -/
def execCapFreeze (o : Origin) (num : Fin 4294967296) (s : State) := s.write o Obj.CAP_FREEZE (leBytes 4 num.val)

/-- CAP_UNFREEZE (R349). -/
def execCapUnfreeze (o : Origin) (num : Fin 4294967296) (s : State) := s.write o Obj.CAP_UNFREEZE (leBytes 4 num.val)

/-! ### Configuration and the device -/

/-- CFG_STAGE_OPEN: CFG_STAGE_CONTROL := 1 (R401). -/
def execCfgStageOpen (o : Origin) (s : State) := s.write o Obj.CFG_STAGE_CONTROL [1]

/-- CFG_STAGE_COMPLETE: CFG_STAGE_CONTROL := 2 (R401). -/
def execCfgStageComplete (o : Origin) (s : State) := s.write o Obj.CFG_STAGE_CONTROL [2]

/-- CFG_STAGE_DISCARD: CFG_STAGE_CONTROL := 3 (R401). -/
def execCfgStageDiscard (o : Origin) (s : State) := s.write o Obj.CFG_STAGE_CONTROL [3]

/-- STAGED_WRITE (R401). -/
def execStagedWrite (o : Origin) (key : Fin 16777216) (data : List Byte) (s : State) := s.write o key.val data

/-- CFG_ACTIVATE (R402). -/
def execCfgActivate (o : Origin) (data : List Byte) (s : State) := s.write o Obj.CFG_ACTIVATE data

/-- CFG_CONFIRM (R404). -/
def execCfgConfirm (o : Origin) (epoch : Fin 4294967296) (s : State) := s.write o Obj.CFG_CONFIRM (leBytes 4 epoch.val)

/-- CAL_NOW (R419). -/
def execCalNow (o : Origin) (seconds : Fin 4294967296) (s : State) := s.write o Obj.CAL_NOW (leBytes 4 seconds.val)

/-- CICADA_ENTER := 1 (R418). -/
def execCicadaEnter (o : Origin) (s : State) := s.write o Obj.CICADA_ENTER [1]

/-- ERR_FIELD_COUNT (R501). -/
def execErrFieldCount (o : Origin) (value : Fin 256) (s : State) := s.write o Obj.ERR_FIELD_COUNT (leBytes 1 value.val)

/-! ### Life cycle, keys and firmware -/

/-- LC_REQUEST_PROVISION (R442). -/
def execLcRequestProvision (o : Origin) (serialLow : Fin 4294967296) (s : State) := s.write o Obj.LC_REQUEST (lcBytes 1 serialLow.val)

/-- LC_REQUEST_SERVICE (R442). -/
def execLcRequestService (o : Origin) (serialLow : Fin 4294967296) (s : State) := s.write o Obj.LC_REQUEST (lcBytes 2 serialLow.val)

/-- LC_REQUEST_RETIRED (R442). -/
def execLcRequestRetired (o : Origin) (serialLow : Fin 4294967296) (s : State) := s.write o Obj.LC_REQUEST (lcBytes 5 serialLow.val)

/-- LC_MAINT_ENTER: LC_MAINT_CONTROL := 1 (R440). -/
def execLcMaintEnter (o : Origin) (s : State) := s.write o Obj.LC_MAINT_CONTROL [1]

/-- LC_MAINT_LEAVE: LC_MAINT_CONTROL := 0 (R440). -/
def execLcMaintLeave (o : Origin) (s : State) := s.write o Obj.LC_MAINT_CONTROL [0]

/-- KEY_INSTALL (R446). -/
def execKeyInstall (o : Origin) (data : List Byte) (s : State) := s.write o Obj.KEY_INSTALL data

/-- FW_UPD_OPEN: FW_UPD_CONTROL := 1 (R451). -/
def execFwUpdOpen (o : Origin) (s : State) := s.write o Obj.FW_UPD_CONTROL [1]

/-- FW_UPD_VERIFY: FW_UPD_CONTROL := 2 (R451). -/
def execFwUpdVerify (o : Origin) (s : State) := s.write o Obj.FW_UPD_CONTROL [2]

/-- FW_UPD_ACTIVATE: FW_UPD_CONTROL := 3 (R453). -/
def execFwUpdActivate (o : Origin) (s : State) := s.write o Obj.FW_UPD_CONTROL [3]

/-- FW_UPD_ABANDON: FW_UPD_CONTROL := 4 (R451). -/
def execFwUpdAbandon (o : Origin) (s : State) := s.write o Obj.FW_UPD_CONTROL [4]

/-- FW_CONFIRM (R456). -/
def execFwConfirm (o : Origin) (version : Fin 4294967296) (s : State) := s.write o Obj.FW_CONFIRM (leBytes 4 version.val)

/-! ### Replay and test -/

/-- REPLAY_ENTER: REPLAY_CONTROL := 1 (R361). -/
def execReplayEnter (o : Origin) (s : State) := s.write o Obj.REPLAY_CONTROL [1]

/-- REPLAY_START: REPLAY_CONTROL := 2 (R364). -/
def execReplayStart (o : Origin) (s : State) := s.write o Obj.REPLAY_CONTROL [2]

/-- REPLAY_DISCARD: REPLAY_CONTROL := 3 (R365). -/
def execReplayDiscard (o : Origin) (s : State) := s.write o Obj.REPLAY_CONTROL [3]

/-- XB_BUILD := 1 (R358). -/
def execXbBuild (o : Origin) (s : State) := s.write o Obj.XB_BUILD [1]

/-- TT_ENGINE_ENTER: TT_ENGINE_CONTROL := 1 (R474). -/
def execTtEngineEnter (o : Origin) (s : State) := s.write o Obj.TT_ENGINE_CONTROL [1]

/-- TT_ENGINE_RUN: TT_ENGINE_CONTROL := 2 (R474). -/
def execTtEngineRun (o : Origin) (s : State) := s.write o Obj.TT_ENGINE_CONTROL [2]

/-- LK_START: LK_CONTROL := 1 (R476). -/
def execLkStart (o : Origin) (s : State) := s.write o Obj.LK_CONTROL [1]

/-- LK_STOP: LK_CONTROL := 2 (R476). -/
def execLkStop (o : Origin) (s : State) := s.write o Obj.LK_CONTROL [2]

/-! ### What is no write of one object -/

/-- FENCE_TIMEOUT (R305). -/
def execFenceTimeout (f : Fin 32) (s : State) := s.talk fun d => (d.fenceLate f.val).judged

/-- WRITE_REGISTER: any other write (R498); lanes are silent during a run of the replay. -/
def execWriteRegister (w : WriteReq) (s : State) :=
  s.port fun d => match w with
    | .svc _ _ _ _ _ _ _ => (d.writeAny w).judged
    | _ => if d.frozen then d else (d.writeAny w).judged

/-- RING_COMMAND_RX (R395, R396). -/
def execRingCommandRx (f : RingCommand) (s : State) := s.talk fun d =>
  d.received d.rxPort (some f.dst.val) (commandFrame f) false fun d => (d.commandHeard f).judged

end Sys2Proof.Machine
end

