-- ==== Sys2Proof/Machine/LampCommands.lean ====
section
/-! DEFINITION. The commands of lamps: frames, BUCK cycles, shorts, evidence, proving, optics, life (chapters 02 to
06). -/
namespace Sys2Proof.Machine

/-- PULSE_ON_EDGE (R111). -/
def execPulseOnEdge (ch : Fin 96) (s : State) := s.live fun d => d.onEdge ch.val

/-- PULSE_OFF_EDGE (R70). -/
def execPulseOffEdge (ch : Fin 96) (s : State) := s.live fun d => d.offEdge ch.val

/-- INRUSH_WINDOW_END (R135). -/
def execInrushWindowEnd (ch : Fin 96) (s : State) := s.live fun d => d.endInrush ch.val

/-- BUCK_PEAK_CROSSING (R67). -/
def execBuckPeakCrossing (x : Crossing) (s : State) := s.live fun d => d.peakCrossing x.ch.val x.sub.val

/-- BUCK_OFF_TIME_EXPIRY (R67): `sample` is the valley sample in uA. -/
def execBuckOffTimeExpiry (ch : Fin 96) (sample : Nat) (s : State) := s.live fun d => d.offTimeOver ch.val sample

/-- BUCK_PEAK_TIMEOUT (R69). -/
def execBuckPeakTimeout (ch : Fin 96) (s : State) := s.live fun d => d.peakTimeout ch.val

/-- SHORT_HI_CROSSING (R75). -/
def execShortHiCrossing (x : Crossing) (s : State) := s.live fun d => d.shortHi x.ch.val x.sub.val

/-- SOFT_OFF_COMPLETE (R75). -/
def execSoftOffComplete (ch : Fin 96) (s : State) := s.live fun d => d.softOffDone ch.val

/-- SOFT_OFF_TIMEOUT (R81). -/
def execSoftOffTimeout (ch : Fin 96) (s : State) := s.live fun d => d.softOffLate ch.val

/-- LATCH_RETRY_TIMER (R77). -/
def execLatchRetryTimer (ch : Fin 96) (s : State) := s.live fun d => d.retryTimer ch.val

/-- RETRY_PERIOD_CLEAN (R77). -/
def execRetryPeriodClean (ch : Fin 96) (s : State) := s.live fun d => d.retryClean ch.val

/-- EVIDENCE_CLOSE (R130). -/
def execEvidenceClose (ch : Fin 96) (ev : PulseEv) (s : State) := s.live fun d => d.evidence ch.val ev

/-- DC_E_INTERVAL_END (R131). -/
def execDcEIntervalEnd (ch : Fin 96) (ev : PulseEv) (s : State) := s.live fun d => d.eInterval ch.val ev

/-- DARK_OPEN_LO_CROSSING (R147). -/
def execDarkOpenLoCrossing (x : Crossing) (s : State) := s.live fun d => d.openLoUp x.ch.val x.sub.val

/-- DARK_OPEN_LO_FALL (R150). -/
def execDarkOpenLoFall (ch : Fin 96) (s : State) := s.live fun d => d.openLoDown ch.val

/-- DARK_DRAIN_SAMPLE (R147): the voltage at the drain divider in uV and the rail monitor's
present reading in mV. -/
def execDarkDrainSample (ch : Fin 96) (uv rail : Nat) (s : State) := s.live fun d => d.drainSample ch.val uv rail

/-- LIT_WHEN_DARK_DEBOUNCE (R150). -/
def execLitWhenDarkDebounce (ch : Fin 96) (s : State) := s.live fun d => d.litDebounce ch.val

/-- ISOLATION_VERIFY (R96): the voltages at the four drain dividers of the group in uV. -/
def execIsolationVerify (g : Fin 24) (drains : List Nat) (s : State) := s.live fun d => d.isoCheck g.val drains

/-- PROBE_DUE (R155). -/
def execProbeDue (ch : Fin 96) (s : State) := s.live fun d => d.probeDue ch.val

/-- PROBE_END (R156). -/
def execProbeEnd (ch : Fin 96) (crossed : Bool) (s : State) := s.live fun d => d.probeEnd ch.val crossed

/-- WARMING_PULSE_JUDGE (R157): `mean` is the mean shunt current over the period in uA. -/
def execWarmingPulseJudge (ch : Fin 96) (crossed : Bool) (mean : Nat) (s : State) :=
  s.live fun d => d.warmJudge ch.val crossed mean

/-- OPTICAL_WINDOW_CLOSE (R163). -/
def execOpticalWindowClose (ch : Fin 96) (ev : OpticalEv) (s : State) := s.live fun d => d.optWindow ch.val ev

/-- The once-a-second journal keys of a supervised channel and of the analog readings (Table 9.7). -/
def Dev.secondKeys (d : Dev) : Dev :=
  let d := ((List.range 96).filter fun n => decide (d.mode n ≠ 0)).foldl (fun d n =>
    d.jrec 0x08 [(n : Int), d.num (Obj.LIFE_LIT_MS n), d.num (Obj.DRV_I_MEAN n), d.num (Obj.LIFE_T_LAMP n),
      d.num (Obj.RAIL_LOW_MV (d.nat (Obj.CH_RAIL n))), d.num (Obj.SUP_LAST_REASON n)]) d
  d.jrec 0x09 (((List.range 8).map fun r => d.num (Obj.RAIL_MV r)) ++
    [d.num Obj.VHOLD_MV, d.num Obj.BAT_V_MV, d.num Obj.BAT_I_UA] ++ (List.range 24).map fun g => d.num (Obj.GRP_NTC_TEMP g))

/-- LIFE_UPDATE_SECOND (R214): once in each second of device time. -/
def execLifeUpdateSecond (s : State) := s.live fun d =>
  if d.power.lifeSec < d.now / 100000000 ∧ d.op = .operating then
    ((List.range 96).foldl Dev.lifeSecond { d with power := { d.power with lifeSec := d.now / 100000000 } }).secondKeys
  else d

/-- DERATING_UPDATE (R223): once in each 100 ms. -/
def execDeratingUpdate (s : State) := s.live fun d =>
  if d.power.derateAt < d.now / 10000000 ∧ d.op = .operating then
    (List.range 96).foldl (fun d n => (d.derate n).lifeSubmit n) { d with power := { d.power with derateAt := d.now / 10000000 } }
  else d

/-- RECALIBRATION_DAY (R221): at the end of each 24 h of powered time. -/
def execRecalibrationDay (s : State) := s.live fun d =>
  if d.power.calDay < d.nat Obj.POWERED_TIME_S / 86400 ∧ d.op = .operating then
    (List.range 96).foldl Dev.calDay { d with power := { d.power with calDay := d.nat Obj.POWERED_TIME_S / 86400 } }
  else d

/-- NTC_CONVERSION (R98): the thermistor resistance in ohm. -/
def execNtcConversion (g : Fin 24) (ohm : Nat) (s : State) := s.live fun d => d.ntcConversion g.val ohm

/-- KGND_MEASUREMENT (R97), every 10 ms. -/
def execKgndMeasurement (g : Fin 24) (mv : Int) (s : State) := s.live fun d =>
  if lookD 0 d.power.kgndAt g.val < d.now / 1000000 then
    ({ d with power := { d.power with kgndAt := tabPut 0 d.power.kgndAt g.val (d.now / 1000000) } }).putInt
      (Obj.GRP_KGND_MV g.val) (clampInt (-32768) 32767 mv)
  else d

/-- GW_FRAME_START (R253). -/
def execGwFrameStart (f : GwStart) (s : State) := s.live fun d =>
  if d.gwDue f.port.val then ((if f.complete then d.frameKept 32 else d.underrun 32).gwFrame f.port.val f.complete).judged else d

/-- GW_RETURN_JUDGE (R254). -/
def execGwReturnJudge (port : Fin 8) (ret : GwReturn) (s : State) := s.live fun d => d.gwJudge port.val ret

/-- MX_FRAME_START (R261). -/
def execMxFrameStart (s : State) := s.live fun d =>
  let ok := d.mx.ready
  if d.mxStarts then ((if ok then d.frameKept 33 else d.underrun 33).mxFrame ok).judged else d

/-- MX_SLOT_START (R260). -/
def execMxSlotStart (x : MxSlot) (s : State) := s.live fun d => d.mxSlot x

/-- MSYNC_EDGE (R261). -/
def execMsyncEdge (rising : Bool) (s : State) := s.live fun d => d.msyncEdge rising

/-- MSYNC_LOSS (R261). -/
def execMsyncLoss (s : State) := s.live fun d => d.msyncLoss

end Sys2Proof.Machine
end

