-- ==== Sys2Proof/Machine/Rerun.lean ====
section
/-! DEFINITION. A run of the replay: the recorded inputs one after the other, the timers between them, the comparison of
what the run produces with what was recorded, and how a run ends (R354 to R357, R366 to R369). -/
namespace Sys2Proof.Machine

/-! ### Timers of a run (R357) -/

/-- A meaning applied to the block alone. -/
def Dev.act (d : Dev) (f : State → Host.Outcome State Fault Refusal) : Dev :=
  match f { dev := d } with
  | .next s => s.dev
  | .fault _ => d
  | .refused _ => d

/-- The lane timers of one tick. -/
def Dev.laneTimers (d : Dev) : Dev :=
  [0, 1, 2].foldl (fun (d : Dev) l =>
    (((((d.laneSilent l).laneTimeout l).readmit l).segTimeout l).beatPeriod l).emcyTurn l) d.winsOver

/-- The timers of fences, clients, conditions and reports of one tick. -/
def Dev.reportTimers (d : Dev) : Dev :=
  let d := (List.range 32).foldl Dev.fenceLate d
  let d := (List.range 512).foldl Dev.conflictOver d
  let d := (d.lanes.voteDisAt.map Prod.fst).foldl Dev.disagreeOver d
  let d := (d.rep.src.map Prod.fst).foldl Dev.holdOffOver d
  let d := ((d.rep.win.mergeSort fun (a b : Nat × CoalWin) => decide (a.2.firstAt ≤ b.2.firstAt)).map Prod.fst).foldl Dev.coalesceOver d
  (List.range 16).foldl Dev.tpdoTimer d

/-- The timers of configuration, signal groups, field inputs and capture of one tick. -/
def Dev.deviceTimers (d : Dev) : Dev :=
  let d := ((((d.act execKindleTimeout).act execStageOpenDone).act execStagingChecksDone).act execActivationInstant)
  let d := (List.range 32).foldl Dev.safeDelay d
  let d := (List.range 32).foldl (fun (d : Dev) k => (d.finDebounce k).finKnown k) d
  ((d.act execPreTriggerWindowFilled).act execCapturePostEnd).act execCommitRepeat

/-- The frame boundaries of one tick. -/
def Dev.boundaries (d : Dev) : Dev :=
  (List.range 24).foldl (fun (d : Dev) g => ((d.frameBoundary g true []).keepImage g).judged) d

/-! ### Pulses from the deviation stream (R340, R356) -/

/-- The recorded change of a channel's outcome at this tick, if one lies ahead: its code and reason. -/
def Dev.changeNow (d : Dev) (n : Nat) : Option (Nat × Nat) :=
  ((d.replay.inputs.drop d.replay.pos).find? fun (x : Nat × List Byte × JRec) =>
    x.2.2.ty == 7 && x.2.2.at' == d.now && x.2.2.fields.headD 0 == (n : Int)).map fun x =>
      ((x.2.2.fields.getD 2 0).toNat, (x.2.2.fields.getD 3 0).toNat)

/-- Does a span from an on-edge to this tick lie within the full-rate part of a recorded capture (R348, R356)? -/
def Dev.inFull (d : Dev) (n onAt : Nat) : Bool :=
  bitOf (d.bytesOf Obj.CAP_CH_MASK) n && d.replay.inputs.any fun (x : Nat × List Byte × JRec) =>
    x.2.2.ty == 0x0D && decide (0 ≤ x.2.2.fields.getD 1 (-1)) &&
      decide (x.2.2.at' ≤ onAt + 100000 * d.nat Obj.CAP_PRE_MS) &&
      decide (d.now ≤ x.2.2.at' + min (100000 * d.nat Obj.CAP_POST_MS) (100 * d.fullUs))

/-- The classification that a journal number stands for; the onset of a deviation lies in its evidence vector, whose
layout is open (log entry 7). -/
def outcomeOf (n t code reason : Nat) : Outcome :=
  if code = 1 then .good
  else if code = 2 then .qualified
  else if code = 3 then .deviating reason (Config.openNat 354 [(n : Int), (t : Int)] % 2 ^ 64)
  else .neutral

/-- The verdict logic takes an outcome of a pulse under its limits; of a channel commanded dark since, it is recorded only
(R141, R142, R144). -/
def Dev.takePulse (d : Dev) (n : Nat) (p : PulseRec) (code reason : Nat) : Dev :=
  let d := d.pulseModel n code reason []
  let o := outcomeOf n d.now code reason
  if p.dark then d.recordReason n o else (d.onClassified n o p.limits).gateLowJudge n { p with lowSeen := code == 7 }

/-- Dark evidence of the stream (R147): a drain sample leaves the current as it stands; a change of the current without one
ends or begins it. -/
def Dev.takeDark (d : Dev) (n code : Nat) (sample : Bool) : Dev :=
  let d := d.pulseModel n code 0 []
  let c := d.ch n
  let c := if sample then { c with drainAt := if code = 5 then some (c.drainAt.getD d.now) else none, drainLast := d.now } else c
  if code = 6 then
    d.setCh n { c with curHigh := true, curAt := if c.curHigh then c.curAt else 32 * d.now, curFrom := some (c.curFrom.getD (32 * d.now)) }
  else if sample && code == 5 then d.setCh n c
  else d.setCh n { c with curHigh := false, curFrom := none }

/-- The end of a run: reason and state; what the run shows stays to be read (Table 10.7). -/
def Dev.runEnd (d : Dev) (reason : Nat) : Dev := (d.put Obj.REPLAY_STATE 5).put Obj.REPLAY_END_REASON reason

/-- The first divergence: reported, and the run ends; one stamped on the stop time or later is not reported (R368,
R369). -/
def Dev.diverge (d : Dev) (kind at' seg : Nat) (expected observed : List Byte) (mutex : Nat := 0xFF) : Dev :=
  if d.nat Obj.REPLAY_STATE ≠ 4 then d
  else if d.nat Obj.REPLAY_STOP_TIME ≤ at' then d.runEnd 2
  else
    let d := ((d.put Obj.DIV_KIND kind).put Obj.DIV_TIME at').put Obj.DIV_EVENT_INDEX (d.nat Obj.REPLAY_EVENT_INDEX)
    let d := ((d.put Obj.DIV_SEGMENT seg).put Obj.DIV_MUTEX mutex).putBytes Obj.DIV_EXPECTED (expected.take 256)
    (d.putBytes Obj.DIV_OBSERVED (observed.take 256)).runEnd 5

/-- The input the run has come to. -/
def Dev.nextInput (d : Dev) : Option (Nat × List Byte × JRec) := (d.replay.inputs.drop d.replay.pos).head?

/-- The bytes of a record of the run, its interval counted from the recorded record before. -/
def Dev.madeBytes (d : Dev) (r : JRec) : List Byte :=
  let p := Config.recordPayload r.ty r.fields r.data
  let before := match (d.replay.inputs.take d.replay.pos).getLast? with
    | some x => x.2.2.at'
    | none => r.at'
  leBytes 1 r.ty ++ leBytes 1 p.length ++ leBytes 2 (r.at' - before) ++ p

/-- The recorded record of a channel's pulses that comes next. -/
def Dev.nextPulse (d : Dev) (n : Nat) : Option (Nat × List Byte × JRec) :=
  (d.replay.inputs.drop d.replay.pos).find? fun (x : Nat × List Byte × JRec) =>
    (x.2.2.ty == 6 || x.2.2.ty == 7) && x.2.2.fields.headD 0 == (n : Int)

/-- The evidence of a pulse closes in the run. Within full rate its samples are classified again, with an outcome that
their open layout leaves free, and compared; any other pulse takes the recorded outcome, which without a change is the
channel's model. -/
def Dev.closePulse (d : Dev) (n : Nat) (p : PulseRec) (code reason : Nat) : Dev :=
  let onAt := edgeTick p.onEdge
  if d.inFull n onAt then
    let d := d.count Obj.REPLAY_SAMPLE_PULSES
    let free := Config.openNat 356 [(n : Int), (onAt : Int)]
    let mine := (free % 4, if free % 4 = 3 then free / 4 % 6 + 1 else 0)
    let d := d.takePulse n p code reason
    if mine = (code % 4, if code = 3 then reason else 0) then d
    else
      let x := (d.nextPulse n).getD (0, [], ⟨7, [], [], d.now⟩)
      d.diverge 3 d.now x.1 x.2.1 (d.madeBytes ⟨7, [(n : Int), (d.nat (Obj.SUP_LAST_EVAL n) : Int), (mine.1 : Int), (mine.2 : Int)], [], d.now⟩)
  else (d.count Obj.REPLAY_STREAM_PULSES).takePulse n p code reason

/-- The pulse of a channel whose evidence has closed by this tick, an ended E-interval before others (R130, R131). -/
def Dev.pulseDue (d : Dev) (n : Nat) : Option PulseRec :=
  if d.running then (d.ch n).due.find? fun (p : PulseRec) => d.closed n p else none

/-- The pulse that is due on a channel closes with an outcome. -/
def Dev.closeDue (d : Dev) (n code reason : Nat) : Dev :=
  match d.pulseDue n with
  | some p => (d.setCh n ((d.ch n).taken p)).closePulse n p code reason
  | none =>
    if d.eOver n then
      let p := (d.ch n).pulse
      let d := d.closePulse n p code reason
      d.setCh n { d.ch n with pulse := d.eOpen n p.offEdge false }
    else d

/-- Dark evidence without a recorded change goes on as the model has it: a drain that stands grounded is sampled again. -/
def Dev.darkOn (d : Dev) (n : Nat) : Dev :=
  if (d.ch n).model = 5 then d.setCh n { d.ch n with drainLast := d.now } else d

/-- The edges and timers of a channel at one tick; a pulse with a recorded change at this tick waits for it. -/
def Dev.channelTimers (d : Dev) (n : Nat) : Dev :=
  let d := (((d.onEdge n).offEdge n).endInrush n).darkOn n
  let d := if (d.changeNow n).isNone then d.closeDue n (d.ch n).model (d.ch n).modelReason else d
  (((d.litDebounce n).softOffLate n).retryTimer n).retryClean n

/-- All that falls due at one tick of a run. -/
def Dev.timers (d : Dev) : Dev :=
  let d := (d.laneTimers.reportTimers.deviceTimers).boundaries
  ((List.range 96).foldl Dev.channelTimers d).judged

/-- A number of ticks of a run. -/
def Dev.advance (d : Dev) (n : Nat) : Dev :=
  match n with
  | 0 => d
  | k + 1 => let d := d.timers; { d with now := d.now + 1 }.advance k

/-- A number of ticks of the run are over. -/
def Dev.runOn (d : Dev) (n : Nat) : Dev := d.outRun (d.inRun.advance n)

/-- A change made within the run. -/
def Dev.within (d : Dev) (f : Dev → Dev) : Dev := d.outRun (f d.inRun)

/-! ### What is compared (R355, R367) -/

/-- The mutex points that are replayed. -/
def replayed (p : Nat) : Bool := [0, 1, 6, 7, 8, 9, 10, 12].contains p

/-- Requesters that are not re-run: the service port and the ring's answers at M09, life compensation and battery
control at M12, and at M10 the optical windows, whose outcomes are taken from the record. -/
def notRerun (p w : Nat) : Bool := (p == 9 && (w == 2 || w == 3)) || (p == 12 && (w == 2 || w == 3)) || (p == 10 && w == 1)

/-- Conditions taken from the record (Table 10.2): of classes 04, 06 and 07, of the ring, of optics and life, of
continuity and lamp type, of glowworm strings and the matrix, and DARK_FAULT by optical authority. -/
def takenCode (code source detail : Nat) : Bool :=
  let cls := code / 256
  cls == 4 || cls == 6 || cls == 7 || code == 0x0501 || code == 0x0502 || code == 0x0107 || code == 0x0108 || code == 0x0109 ||
    (decide (source < 96) && (code == 0x0104 || code == 0x010A)) || (decide (0x100 ≤ source) && decide (source < 0x400)) ||
    (code == 0x0101 && decide (7 ≤ detail))

/-- A condition of the record is raised or cleared; of TEMPO_LOW follows the shedding. -/
def Dev.takeCondition (d : Dev) (code source detail : Nat) (raised : Bool) : Dev :=
  let d := if code = 0x0604 then d.put Obj.SHED_STATE (if raised then shedBits (shedStage detail) else 0) else d
  if raised then d.raiseC code source detail else d.clearC code source

/-- Does the next pulse record of a channel that deviates carry reason 6? -/
def Dev.shortAhead (d : Dev) (n : Nat) : Bool :=
  match d.nextPulse n with
  | some x => x.2.2.ty == 7 && x.2.2.fields.getD 3 0 == 6
  | none => false

/-- The analog events that only a condition's own record shows: a lane's bus-off, a wire-break, a SHORT_HI crossing. -/
def Dev.shownBy (d : Dev) (code source detail : Nat) (raised : Bool) : Dev :=
  if code = 0x0203 ∧ detail = 3 ∧ raised ∧ 0x500 ≤ source ∧ source < 0x503 then d.busOff (source - 0x500)
  else if code = 0x0104 ∧ 0x400 ≤ source ∧ source < 0x420 then
    (if raised then d.finBreak (source - 0x400) else d.finMend (source - 0x400))
  else if (code = 0x0103 ∨ code = 0x0106) ∧ raised ∧ source < 96 ∧ d.replay.made = [] ∧ d.shortAhead source then d.shortHi source 0
  else d

/-- The records of the run that are compared: conditions that are not taken from the record, configuration epochs and
triggers. -/
def JRec.compared (r : JRec) : Bool :=
  (r.ty == 0x0A && !takenCode (r.fields.getD 0 0).toNat (r.fields.getD 1 0).toNat (r.fields.getD 2 0).toNat) ||
    r.ty == 0x0B || r.ty == 0x0D

/-- Of what the run has produced only the records that are compared are kept. -/
def Dev.sift (d : Dev) : Dev := { d with replay := { d.replay with made := d.replay.made.filter JRec.compared } }

/-- A recorded CONDITION, CONFIG_EPOCH or TRIGGER record against the run's own, in event order. -/
def Dev.compare (d : Dev) (x : Nat × List Byte × JRec) : Dev :=
  let same := fun (r : JRec) => r.at' == x.2.2.at' && r.ty == x.2.2.ty && Config.recordPayload r.ty r.fields r.data == x.2.1.drop 4
  match d.replay.made with
  | [] => d.diverge 1 x.2.2.at' x.1 x.2.1 []
  | r :: rest =>
    if same r then { d with replay := { d.replay with made := rest } }
    else if r.ty = x.2.2.ty ∧ r.at' = x.2.2.at' then d.diverge 3 x.2.2.at' x.1 x.2.1 (d.madeBytes r)
    else if r.at' < x.2.2.at' ∨ rest.any same then d.diverge 2 r.at' x.1 [] (d.madeBytes r)
    else d.diverge 1 x.2.2.at' x.1 x.2.1 []

/-- The first requests of a requester are granted, at most a number of them; the others wait. -/
def grantFirst (w : Nat) : Nat → List (Nat × Nat) → List (Nat × Nat)
  | 0, l => l
  | _ + 1, [] => []
  | n + 1, a :: l => if a.1 = w then grantFirst w n l else a :: grantFirst w (n + 1) l

/-- A mutex point of the run grants strictly in the recorded order: of the recorded runs, the one ahead takes the waiting
requests of its winner, and the next one follows when it is complete (R36). -/
def grantRuns : List Expect → List (Nat × Nat) → List Expect × List (Nat × Nat)
  | [], l => ([], l)
  | e :: es, l =>
    let k := min e.left (l.filter fun a => a.1 == e.winner).length
    let l := grantFirst e.winner k l
    if k = e.left then grantRuns es l else ({ e with left := e.left - k, met := e.met || decide (0 < k) } :: es, l)

/-- What the run has requested at a point is granted as far as the record goes. -/
def Dev.grantPoint (d : Dev) (p : Nat) : Dev :=
  let r := grantRuns (lookD [] d.replay.expect p) ((lookD [] d.replay.asked p).filter fun a => !notRerun p a.1)
  { d with replay := { d.replay with expect := tabIns d.replay.expect p r.1, asked := tabIns d.replay.asked p r.2 } }

/-- A recorded run of grants joins those its point has to make. A run at a point that stood at the anchor may have granted
what the run requested before the point's first record. -/
def Dev.compareGrants (d : Dev) (x : Nat × List Byte × JRec) : Dev :=
  let p := (x.2.2.fields.getD 0 0).toNat
  let w := (x.2.2.fields.getD 1 0).toNat
  let n := (x.2.2.fields.getD 2 0).toNat
  if !replayed p || notRerun p w then d
  else
    let e : Expect := ⟨w, n, x.2.2.at', false, x.1, x.2.1⟩
    let first := !d.replay.points.contains p
    let mine := lookD [] d.replay.asked p
    { d with replay := { d.replay with
        asked := tabIns d.replay.asked p (if first then mine.filter fun a => decide (x.2.2.at' ≤ a.2) else mine)
        expect := tabIns d.replay.expect p (lookD [] d.replay.expect p ++ [e])
        points := if first then d.replay.points ++ [p] else d.replay.points } }.grantPoint p

/-- The recorded run that stalls its point: one whose winner has not requested at all, or not as often as it did before
the next run at the point began. -/
def stalled : List Expect → Option Expect
  | [] => none
  | [e] => if e.met then none else some e
  | e :: _ :: _ => some e

/-- Every station is idle at this instant: a point whose recorded winner has not requested is a mutex stall (R368). -/
def Dev.stalls (d : Dev) : Dev :=
  (List.range 14).foldl (fun (d : Dev) p =>
    if !replayed p || lookD [] d.replay.expect p = [] then d
    else
      let d := d.grantPoint p
      match stalled (lookD [] d.replay.expect p) with
      | some e => d.diverge 4 e.at' e.seg e.bytes [] p
      | none => d) d

/-- The run goes on to an instant; the ticks before it are over then. Before the first of them has passed, what was
recorded on it must have been granted. -/
def Dev.runTo (d : Dev) (t : Nat) : Dev :=
  if t ≤ d.replay.clock then d
  else
    let d := (d.runOn 1).stalls
    if d.nat Obj.REPLAY_STATE = 4 then d.runOn (t - d.replay.clock) else d

/-! ### Inputs -/

/-- A recorded frame as the arrival it was. A lane in bus-off that receives has recovered. -/
def Dev.arrival (d : Dev) (i : Instr) : Dev :=
  match i with
  | .laneHeartbeatRx l n s => (d.busBack (laneNo l)).act (execLaneHeartbeatRx l n s)
  | .laneTimeRx l t => (d.busBack (laneNo l)).act (execLaneTimeRx l t)
  | .laneSyncRx l c => (d.busBack (laneNo l)).act (execLaneSyncRx l c)
  | .nmtStartRemoteNode l n => (d.busBack (laneNo l)).act (execNmtStartRemoteNode l n)
  | .nmtStopRemoteNode l n => (d.busBack (laneNo l)).act (execNmtStopRemoteNode l n)
  | .nmtEnterPreOperational l n => (d.busBack (laneNo l)).act (execNmtEnterPreOperational l n)
  | .nmtResetNode l n => (d.busBack (laneNo l)).act (execNmtResetNode l n)
  | .nmtResetCommunication l n => (d.busBack (laneNo l)).act (execNmtResetCommunication l n)
  | .usdoUpload l n k => (d.busBack (laneNo l)).act (execUsdoUpload l n k)
  | .writeRegister w => d.act (execWriteRegister w)
  | .ringTimeRx r => d.act (execRingTimeRx r)
  | .ringCommandRx f => d.act (execRingCommandRx f)
  | .aspectCommitRx q s a t c => d.act (execAspectCommitRx q s a t c)
  | .fenceMarkRx q g k => d.act (execFenceMarkRx q g k)
  | .timeMapRx q t r => d.act (execTimeMapRx q t r)
  | _ => d

/-- A recorded change of a pulse's outcome: the pulse due on the channel closes with it; a short is a crossing, and
dark evidence changes at once. -/
def Dev.pulseChange (d : Dev) (fields : List Int) : Dev :=
  let n := (fields.getD 0 0).toNat
  let code := (fields.getD 2 0).toNat
  let reason := (fields.getD 3 0).toNat
  if 96 ≤ n then d
  else if 4 ≤ code ∧ code ≤ 6 then d.takeDark n code (decide (4 < fields.length))
  else
    let d := if code = 3 ∧ reason = 6 then d.shortHi n 0 else d
    let d := d.closeDue n code reason
    if (d.ch n).model = code ∧ (d.ch n).modelReason = reason then d
    else (d.count Obj.REPLAY_STREAM_PULSES).takePulse n { limits := d.limitsOf n, dark := !(d.ch n).lit } code reason

/-- One recorded record in the run, at its stamp. -/
def Dev.record (d : Dev) (x : Nat × List Byte × JRec) : Dev :=
  let r := x.2.2
  let f := fun i => (r.fields.getD i 0).toNat
  if r.ty = 2 ∨ r.ty = 3 then
    (match Config.recorded r.ty (x.2.1.drop 4) with
     | some i => d.within fun d => d.arrival i
     | none => d)
  else if r.ty = 4 then (if f 0 < 32 then d.within fun d => d.finEdge (f 0) (f 1 == 1) else d)
  else if r.ty = 5 then (d.within Dev.timers).compareGrants x
  else if r.ty = 7 then d.within fun d => d.pulseChange r.fields
  else if r.ty = 0x0A then
    (if takenCode (f 0) (f 1) (f 2) then d.within fun d => d.takeCondition (f 0) (f 1) (f 2) (f 3 == 1)
     else ((d.within fun d => d.timers.shownBy (f 0) (f 1) (f 2) (f 3 == 1)).sift).compare x)
  else if r.ty = 0x0B then
    (if d.replay.images.contains r.data then (d.within Dev.timers).sift.compare x else d.diverge 5 r.at' x.1 x.2.1 [])
  else if r.ty = 0x0C then d.within fun d => d.stepTime (f 1)
  else if r.ty = 0x0D then (d.within Dev.timers).sift.compare x
  else if r.ty = 0x0E then d.runEnd 4
  else if r.ty = 0x0F ∧ f 1 = 3 then d.runEnd 3
  else d

/-- A record the run produced before this instant and that no recorded one met is the divergence. -/
def Dev.stray (d : Dev) (t seg : Nat) : Dev :=
  match d.sift.replay.made with
  | r :: _ => if r.at' < t then d.sift.diverge 2 r.at' seg [] (d.madeBytes r) else d.sift
  | [] => d.sift

/-- The record is behind the run; with none left the run is over. -/
def Dev.nextRecord (d : Dev) : Dev :=
  let d := (d.count Obj.REPLAY_EVENT_INDEX)
  let d := { d with replay := { d.replay with pos := d.replay.pos + 1 } }
  if d.nat Obj.REPLAY_STATE = 4 ∧ d.nextInput.isNone then d.runEnd 1 else d

/-- REPLAY_INPUT: the run advances to the next recorded record and processes it. A record stamped before the anchor's
KINDLED is passed. The event index of a divergence is that of its record. -/
def Dev.replayInput (d : Dev) : Dev :=
  if d.op ≠ .replay ∨ d.nat Obj.REPLAY_STATE ≠ 4 then d
  else match d.nextInput with
    | none => d.runEnd 1
    | some x =>
      let t := x.2.2.at'
      let stop := d.nat Obj.REPLAY_STOP_TIME
      if t < d.replay.clock ∧ x.2.2.ty ≠ 0x0C then d.nextRecord
      else if stop ≤ t then
        let d := (d.runTo stop).stray stop x.1
        if d.nat Obj.REPLAY_STATE = 4 then d.runEnd 2 else d
      else
        let d := (d.runTo t).stray t x.1
        if d.nat Obj.REPLAY_STATE ≠ 4 then d
        else
          let d := (d.record x).sift
          if d.nat Obj.REPLAY_END_REASON = 5 then d else d.nextRecord

/-- No command waits: the instant is over, and a tick of device time passes (log entry 3). -/
def idle (d : Dev) : Dev := tick d.ringDrain

/-- REPLAY_INPUT (R357, R366, R368). -/
def execReplayInput (s : State) := s.port Dev.replayInput

end Sys2Proof.Machine
end

