-- ==== Sys2Proof/Machine/Dispatch.lean ====
section
/-! DEFINITION. Which meaning each command has: one arm per constructor, one direct call each. -/
namespace Sys2Proof.Machine

def exec (i : Instr) (s : State) : Host.Outcome State Fault Refusal :=
  match i with
  | .resetNLow ticks => Sys2Proof.Machine.execResetNLow ticks s
  | .resetRelease straps masterLow => Sys2Proof.Machine.execResetRelease straps masterLow s
  | .kindleClocksLocked => Sys2Proof.Machine.execKindleClocksLocked s
  | .maskRomBoot => Sys2Proof.Machine.execMaskRomBoot s
  | .emberRecoveryDone us discarded uncorrectable corrected => Sys2Proof.Machine.execEmberRecoveryDone us discarded uncorrectable corrected s
  | .kindled dies rails => Sys2Proof.Machine.execKindled dies rails s
  | .kindleTimeout => Sys2Proof.Machine.execKindleTimeout s
  | .supplyBelowRange supply mv => Sys2Proof.Machine.execSupplyBelowRange supply mv s
  | .supplyAboveRange supply mv => Sys2Proof.Machine.execSupplyAboveRange supply mv s
  | .vkeepLow vioPresent mv => Sys2Proof.Machine.execVkeepLow vioPresent mv s
  | .holdNFall => Sys2Proof.Machine.execHoldNFall s
  | .vholdTrip mv => Sys2Proof.Machine.execVholdTrip mv s
  | .holdupLowWarn mv => Sys2Proof.Machine.execHoldupLowWarn mv s
  | .holdupLowClear mv => Sys2Proof.Machine.execHoldupLowClear mv s
  | .bankedRestart => Sys2Proof.Machine.execBankedRestart s
  | .cricketLockLoss k => Sys2Proof.Machine.execCricketLockLoss k s
  | .tempoWindowClose events demand mandatory => Sys2Proof.Machine.execTempoWindowClose events demand mandatory s
  | .watchdogTokenTimeout supervision => Sys2Proof.Machine.execWatchdogTokenTimeout supervision s
  | .watchdogRefWindow count => Sys2Proof.Machine.execWatchdogRefWindow count s
  | .groupFrameBoundary g complete means => Sys2Proof.Machine.execGroupFrameBoundary g complete means s
  | .buckPeakCrossing x => Sys2Proof.Machine.execBuckPeakCrossing x s
  | .buckOffTimeExpiry ch sample => Sys2Proof.Machine.execBuckOffTimeExpiry ch sample s
  | .buckPeakTimeout ch => Sys2Proof.Machine.execBuckPeakTimeout ch s
  | .shortHiCrossing x => Sys2Proof.Machine.execShortHiCrossing x s
  | .softOffComplete ch => Sys2Proof.Machine.execSoftOffComplete ch s
  | .softOffTimeout ch => Sys2Proof.Machine.execSoftOffTimeout ch s
  | .latchRetryTimer ch => Sys2Proof.Machine.execLatchRetryTimer ch s
  | .retryPeriodClean ch => Sys2Proof.Machine.execRetryPeriodClean ch s
  | .evidenceClose ch ev => Sys2Proof.Machine.execEvidenceClose ch ev s
  | .dcEIntervalEnd ch ev => Sys2Proof.Machine.execDcEIntervalEnd ch ev s
  | .darkOpenLoCrossing x => Sys2Proof.Machine.execDarkOpenLoCrossing x s
  | .darkDrainSample ch uv rail => Sys2Proof.Machine.execDarkDrainSample ch uv rail s
  | .litWhenDarkDebounce ch => Sys2Proof.Machine.execLitWhenDarkDebounce ch s
  | .isolationVerify g drains => Sys2Proof.Machine.execIsolationVerify g drains s
  | .probeDue ch => Sys2Proof.Machine.execProbeDue ch s
  | .probeEnd ch crossed => Sys2Proof.Machine.execProbeEnd ch crossed s
  | .warmingPulseJudge ch crossed mean => Sys2Proof.Machine.execWarmingPulseJudge ch crossed mean s
  | .opticalWindowClose ch ev => Sys2Proof.Machine.execOpticalWindowClose ch ev s
  | .lifeUpdateSecond => Sys2Proof.Machine.execLifeUpdateSecond s
  | .deratingUpdate => Sys2Proof.Machine.execDeratingUpdate s
  | .recalibrationDay => Sys2Proof.Machine.execRecalibrationDay s
  | .ntcConversion g ohm => Sys2Proof.Machine.execNtcConversion g ohm s
  | .kgndMeasurement g mv => Sys2Proof.Machine.execKgndMeasurement g mv s
  | .railDipDebounce rail mv => Sys2Proof.Machine.execRailDipDebounce rail mv s
  | .railDipClear rail mv => Sys2Proof.Machine.execRailDipClear rail mv s
  | .hoRail0Below mv => Sys2Proof.Machine.execHoRail0Below mv s
  | .hoRail0Return mv => Sys2Proof.Machine.execHoRail0Return mv s
  | .hoQualifyExpiry => Sys2Proof.Machine.execHoQualifyExpiry s
  | .hoHandoverDwell => Sys2Proof.Machine.execHoHandoverDwell s
  | .hoReturnDue => Sys2Proof.Machine.execHoReturnDue s
  | .hoCutoffRecover => Sys2Proof.Machine.execHoCutoffRecover s
  | .batteryCutoff mv => Sys2Proof.Machine.execBatteryCutoff mv s
  | .batteryCutoffEnd mv => Sys2Proof.Machine.execBatteryCutoffEnd mv s
  | .batteryRestPoint mv => Sys2Proof.Machine.execBatteryRestPoint mv s
  | .autonomyUpdate => Sys2Proof.Machine.execAutonomyUpdate s
  | .wakeEdge => Sys2Proof.Machine.execWakeEdge s
  | .laneHeartbeatRx lane node nmt => Sys2Proof.Machine.execLaneHeartbeatRx lane node nmt s
  | .laneTimeRx lane trainUs => Sys2Proof.Machine.execLaneTimeRx lane trainUs s
  | .laneSyncRx lane counter => Sys2Proof.Machine.execLaneSyncRx lane counter s
  | .nmtStartRemoteNode lane node => Sys2Proof.Machine.execNmtStartRemoteNode lane node s
  | .nmtStopRemoteNode lane node => Sys2Proof.Machine.execNmtStopRemoteNode lane node s
  | .nmtEnterPreOperational lane node => Sys2Proof.Machine.execNmtEnterPreOperational lane node s
  | .nmtResetNode lane node => Sys2Proof.Machine.execNmtResetNode lane node s
  | .nmtResetCommunication lane node => Sys2Proof.Machine.execNmtResetCommunication lane node s
  | .usdoUpload lane node key => Sys2Proof.Machine.execUsdoUpload lane node key s
  | .usdoSegmentTimeout lane => Sys2Proof.Machine.execUsdoSegmentTimeout lane s
  | .voteWindowClose client seq => Sys2Proof.Machine.execVoteWindowClose client seq s
  | .laneSilentTimeout lane => Sys2Proof.Machine.execLaneSilentTimeout lane s
  | .laneTimeout lane => Sys2Proof.Machine.execLaneTimeout lane s
  | .laneReadmit lane => Sys2Proof.Machine.execLaneReadmit lane s
  | .laneBusOff lane => Sys2Proof.Machine.execLaneBusOff lane s
  | .laneBusOffRecovered lane => Sys2Proof.Machine.execLaneBusOffRecovered lane s
  | .emcyWindow lane => Sys2Proof.Machine.execEmcyWindow lane s
  | .heartbeatPeriod lane => Sys2Proof.Machine.execHeartbeatPeriod lane s
  | .tpdoEventTimer pdo => Sys2Proof.Machine.execTpdoEventTimer pdo s
  | .statusPdoSend => Sys2Proof.Machine.execStatusPdoSend s
  | .voteDisagreeClear source => Sys2Proof.Machine.execVoteDisagreeClear source s
  | .claimConflictClear client => Sys2Proof.Machine.execClaimConflictClear client s
  | .safeAspectDelay sg => Sys2Proof.Machine.execSafeAspectDelay sg s
  | .holdOffExpiry source => Sys2Proof.Machine.execHoldOffExpiry source s
  | .coalescingWindowClose code => Sys2Proof.Machine.execCoalescingWindowClose code s
  | .dimLevel o ch level => Sys2Proof.Machine.execDimLevel o ch level s
  | .sgRequest o sg aspect => Sys2Proof.Machine.execSgRequest o sg aspect s
  | .peChBind o ch engine => Sys2Proof.Machine.execPeChBind o ch engine s
  | .peStart o e => Sys2Proof.Machine.execPeStart o e s
  | .peStop o e => Sys2Proof.Machine.execPeStop o e s
  | .peJumpSeg o e seg => Sys2Proof.Machine.execPeJumpSeg o e seg s
  | .gwData o port data => Sys2Proof.Machine.execGwData o port data s
  | .gwSwap o port => Sys2Proof.Machine.execGwSwap o port s
  | .mxRow o row data => Sys2Proof.Machine.execMxRow o row data s
  | .mxSwap o => Sys2Proof.Machine.execMxSwap o s
  | .supClear o ch bits => Sys2Proof.Machine.execSupClear o ch bits s
  | .lifeReset o ch => Sys2Proof.Machine.execLifeReset o ch s
  | .clBudgetNowMw o client mw => Sys2Proof.Machine.execClBudgetNowMw o client mw s
  | .clRetain o client data => Sys2Proof.Machine.execClRetain o client data s
  | .fenceIssue o group k => Sys2Proof.Machine.execFenceIssue o group k s
  | .fenceTimeout f => Sys2Proof.Machine.execFenceTimeout f s
  | .tkFence o cls cycle => Sys2Proof.Machine.execTkFence o cls cycle s
  | .capTrigger o => Sys2Proof.Machine.execCapTrigger o s
  | .capFreeze o num => Sys2Proof.Machine.execCapFreeze o num s
  | .capUnfreeze o num => Sys2Proof.Machine.execCapUnfreeze o num s
  | .cfgStageOpen o => Sys2Proof.Machine.execCfgStageOpen o s
  | .cfgStageComplete o => Sys2Proof.Machine.execCfgStageComplete o s
  | .cfgStageDiscard o => Sys2Proof.Machine.execCfgStageDiscard o s
  | .stagedWrite o key data => Sys2Proof.Machine.execStagedWrite o key data s
  | .stageOpenDone => Sys2Proof.Machine.execStageOpenDone s
  | .stagingChecksDone => Sys2Proof.Machine.execStagingChecksDone s
  | .cfgActivate o data => Sys2Proof.Machine.execCfgActivate o data s
  | .activationInstant => Sys2Proof.Machine.execActivationInstant s
  | .cfgConfirm o epoch => Sys2Proof.Machine.execCfgConfirm o epoch s
  | .calNow o seconds => Sys2Proof.Machine.execCalNow o seconds s
  | .cicadaEnter o => Sys2Proof.Machine.execCicadaEnter o s
  | .errFieldCount o value => Sys2Proof.Machine.execErrFieldCount o value s
  | .lcRequestProvision o serialLow => Sys2Proof.Machine.execLcRequestProvision o serialLow s
  | .lcRequestService o serialLow => Sys2Proof.Machine.execLcRequestService o serialLow s
  | .lcRequestRetired o serialLow => Sys2Proof.Machine.execLcRequestRetired o serialLow s
  | .lcMaintEnter o => Sys2Proof.Machine.execLcMaintEnter o s
  | .lcMaintLeave o => Sys2Proof.Machine.execLcMaintLeave o s
  | .maintLimitExpiry => Sys2Proof.Machine.execMaintLimitExpiry s
  | .keyInstall o data => Sys2Proof.Machine.execKeyInstall o data s
  | .fwUpdOpen o => Sys2Proof.Machine.execFwUpdOpen o s
  | .fwEraseDone => Sys2Proof.Machine.execFwEraseDone s
  | .fwUpdVerify o => Sys2Proof.Machine.execFwUpdVerify o s
  | .fwVerifyDone => Sys2Proof.Machine.execFwVerifyDone s
  | .fwUpdActivate o => Sys2Proof.Machine.execFwUpdActivate o s
  | .fwUpdAbandon o => Sys2Proof.Machine.execFwUpdAbandon o s
  | .fwConfirm o version => Sys2Proof.Machine.execFwConfirm o version s
  | .probationExpiry => Sys2Proof.Machine.execProbationExpiry s
  | .replayEnter o => Sys2Proof.Machine.execReplayEnter o s
  | .replayStart o => Sys2Proof.Machine.execReplayStart o s
  | .replayDiscard o => Sys2Proof.Machine.execReplayDiscard o s
  | .replayInput => Sys2Proof.Machine.execReplayInput s
  | .xbBuild o => Sys2Proof.Machine.execXbBuild o s
  | .xbBuildDone => Sys2Proof.Machine.execXbBuildDone s
  | .ttEngineEnter o => Sys2Proof.Machine.execTtEngineEnter o s
  | .ttEngineRun o => Sys2Proof.Machine.execTtEngineRun o s
  | .testEngineDone failed item => Sys2Proof.Machine.execTestEngineDone failed item s
  | .lkStart o => Sys2Proof.Machine.execLkStart o s
  | .lkStop o => Sys2Proof.Machine.execLkStop o s
  | .linkCheckDurationEnd bits errors => Sys2Proof.Machine.execLinkCheckDurationEnd bits errors s
  | .writeRegister w => Sys2Proof.Machine.execWriteRegister w s
  | .svcRead peer req key stagedHalf offset length => Sys2Proof.Machine.execSvcRead peer req key stagedHalf offset length s
  | .authChallenge peer req => Sys2Proof.Machine.execAuthChallenge peer req s
  | .authResponse peer req hostNonce response => Sys2Proof.Machine.execAuthResponse peer req hostNonce response s
  | .sessionClose peer req counter tag => Sys2Proof.Machine.execSessionClose peer req counter tag s
  | .authIdleExpiry => Sys2Proof.Machine.execAuthIdleExpiry s
  | .authLockoutExpiry => Sys2Proof.Machine.execAuthLockoutExpiry s
  | .journalInfo peer req => Sys2Proof.Machine.execJournalInfo peer req s
  | .segmentRead peer req seg offset length => Sys2Proof.Machine.execSegmentRead peer req seg offset length s
  | .extractRead peer req offset length => Sys2Proof.Machine.execExtractRead peer req offset length s
  | .extractLoad peer req counter tag offset data => Sys2Proof.Machine.execExtractLoad peer req counter tag offset data s
  | .extractLoadFinal peer req counter tag offset data => Sys2Proof.Machine.execExtractLoadFinal peer req counter tag offset data s
  | .fwBlock peer req counter tag block part crc data => Sys2Proof.Machine.execFwBlock peer req counter tag block part crc data s
  | .arpRequest peer target => Sys2Proof.Machine.execArpRequest peer target s
  | .icmpEcho peer target data => Sys2Proof.Machine.execIcmpEcho peer target data s
  | .periodicBankDue => Sys2Proof.Machine.execPeriodicBankDue s
  | .earlyBankDue => Sys2Proof.Machine.execEarlyBankDue s
  | .bankEnd bytes us => Sys2Proof.Machine.execBankEnd bytes us s
  | .emberCompaction => Sys2Proof.Machine.execEmberCompaction s
  | .patrolStart => Sys2Proof.Machine.execPatrolStart s
  | .patrolComplete worst refreshed => Sys2Proof.Machine.execPatrolComplete worst refreshed s
  | .journalRecoveryDone head => Sys2Proof.Machine.execJournalRecoveryDone head s
  | .segmentSeal => Sys2Proof.Machine.execSegmentSeal s
  | .journalEraseBatch die block failed => Sys2Proof.Machine.execJournalEraseBatch die block failed s
  | .overrunRecord => Sys2Proof.Machine.execOverrunRecord s
  | .journalOverrunClear => Sys2Proof.Machine.execJournalOverrunClear s
  | .captureSramFull => Sys2Proof.Machine.execCaptureSramFull s
  | .capturePostEnd => Sys2Proof.Machine.execCapturePostEnd s
  | .captureDrainDone rate segs => Sys2Proof.Machine.execCaptureDrainDone rate segs s
  | .viresquePacketFail die => Sys2Proof.Machine.execViresquePacketFail die s
  | .ringTimeSend => Sys2Proof.Machine.execRingTimeSend s
  | .ringTimeRx r => Sys2Proof.Machine.execRingTimeRx r s
  | .delayReqPeriod port => Sys2Proof.Machine.execDelayReqPeriod port s
  | .delayReqRx port pos seq => Sys2Proof.Machine.execDelayReqRx port pos seq s
  | .delayRespRx port seq t2 t3 => Sys2Proof.Machine.execDelayRespRx port seq t2 t3 s
  | .timeMapRx seq train ringTime => Sys2Proof.Machine.execTimeMapRx seq train ringTime s
  | .ringCommandRx f => Sys2Proof.Machine.execRingCommandRx f s
  | .aspectCommitRx seq sg aspect t commitSeq => Sys2Proof.Machine.execAspectCommitRx seq sg aspect t commitSeq s
  | .commitRepeat => Sys2Proof.Machine.execCommitRepeat s
  | .fenceMarkRx seq group k => Sys2Proof.Machine.execFenceMarkRx seq group k s
  | .nakRx pos cls seq => Sys2Proof.Machine.execNakRx pos cls seq s
  | .dictReqRx req key write => Sys2Proof.Machine.execDictReqRx req key write s
  | .dictRespRx pos seq req status data => Sys2Proof.Machine.execDictRespRx pos seq req status data s
  | .statusSend => Sys2Proof.Machine.execStatusSend s
  | .statusRx st => Sys2Proof.Machine.execStatusRx st s
  | .conditionFrameRx pos seq kind code source detail at' map => Sys2Proof.Machine.execConditionFrameRx pos seq kind code source detail at' map s
  | .telemetrySend => Sys2Proof.Machine.execTelemetrySend s
  | .telemetryRx pos seq data => Sys2Proof.Machine.execTelemetryRx pos seq data s
  | .insertionWindowStart => Sys2Proof.Machine.execInsertionWindowStart s
  | .joinRx j => Sys2Proof.Machine.execJoinRx j s
  | .joinRetry => Sys2Proof.Machine.execJoinRetry s
  | .admitRx seq pos ringTime => Sys2Proof.Machine.execAdmitRx seq pos ringTime s
  | .joinRefusalRx pos reason => Sys2Proof.Machine.execJoinRefusalRx pos reason s
  | .ringTimeLoss => Sys2Proof.Machine.execRingTimeLoss s
  | .bypassCheck silent => Sys2Proof.Machine.execBypassCheck silent s
  | .foreignRingTime serial => Sys2Proof.Machine.execForeignRingTime serial s
  | .hopDown port cause => Sys2Proof.Machine.execHopDown port cause s
  | .hopRestore port => Sys2Proof.Machine.execHopRestore port s
  | .testGrantSend => Sys2Proof.Machine.execTestGrantSend s
  | .testGrantRx seq pos => Sys2Proof.Machine.execTestGrantRx seq pos s
  | .testGrantMissing => Sys2Proof.Machine.execTestGrantMissing s
  | .slicePhase r => Sys2Proof.Machine.execSlicePhase r s
  | .sliceGrantTimeout => Sys2Proof.Machine.execSliceGrantTimeout s
  | .finRawEdge k on => Sys2Proof.Machine.execFinRawEdge k on s
  | .finDebounceExpiry k => Sys2Proof.Machine.execFinDebounceExpiry k s
  | .finBreakEnter k => Sys2Proof.Machine.execFinBreakEnter k s
  | .finBreakExit k => Sys2Proof.Machine.execFinBreakExit k s
  | .gwFrameStart start => Sys2Proof.Machine.execGwFrameStart start s
  | .gwReturnJudge port ret => Sys2Proof.Machine.execGwReturnJudge port ret s
  | .mxFrameStart => Sys2Proof.Machine.execMxFrameStart s
  | .mxSlotStart slot => Sys2Proof.Machine.execMxSlotStart slot s
  | .msyncEdge rising => Sys2Proof.Machine.execMsyncEdge rising s
  | .msyncLoss => Sys2Proof.Machine.execMsyncLoss s
  | .jtagExtest => Sys2Proof.Machine.execJtagExtest s
  | .jtagIdcode => Sys2Proof.Machine.execJtagIdcode s
  | .jtagSamplePreload => Sys2Proof.Machine.execJtagSamplePreload s
  | .jtagClamp => Sys2Proof.Machine.execJtagClamp s
  | .jtagHighz => Sys2Proof.Machine.execJtagHighz s
  | .jtagExtestPulse => Sys2Proof.Machine.execJtagExtestPulse s
  | .jtagExtestTrain => Sys2Proof.Machine.execJtagExtestTrain s
  | .jtagBypass => Sys2Proof.Machine.execJtagBypass s
  | .pulseOnEdge ch => Sys2Proof.Machine.execPulseOnEdge ch s
  | .pulseOffEdge ch => Sys2Proof.Machine.execPulseOffEdge ch s
  | .inrushWindowEnd ch => Sys2Proof.Machine.execInrushWindowEnd ch s
  | .darkOpenLoFall ch => Sys2Proof.Machine.execDarkOpenLoFall ch s
  | .watchdogToken supervision => Sys2Proof.Machine.execWatchdogToken supervision s
  | .uncorrectableSramError address => Sys2Proof.Machine.execUncorrectableSramError address s
  | .insertionWindowEnd => Sys2Proof.Machine.execInsertionWindowEnd s
  | .preTriggerWindowFilled => Sys2Proof.Machine.execPreTriggerWindowFilled s
  | .batterySample mv ua => Sys2Proof.Machine.execBatterySample mv ua s
  | .rail0StableChange stable => Sys2Proof.Machine.execRail0StableChange stable s
  | .hopLockRegained port => Sys2Proof.Machine.execHopLockRegained port s
  | .finUnknownEnd k => Sys2Proof.Machine.execFinUnknownEnd k s
  | .sliceEnd => Sys2Proof.Machine.execSliceEnd s
  | .testLogicReset => Sys2Proof.Machine.execTestLogicReset s

end Sys2Proof.Machine
end

