-- ==== Sys2Proof/Machine/Step.lean ====
section
/-! DEFINITION. One step: the command at the front of the queue runs on the rest of it; on an empty queue one tick of
device time passes. -/
namespace Sys2Proof.Machine

/-- The command at the front runs; with none waiting, the block lets one tick pass (log entry 3). -/
def step (s : State) : Host.Outcome State Fault Refusal :=
  match s.pending with
  | [] => .next { s with dev := idle s.dev }
  | c :: r => exec c { s with pending := r }

/-- The state with the command a word spells put at the front of its queue; the table gives no row any bits, so no
word spells a command and the state is unchanged. -/
def State.withFetchWord (s : State) (nbits w : Nat) : State :=
  match decodeTableWord nbits w with
  | some c => { s with pending := c :: s.pending }
  | none => s

end Sys2Proof.Machine
end

