-- ==== Sys2Proof/Safety.lean ====
section
/-! DEFINITION. What a safe block is: whatever the block was told, its lamp outputs are off and its safe-state outputs
asserted wherever the spec holds them so (R48, R50, R92, R204, R205, R330, R411, R438). And the terms statements use:
what a command answers, and what it leaves as it was. -/
namespace Sys2Proof.Machine

/-- Every lamp output is off: no gate listed is anything but low, glowworm lines and the matrix are off. -/
abbrev Outs.dark (o : Outs) : Prop := o.gate = [] ∧ o.gwOn = false ∧ o.mxRow = none ∧ o.mxCols = []

/-- Both safe-state outputs are asserted. -/
abbrev Outs.asserted (o : Outs) : Prop := o.safe0 = true ∧ o.safe1 = true

/-- What the levels of a block satisfy: dark and asserted where the lamp outputs are held off, the isolators released
where the block isolates or its watchdog acted, SAFE0_N asserted until KINDLED, SAFE1_N asserted until both tokens have
come since then, and HANDOVER high only where the block does not isolate. -/
abbrev Dev.Safe (d : Dev) : Prop :=
  (d.darkened = true → d.outs.dark ∧ d.outs.asserted) ∧
  (d.isolates = true ∨ d.guard.tripped = true → d.outs.iso = []) ∧
  (d.op = .kindling → d.outs.safe0 = true ∧ d.outs.safe1 = true) ∧
  (d.guard.supIn = false ∨ d.guard.stokerIn = false → d.outs.safe1 = true) ∧
  (d.isolates = true → d.outs.handover ≠ .high)

/-- The state's block is safe. -/
abbrev State.Safe (s : State) : Prop := s.dev.Safe

/-- The command answers a next state with the queue as it was, and the block of that state satisfies P. -/
def Gives (i : Instr) (s : State) (P : Dev → Prop) : Prop :=
  ∃ t : State, exec i s = .next t ∧ t.pending = s.pending ∧ P t.dev

/-- Every object but those named reads as before. -/
def Dev.SameBut (d t : Dev) (ks : List Nat) : Prop := ∀ k, k ∉ ks → t.val k = d.val k

/-- Objects in which conditions, their reports, the journal, the mutex points and the capture count. -/
def reportKey (k : Nat) : Bool := [0x2003, 0x2201, 0x2202, 0x2203, 0x2331, 0x2340, 0x4800].contains (k / 256)

/-- Every object reads as before, but for those named and those that reports count in. -/
def Dev.SameElse (d t : Dev) (own : Nat → Bool) : Prop := ∀ k, reportKey k = false → own k = false → t.val k = d.val k

/-- Every channel but one is as before, and so is its gate. -/
def Dev.OtherChans (d t : Dev) (n : Nat) : Prop := ∀ m, m ≠ n → t.ch m = d.ch m ∧ t.gate m = d.gate m

/-- The block as it stands where a command changes nothing but what the output stage shows. -/
abbrev Dev.Untouched (d t : Dev) : Prop := t = { d with outs := t.outs, waiters := [] }

/-- The block is in one of the states that a halt can begin in. -/
abbrev Dev.Guarded (d : Dev) : Prop := d.op = .kindling ∨ d.op = .kindled ∨ d.op = .operating

/-- The block is up and its services run. -/
abbrev Dev.Serving (d : Dev) : Prop := d.alive = true ∧ d.power.banked = false ∧ d.up = true

/-- The block answers: neither in reset, nor banked, nor between the steps of a replay run. -/
abbrev Dev.Talks (d : Dev) : Prop := d.power.inReset = false ∧ d.power.banked = false ∧ d.frozen = false

/-- What a halt leaves: HALT-SAFE with its cause and detail, every channel HALTED, and the safe levels. -/
abbrev Dev.Halted (d : Dev) (cause detail : Nat) : Prop :=
  d.op = .haltSafe ∧ d.nat Obj.HALT_CAUSE = cause ∧ d.nat Obj.HALT_DETAIL = detail ∧
    (∀ n, n < 96 → d.drv n = 7 ∧ d.gate n = .low) ∧ (∀ g, g < 24 → d.iso g = .z) ∧ d.outs.asserted

/-- Where a halt leads from a block: to HALT-SAFE, or with an image on probation, which HALT-SAFE rejects, through a
reset, unless a power-fail bank is in progress (R455). -/
def Dev.HaltsInto (d t : Dev) (cause detail : Nat) : Prop :=
  if d.nat Obj.FW_PROBATION = 0 ∨ (d.power.banked && d.ember.bank.isSome) = true then t.Halted cause detail
  else t.op = .kindling ∧ t.now = 0 ∧ t.nat Obj.RESET_CAUSE = 3

/-- What the evaluation of a pulse of a channel still commanded lit leaves of its counters, its observed state and
DARK_FAULT (R138, R141). -/
def Dev.Classified (d t : Dev) (n : Nat) (p : PulseRec) (ev : PulseEv) : Prop :=
  match classify p ev with
  | .neutral => t.nat (Obj.SUP_DEV_COUNT n) = d.nat (Obj.SUP_DEV_COUNT n) ∧
      t.nat (Obj.SUP_GOOD_COUNT n) = d.nat (Obj.SUP_GOOD_COUNT n) ∧ t.nat (Obj.SUP_OBSERVED n) = d.nat (Obj.SUP_OBSERVED n)
  | .deviating r onset =>
    let k := sat 255 (d.nat (Obj.SUP_DEV_COUNT n) + 1)
    t.nat (Obj.SUP_DEV_COUNT n) = k ∧ t.nat (Obj.SUP_GOOD_COUNT n) = 0 ∧ t.nat (Obj.SUP_LAST_REASON n) = r ∧
      (k = 1 → t.nat (Obj.SUP_ONSET n) = onset) ∧
      (if p.limits.darkDeb ≤ k then
        t.nat (Obj.SUP_OBSERVED n) = 4 ∧ t.active 0x0101 n = true ∧ t.nat (Obj.SUP_VERDICT_TIME n) = d.now
      else t.nat (Obj.SUP_OBSERVED n) = d.nat (Obj.SUP_OBSERVED n))
  | o =>
    let k := sat 65535 (d.nat (Obj.SUP_GOOD_COUNT n) + 1)
    t.nat (Obj.SUP_DEV_COUNT n) = 0 ∧ t.nat (Obj.SUP_GOOD_COUNT n) = k ∧ t.nat (Obj.SUP_CONTINUITY n) = 1 ∧
      (d.darkReason n ≠ 7 → t.nat (Obj.SUP_OBSERVED n) = (if o = .good then 2 else 3)) ∧
      (p.limits.clearDeb ≤ k → 1 ≤ d.darkReason n → d.darkReason n ≤ 6 → d.latchedC 0x0101 n = false → t.active 0x0101 n = false)

/-- What the first steps of a power-fail bank leave: the block banked with bank cause 3, its gates low, and no channel in
LIT, WARMING or SOFT_OFF. -/
abbrev Dev.Failed (d : Dev) : Prop :=
  d.power.banked = true ∧ d.nat Obj.BANK_STATE = 3 ∧ d.ember.bank.isSome ∧
    ∀ n, n < 96 → d.drv n ≠ 2 ∧ d.drv n ≠ 3 ∧ d.drv n ≠ 4 ∧ d.gate n = .low

/-! ### An accepted write -/

/-- The block as a command finds it: the requests of the waiting commands stand beside it. -/
def State.seen (s : State) : Dev := { s.dev with waiters := waits s.pending }

/-- The client a write is executed for; the service port stands beside the 512 slots (log entry 14). -/
def writerOf (o : Origin) : Nat :=
  match o with
  | .lane _ _ c _ => c.val
  | .svc _ _ _ _ => portClient

/-- The envelope of a voted write (Table 8.3). -/
def envelopeOf (c s key : Nat) (b : List Byte) : List Byte :=
  leBytes 2 c ++ leBytes 2 s ++ leBytes 2 (key / 256) ++ leBytes 1 (key % 256) ++ [0] ++ b

/-- A lane's frame of a voted write is taken, and the windows that are over are closed. -/
def Dev.frameTaken (d : Dev) (l node c s key : Nat) (b : List Byte) : Dev :=
  (d.laneFrame l (0x600 + node) true (envelopeOf c s key b)).winsOver

/-- The window of a write with a lane's arrival in it. -/
def Dev.windowWith (d : Dev) (l c s : Nat) (body : List Byte) : VoteWin :=
  ((d.winOf c s).getD ⟨c, s, d.now, [], none, 0⟩).arrive l body

/-- The block in which a write is executed once it has been heard: by a lane, with its arrival in its window and
kindling ended; by the service port, with its datagram counted. -/
def Dev.execAt (d : Dev) (o : Origin) (key : Nat) (b : List Byte) : Dev :=
  match o with
  | .lane l node c s =>
    let d := (d.frameTaken (laneNo l) node.val c.val s.val key b).grantAt 9 0
    let body := leBytes 1 node.val ++ (envelopeOf c.val s.val key b).drop 4
    ((d.winPut (d.windowWith (laneNo l) c.val s.val body)).grantAt 1 0).endKindling 2
  | .svc _ _ counter _ =>
    let d := d.count Obj.SVC_RX_DATAGRAMS
    let inService := key == Obj.LC_MAINT_CONTROL && b == [1]
    let d := if d.writeNeeds inService = some true then { d with admin := { d.admin with lastCounter := counter } } else d
    d.grantAt 9 2

/-- The value of a write as it is executed: the service port of a member converts the instant of an ACTIVATE. -/
def Dev.brought (d : Dev) (o : Origin) (key : Nat) (b : List Byte) : List Byte :=
  match o with
  | .lane _ _ _ _ => b
  | .svc _ _ _ _ => d.portValue key b

/-- Is the write heard: by a lane as the arrival that completes its vote, by the service port as a permitted write of an
open session or of a state that needs none? -/
def Dev.hears (d : Dev) (o : Origin) (key : Nat) (b : List Byte) : Bool :=
  !d.power.inReset && !d.power.banked && (match o with
  | .lane l node c s =>
    let f := d.frameTaken (laneNo l) node.val c.val s.val key b
    let g := f.grantAt 9 0
    let body := leBytes 1 node.val ++ (envelopeOf c.val s.val key b).drop 4
    let w := g.windowWith (laneNo l) c.val s.val body
    !d.frozen && d.laneOn (laneNo l) && node.val == d.nodeId && node.val == f.nodeId && f.lanes.nmt != 4 && f.stokerRuns &&
      !f.usdoBusy (laneNo l) && decide (1 ≤ b.length) && decide (b.length ≤ 1024) && g.staticCode key b == 0 &&
      !g.laneOut (laneNo l) && ((g.cl c.val).done.find? fun (e : Nat × Nat × Nat) => e.1 == s.val).isNone &&
      (g.cl c.val).fresh s.val && decide (2 ≤ g.aliveCount) && decide (2 ≤ ((g.winPut w).agreeing w body).length)
  | .svc peer req counter tag =>
    let e := d.count Obj.SVC_RX_DATAGRAMS
    let inService := key == Obj.LC_MAINT_CONTROL && b == [1]
    let bytes := leBytes 2 (key / 256) ++ leBytes 1 (key % 256) ++ [0] ++ leBytes 4 0 ++ b
    d.portOn && !e.portShed && (match e.writeNeeds inService with
      | none => false
      | some false => true
      | some true => (e.sessionRepeat peer counter tag).isNone && e.sessionCheck peer counter tag (datagram 2 req counter bytes) == 0) &&
      decide (1 ≤ b.length) && decide (b.length ≤ 1024) && (d.execAt o key b).staticCode key b == 0)

/-- Is the write accepted: heard, not refused by its checks, not held, and not in a HALT-SAFE that rejects an image on
probation? -/
def Dev.accepts (d : Dev) (o : Origin) (key : Nat) (b : List Byte) : Bool :=
  let u := d.execAt o key b
  let w : KeyVal := (key, writeVal key (u.brought o key b))
  d.hears o key b && !(originPort o && u.portUnmapped key b) && u.commandCode (writerOf o) u.ownPos [w] == 0 && !u.isHeld (writerOf o) [w] &&
    !(d.op == .haltSafe && d.nat Obj.FW_PROBATION != 0)

/-- Where a write is accepted, the command gives a block that satisfies P, told beside the one it was executed in. -/
def Accepted (i : Instr) (s : State) (o : Origin) (key : Nat) (b : List Byte) (P : Dev → Dev → Prop) : Prop :=
  s.seen.accepts o key b = true → Gives i s (P (s.seen.execAt o key b))

end Sys2Proof.Machine
end

