-- ==== Sys2Proof/Certificates/Slice0/Obligations.lean ====
section
/-! DEFINITION. The statements about the block, one for each family of commands: what each command's own effect is,
what it leaves as it was, and what holds of the whole machine. Gives i s P says that command i answers a next state with
the queue as it was and a block that satisfies P. -/
open Sys2Proof Sys2Proof.Machine

/-! ### The whole machine -/

/-- A step runs the command at the front of the queue on the queue's rest. -/
def Obligations.StepRunsFront : Prop :=
  ∀ (d : Dev) (c : Instr) (r : List Instr), step ⟨d, c :: r⟩ = exec c ⟨d, r⟩

/-- On an empty queue a step is one tick: outside reset device time advances by exactly one, and the frames that gave
way at M05 on the instant that is over go out, own frames last (the model's choices of log entries 3 and 134). With no
such frame nothing but the times changes. -/
def Obligations.EmptyQueueTicks : Prop :=
  ∀ d : Dev, ∃ t : State, step ⟨d, []⟩ = .next t ∧ t.pending = [] ∧
    t.dev.now = (if d.power.inReset then d.now else d.now + 1) ∧
    t.dev.ticks = (if d.power.inReset then d.ticks else d.ticks + 1) ∧
    t.dev.outs = d.outs ∧ t.dev.op = d.op ∧ t.dev.chan = d.chan ∧ t.dev.rep = d.rep ∧ t.dev.ring.through = [] ∧
    (d.inserted = true → d.power.banked = false → t.dev.sent = d.sent ++
      ((d.ring.through.filter fun x => x.1 != 0) ++ d.ring.through.filter fun x => x.1 == 0).map Prod.snd) ∧
    (d.ring.through = [] → t.dev.jnl = d.jnl ∧ t.dev.sent = d.sent ∧ d.SameBut t.dev [Obj.CAL_NOW, Obj.POWERED_TIME_S])

/-- Every command completes and leaves the queue as it was. -/
def Obligations.EveryCommandCompletes : Prop := ∀ (i : Instr) (s : State), ∃ t : State, exec i s = .next t ∧ t.pending = s.pending

/-- Every step keeps the levels safe, whatever the command and the state. -/
def Obligations.StepKeepsSafe : Prop := ∀ s t : State, s.Safe → step s = .next t → t.Safe

/-- The block is safe at reset, and its lamp outputs are off there. -/
def Obligations.ResetIsSafe : Prop :=
  State.reset.Safe ∧ State.reset.dev.outs.dark ∧ State.reset.pending = [] ∧ State.reset.dev.now = 0 ∧ State.reset.dev.op = .kindling

/-- Whatever the command, its next state shows safe levels. -/
def Obligations.CommandLeavesSafe : Prop := ∀ (i : Instr) (s t : State), exec i s = .next t → t.Safe

/-! ### Lamp channels: edges and switching cycles -/

/-- What an edge or a timer of a channel's drive leaves as it was: of the objects it changes only the channel's drive
state, gate cycles and switching frequency, of the channels only its own, and no isolator. An on-edge can also end the
judgement of conduction before it, which reports a condition (R144): beside that it changes the channel's gate cycles
and frequency only. -/
def Obligations.DriveFrame : Prop :=
  (∀ (s t : State) (ch : Fin 96) (sub : Fin 32) (v : Nat) (i : Instr),
    i ∈ [Instr.pulseOffEdge ch, .inrushWindowEnd ch, .buckPeakCrossing ⟨ch, sub⟩, .buckOffTimeExpiry ch v, .buckPeakTimeout ch,
      .softOffComplete ch, .softOffTimeout ch, .latchRetryTimer ch] →
    s.dev.running = true → exec i s = .next t →
    t = { s with dev := { s.dev with dict := t.dev.dict, chan := t.dev.chan, outs := t.dev.outs, waiters := [] } } ∧
    s.dev.SameBut t.dev [Obj.DRV_STATE ch, Obj.DRV_GATE_CYCLES ch, Obj.DRV_FSW_HZ ch] ∧ s.dev.OtherChans t.dev ch ∧
    t.dev.outs.iso = s.dev.outs.iso) ∧
  (∀ (s t : State) (ch : Fin 96), s.dev.running = true → exec (.pulseOnEdge ch) s = .next t →
    t.pending = s.pending ∧ s.dev.OtherChans t.dev ch ∧ t.dev.outs.iso = s.dev.outs.iso ∧
    s.dev.SameElse t.dev (fun k => [Obj.DRV_GATE_CYCLES ch, Obj.DRV_FSW_HZ ch].contains k) ∧
    t.dev.now = s.dev.now ∧ t.dev.op = s.dev.op ∧ t.dev.lc = s.dev.lc ∧ t.dev.banked = s.dev.banked ∧ t.dev.staged = s.dev.staged ∧
    t.dev.ember = s.dev.ember ∧ t.dev.lanes = s.dev.lanes ∧ t.dev.grants = s.dev.grants ∧ t.dev.life = s.dev.life ∧
    t.dev.grp = s.dev.grp ∧ t.dev.sg = s.dev.sg ∧ t.dev.pe = s.dev.pe ∧ t.dev.gw = s.dev.gw ∧ t.dev.mx = s.dev.mx ∧
    t.dev.fin = s.dev.fin ∧ t.dev.cfg = s.dev.cfg ∧ t.dev.guard = s.dev.guard ∧ t.dev.power = s.dev.power ∧
    t.dev.admin = s.dev.admin ∧ t.dev.test = s.dev.test)

/-- On its placed tick, a boundary plus its offset, the on-edge of a lit channel turns the gate on: a pulse begins with
its off-edge DIM_ON_EDGES later, and the inrush window opens at the first on-edge after darkness; a pulse that spans the
boundary goes on with the later off-edge. A warming channel's on-edge begins a warming pulse. Each on-edge with the gate
low counts one gate cycle. At its off-edge a pulse ends: the gate is low, its evidence is due after the pulses before
it, and dark evidence is collected from 200 us on. The inrush window ends with its time, half-open. That an edge off its
tick, or before its time, changes nothing is the model's choice (log entry 17). -/
def Obligations.PulsesPlacedAndEnded : Prop :=
  ((∀ (s : State) (ch : Fin 96), s.dev.running = true → s.dev.drv ch = 3 → (s.dev.ch ch).dc = false → (s.dev.ch ch).noOn = false →
    s.dev.onEdgeAt ch / 32 = s.dev.now → (s.dev.ch ch).placed ≠ some (s.dev.onEdgeAt ch) →
    ((s.dev.ch ch).pulseOpen = false → s.dev.nat (Obj.DRV_GATE_CYCLES ch) + 1 < counterMod (Obj.DRV_GATE_CYCLES ch) →
      Gives (.pulseOnEdge ch) s fun t => t.gate ch = .high ∧ (t.ch ch).pulseOpen = true ∧
        (t.ch ch).pulse.onEdge = s.dev.onEdgeAt ch ∧ (t.ch ch).placed = some (s.dev.onEdgeAt ch) ∧
        (t.ch ch).pulse.offEdge = s.dev.onEdgeAt ch + s.dev.nat (Obj.DIM_ON_EDGES ch) ∧
        (t.ch ch).cycleOpen = (s.dev.mode ch == 2) ∧ t.drv ch = 3 ∧
        t.nat (Obj.DRV_GATE_CYCLES ch) = s.dev.nat (Obj.DRV_GATE_CYCLES ch) + (if s.dev.gate ch = .high then 0 else 1) ∧
        ((s.dev.ch ch).inrushDue = true →
          (t.ch ch).inrushOn = decide (0 < s.dev.pnat ch (Obj.PF_INRUSH_TIME (s.dev.prof ch))) ∧
          (t.ch ch).inrushEnd = s.dev.now + 100 * s.dev.pnat ch (Obj.PF_INRUSH_TIME (s.dev.prof ch)))) ∧
    ((s.dev.ch ch).pulseOpen = true → s.dev.onEdgeAt ch ≤ (s.dev.ch ch).pulse.offEdge →
      Gives (.pulseOnEdge ch) s fun t => t.gate ch = s.dev.gate ch ∧ (t.ch ch).pulseOpen = true ∧
        (t.ch ch).pulse.onEdge = (s.dev.ch ch).pulse.onEdge ∧
        (t.ch ch).pulse.offEdge = max (s.dev.ch ch).pulse.offEdge (s.dev.onEdgeAt ch + s.dev.nat (Obj.DIM_ON_EDGES ch)))) ∧
  (∀ (s : State) (ch : Fin 96), s.dev.running = true → s.dev.drv ch = 3 → s.dev.onEdgeAt ch / 32 ≠ s.dev.now →
    Gives (.pulseOnEdge ch) s fun t => s.dev.Untouched t) ∧
  (∀ (s : State) (ch : Fin 96), s.dev.running = true → s.dev.drv ch = 2 → (s.dev.ch ch).pulseOpen = false →
    (s.dev.ch ch).dc = false → (s.dev.ch ch).warmOpen = false → (s.dev.ch ch).warmWidth ≠ 0 →
    s.dev.onEdgeAt ch / 32 = s.dev.now → (s.dev.ch ch).placed ≠ some (s.dev.onEdgeAt ch) →
    Gives (.pulseOnEdge ch) s fun t => t.gate ch = .high ∧ (t.ch ch).warmOpen = true ∧
      (t.ch ch).startAt = s.dev.onEdgeAt ch ∧ (t.ch ch).warmWidth = (s.dev.ch ch).warmWidth ∧ t.drv ch = 2)) ∧
  (∀ (s : State) (ch : Fin 96), s.dev.running = true → (s.dev.ch ch).pulseOpen = true →
    ((s.dev.ch ch).pulse.offEdge ≤ 32 * s.dev.now + 31 →
      Gives (.pulseOffEdge ch) s fun t => t.gate ch = .low ∧ (t.ch ch).pulseOpen = false ∧ (t.ch ch).cycleOpen = false ∧
        (t.ch ch).due = (s.dev.ch ch).due ++ [(s.dev.ch ch).pulse] ∧ t.drv ch = s.dev.drv ch ∧
        (t.ch ch).darkFrom = (s.dev.ch ch).pulse.offEdge + 640000) ∧
    (32 * s.dev.now + 31 < (s.dev.ch ch).pulse.offEdge → Gives (.pulseOffEdge ch) s fun t => s.dev.Untouched t)) ∧
  (∀ (s : State) (ch : Fin 96), s.dev.alive = true → (s.dev.ch ch).inrushOn = true →
    ((s.dev.ch ch).inrushEnd ≤ s.dev.now → Gives (.inrushWindowEnd ch) s fun t => (t.ch ch).inrushOn = false) ∧
    (s.dev.now < (s.dev.ch ch).inrushEnd → Gives (.inrushWindowEnd ch) s fun t => (t.ch ch).inrushOn = true))

/-- The switching cycle of a BUCK channel. Its peak, 150 ns after the end of the gate edge or later, turns the gate off
for an off-time of 300 ns to 20 us that keeps the cycle at 1.0 us or more; a crossing before that is blanked. The end of
the off-time turns the gate on again, and the valley sample adapts the off-time by the ratio of the ripple wanted to the
one seen, or doubles it. A cycle of 40 us that has not reached its peak ends, short of peak. The rounding of the adapted
off-time is free (log entry 8). -/
def Obligations.BuckCycle : Prop :=
  ∀ (s : State) (ch : Fin 96), s.dev.running = true → (s.dev.ch ch).pulse.limits.buck = true →
    (s.dev.ch ch).pulseOpen = true ∨ (s.dev.ch ch).dc = true →
    (∀ sub : Fin 32, (s.dev.ch ch).cycleOpen = true →
      let e := 32 * s.dev.now + sub
      let edge := s.dev.tEdge ch
      (2 * (edge.1 + 150000 * edge.2) ≤ (e - (s.dev.ch ch).cycleAt) * 625 * edge.2 →
        Gives (.buckPeakCrossing ⟨ch, sub⟩) s fun t => t.gate ch = .low ∧ (t.ch ch).cycleOpen = false ∧ (t.ch ch).gateOffAt = e ∧
          (t.ch ch).pulse = (s.dev.ch ch).pulse ∧ (t.ch ch).cycle = (s.dev.ch ch).cycle ∧
          (t.ch ch).toff = max (min 20000000 (max 300000 (s.dev.ch ch).toff)) (1000000 - (e - (s.dev.ch ch).cycleAt) * 625 / 2)) ∧
      ((e - (s.dev.ch ch).cycleAt) * 625 * edge.2 < 2 * (edge.1 + 150000 * edge.2) →
        Gives (.buckPeakCrossing ⟨ch, sub⟩) s fun t => s.dev.Untouched t)) ∧
    (∀ sample : Nat, (s.dev.ch ch).cycleOpen = false →
      let on := ((s.dev.ch ch).gateOffAt * 3125 + (s.dev.ch ch).toff * 10 + 3124) / 3125
      on ≤ 32 * s.dev.now + 31 →
      Gives (.buckOffTimeExpiry ch sample) s fun t => t.gate ch = .high ∧ (t.ch ch).cycleOpen = true ∧
        (t.ch ch).cycleAt = max on (32 * s.dev.now) ∧ (t.ch ch).cycle = (s.dev.ch ch).cycle + 1 ∧
        (s.dev.buckPk ch ≤ 2000 * (sample : Int) → (t.ch ch).toff = 2 * (s.dev.ch ch).toff) ∧
        (2000 * (sample : Int) < s.dev.buckPk ch →
          let num := (s.dev.ch ch).toff * (s.dev.buckPk ch - s.dev.buckVal ch).toNat
          let den := (s.dev.buckPk ch - 2000 * (sample : Int)).toNat
          num / den ≤ (t.ch ch).toff ∧ (t.ch ch).toff ≤ num / den + (if num % den = 0 then 0 else 1))) ∧
    ((s.dev.ch ch).cycleOpen = true → (s.dev.ch ch).cycleAt + 128000 ≤ 32 * s.dev.now + 31 →
      let e := max ((s.dev.ch ch).cycleAt + 128000) (32 * s.dev.now)
      Gives (.buckPeakTimeout ch) s fun t => t.gate ch = .low ∧ (t.ch ch).cycleOpen = false ∧ (t.ch ch).gateOffAt = e ∧
        (t.ch ch).toff = max (min 20000000 (max 300000 (s.dev.ch ch).toff)) (1000000 - (e - (s.dev.ch ch).cycleAt) * 625 / 2) ∧
        (if (s.dev.ch ch).cycle = 0 then (t.ch ch).pulse.firstShort = some ((s.dev.ch ch).cycleAt + 128000)
          else (t.ch ch).pulse.laterShort =
            some ((s.dev.ch ch).pulse.laterShort.getD ((s.dev.ch ch).cycleAt + 128000))))

/-- A SHORT_HI crossing acts at once in DARK, WARMING and LIT: soft-off, its counter, its latch cause and its condition,
HARD_SHORT within t_edge of the gate's on-edge and SHORT after it; the pulse it ends stays due with the crossing. The
channel is then latched dark, when the gate has fallen or at the latest when the soft-off's limit is over, and dark
evidence is collected from 200 us on. A latched channel's retry is due 100 ms after its latch, isolated or not, and 10 s
lit without a short return the retry count and clear the short conditions that are not latched. That the condition
stands from the crossing on is the model's reading (log entry 25). -/
def Obligations.ShortsLatchAndRetry : Prop :=
  ((∀ (s : State) (ch : Fin 96) (sub : Fin 32), s.dev.running = true → s.dev.drv ch = 1 ∨ s.dev.drv ch = 2 ∨ s.dev.drv ch = 3 →
    s.dev.nat (Obj.DRV_SOFTOFF_COUNT ch) + 1 < counterMod (Obj.DRV_SOFTOFF_COUNT ch) →
    let e := 32 * s.dev.now + sub
    let edge := s.dev.tEdge ch
    let ramp := decide ((e - (s.dev.ch ch).gateEdge) * 625 * edge.2 ≤ 2 * edge.1)
    Gives (.shortHiCrossing ⟨ch, sub⟩) s fun t => t.drv ch = 4 ∧ t.gate ch = .soft ∧ (t.ch ch).softAt = s.dev.now ∧
      (t.ch ch).pulseOpen = false ∧ (t.ch ch).dc = false ∧
      t.nat (Obj.DRV_SOFTOFF_COUNT ch) = s.dev.nat (Obj.DRV_SOFTOFF_COUNT ch) + 1 ∧
      t.nat (Obj.DRV_LATCH_CAUSE ch) = (if ramp then 1 else 2) ∧ t.active (if ramp then 0x0106 else 0x0103) ch = true ∧
      ((s.dev.ch ch).pulseOpen = true ∨ (s.dev.ch ch).dc = true →
        (t.ch ch).due = (s.dev.ch ch).due ++ [{ (s.dev.ch ch).pulse with shortHi := true, shortHiAt := e }])) ∧
  (∀ (s : State) (ch : Fin 96), s.dev.running = true → s.dev.drv ch = 4 →
    Gives (.softOffComplete ch) s fun t => t.drv ch = 5 ∧ t.gate ch = .low ∧ (t.ch ch).latchAt = s.dev.now ∧
      (t.ch ch).retryDue = false ∧ (t.ch ch).darkFrom = 32 * s.dev.now + 640000) ∧
  (∀ (s : State) (ch : Fin 96), s.dev.running = true → s.dev.drv ch = 4 →
    ((s.dev.ch ch).softAt + s.dev.softOffLimit ch ≤ s.dev.now →
      Gives (.softOffTimeout ch) s fun t => t.drv ch = 5 ∧ t.gate ch = .low ∧ (t.ch ch).latchAt = s.dev.now ∧
        (t.ch ch).retryDue = false ∧ (t.ch ch).darkFrom = 32 * s.dev.now + 640000) ∧
    (s.dev.now < (s.dev.ch ch).softAt + s.dev.softOffLimit ch → Gives (.softOffTimeout ch) s fun t => s.dev.Untouched t))) ∧
  ((∀ (s : State) (ch : Fin 96), s.dev.alive = true → s.dev.drv ch = 5 ∨ (s.dev.drv ch = 6 ∧ (s.dev.ch ch).latchedBeforeIso = true) →
    ((s.dev.ch ch).latchAt + 10000000 ≤ s.dev.now →
      Gives (.latchRetryTimer ch) s fun t => (t.ch ch).retryDue = true ∧ t.drv ch = s.dev.drv ch) ∧
    (s.dev.now < (s.dev.ch ch).latchAt + 10000000 → Gives (.latchRetryTimer ch) s fun t => s.dev.Untouched t)) ∧
  (∀ (s : State) (ch : Fin 96), s.dev.running = true → s.dev.drv ch = 3 →
    ((s.dev.ch ch).litSince + 1000000000 ≤ s.dev.now →
      Gives (.retryPeriodClean ch) s fun t => t.nat (Obj.DRV_RETRY_USED ch) = 0 ∧ (t.ch ch).inRetry = false ∧ t.drv ch = 3 ∧
        (s.dev.latchedC 0x0106 ch = false → t.active 0x0106 ch = false)) ∧
    (s.dev.now < (s.dev.ch ch).litSince + 1000000000 → Gives (.retryPeriodClean ch) s fun t => s.dev.Untouched t)))

/-! ### Supervision -/

/-- The oldest pulse whose evidence closes, 200 us after its off-edge or at the next on-edge, is evaluated: it leaves the
pulses that are due, is stamped with the close, and is classified. A deviating pulse counts, keeps its reason, and with
the debounce full makes the channel observed dark with DARK_FAULT; a good or qualified one returns the deviating count
and proves continuity. A pulse of a channel commanded dark since changes no counter and no condition. A pulse after which
the gate-low current was seen is neutral and counts for SHORT. An E-interval of a channel in DC conduction is evaluated as
a pulse, and the next one begins where it ended. Which on-time a pulse that was cut is judged by is the model's reading
(log entry 26). -/
def Obligations.PulseEvidenceClassified : Prop :=
  (∀ (s : State) (ch : Fin 96) (ev : PulseEv) (p : PulseRec), s.dev.running = true → p.limits.rail < 8 →
    (s.dev.ch ch).due.find? (fun q => !q.eInt) = some p → (s.dev.ch ch).closeEdge p ≤ 32 * s.dev.now + 31 →
    (p.dark = false → p.lowSeen = false → gateLowFound p ev = false →
      Gives (.evidenceClose ch ev) s fun t => (t.ch ch).due = (s.dev.ch ch).due.erase p ∧
        t.nat (Obj.SUP_LAST_EVAL ch) = (s.dev.ch ch).closeEdge p / 32 ∧ t.nat (Obj.DRV_I_MEAN ch) = ev.iMean ∧
        s.dev.Classified t ch p ev) ∧
    (p.dark = true → p.lowSeen = false → gateLowFound p ev = false →
      Gives (.evidenceClose ch ev) s fun t => (t.ch ch).due = (s.dev.ch ch).due.erase p ∧
        t.nat (Obj.SUP_LAST_EVAL ch) = (s.dev.ch ch).closeEdge p / 32 ∧ t.rep = s.dev.rep ∧
        t.nat (Obj.SUP_DEV_COUNT ch) = s.dev.nat (Obj.SUP_DEV_COUNT ch) ∧
        t.nat (Obj.SUP_GOOD_COUNT ch) = s.dev.nat (Obj.SUP_GOOD_COUNT ch)) ∧
    (p.dark = false → p.lowSeen = true ∨ gateLowFound p ev = true →
      Gives (.evidenceClose ch ev) s fun t => (t.ch ch).due = (s.dev.ch ch).due.erase p ∧
        t.nat (Obj.SUP_DEV_COUNT ch) = s.dev.nat (Obj.SUP_DEV_COUNT ch) ∧
        t.nat (Obj.SUP_GOOD_COUNT ch) = s.dev.nat (Obj.SUP_GOOD_COUNT ch) ∧
        ((s.dev.ch ch).closeEdge p < p.offEdge + 640000 → (t.ch ch).gateLowRun = (s.dev.ch ch).gateLowRun + 1 ∧
          (p.limits.darkDeb ≤ (s.dev.ch ch).gateLowRun + 1 → t.active 0x0103 ch = true)))) ∧
  (∀ (s : State) (ch : Fin 96) (ev : PulseEv), s.dev.running = true →
    (∀ p, (s.dev.ch ch).due.find? (fun q => q.eInt && decide (q.offEdge ≤ 32 * s.dev.now + 31)) = some p → p.limits.rail < 8 →
      p.dark = false → p.lowSeen = false →
      Gives (.dcEIntervalEnd ch ev) s fun t => (t.ch ch).due = (s.dev.ch ch).due.erase p ∧
        t.nat (Obj.SUP_LAST_EVAL ch) = p.offEdge / 32 ∧ s.dev.Classified t ch p ev) ∧
    ((s.dev.ch ch).due.find? (fun q => q.eInt && decide (q.offEdge ≤ 32 * s.dev.now + 31)) = none → (s.dev.ch ch).dc = true →
      let p := (s.dev.ch ch).pulse
      p.offEdge ≤ 32 * s.dev.now + 31 → p.eInt = true → p.limits.rail < 8 → p.dark = false → p.lowSeen = false →
      Gives (.dcEIntervalEnd ch ev) s fun t => (t.ch ch).dc = true ∧ (t.ch ch).pulse.eInt = true ∧
        (t.ch ch).pulse.onEdge = p.offEdge ∧ (t.ch ch).pulse.riseItem = false ∧
        t.nat (Obj.SUP_LAST_EVAL ch) = p.offEdge / 32 ∧ s.dev.Classified t ch p ev))

/-- Dark evidence: the state of the OPEN_LO comparator is followed with the edge of its crossing, and a drain sample is
reported, referred to the drain by CH_DRAIN_RATIO, with its rail. A dark channel whose current has stood above OPEN_LO,
or whose drain has been grounded, for SUP_LIT_DEB_US of evidence that counts is lit when dark: LIT_FAULT, latched, with
the kind that lasted, observed lit, and its group is isolated where it has an isolator. The drains of a group isolated
for a fault are checked once, 20 ms after its isolator opened: not checked where a rail is below its range, gone where
every drain in use is below 10 % of its rail, and standing elsewhere. Which kind counts when both have lasted is the
model's choice (log entry 136), and the rounding of a drain voltage is free (log entry 8). -/
def Obligations.LitWhenDarkIsolates : Prop :=
  (∀ (s : State) (ch : Fin 96), s.dev.alive = true →
    (∀ sub : Fin 32, Gives (.darkOpenLoCrossing ⟨ch, sub⟩) s fun t => (t.ch ch).curHigh = true ∧
      (t.ch ch).curAt = (if (s.dev.ch ch).curHigh then (s.dev.ch ch).curAt else 32 * s.dev.now + sub)) ∧
    (Gives (.darkOpenLoFall ch) s fun t => (t.ch ch).curHigh = false) ∧
    (∀ uv rail : Nat, s.dev.nat (Obj.CH_RAIL ch) < 8 →
      let x := uv * s.dev.nat (Obj.CH_DRAIN_RATIO ch)
      Gives (.darkDrainSample ch uv rail) s fun t => x / 1000000 ≤ t.nat (Obj.DRV_V_DRAIN_DARK ch) ∧
        t.nat (Obj.DRV_V_DRAIN_DARK ch) ≤ x / 1000000 + (if x % 1000000 = 0 then 0 else 1) ∧
        t.nat (Obj.RAIL_MV (s.dev.nat (Obj.CH_RAIL ch))) = rail)) ∧
  (∀ (s : State) (ch : Fin 96),
    let d := s.dev.curSettle ch
    let deb := 100 * s.dev.pnat ch (Obj.SUP_LIT_DEB_US (s.dev.prof ch))
    s.dev.darkCounts ch = true → s.dev.active 0x0102 ch = false → d.currentLasted ch deb = true ∨ d.drainLasted ch deb = true →
    Gives (.litWhenDarkDebounce ch) s fun t => t.nat (Obj.SUP_OBSERVED ch) = 2 ∧ t.nat (Obj.SUP_VERDICT_TIME ch) = s.dev.now ∧
      (∃ c, t.cond 0x0102 ch = some c ∧ c.latched = true ∧ c.detail = (if d.currentLasted ch deb then 1 else 2)) ∧
      (s.dev.nat (Obj.GRP_ISO_USE (grpOf ch)) = 1 → (s.dev.gr (grpOf ch)).isoFault = false →
        t.nat (Obj.GRP_ISO_STATE (grpOf ch)) = 0 ∧ t.nat (Obj.GRP_ISO_CAUSE (grpOf ch)) = 2 ∧ t.iso (grpOf ch) = .low ∧
        ∀ n ∈ chansOf (grpOf ch), s.dev.drv n ≠ 7 → t.drv n = 6 ∧ t.gate n = .low) ∧
      (s.dev.nat (Obj.GRP_ISO_USE (grpOf ch)) = 0 → t.drv ch ≠ 2)) ∧
  (∀ (s : State) (g : Fin 24) (drains : List Nat), s.dev.alive = true → (s.dev.gr g).isoVerify = true →
    let rail := fun n => s.dev.nat (Obj.RAIL_MV (s.dev.nat (Obj.CH_RAIL n)))
    (s.dev.now < (s.dev.gr g).isoOpenAt + 2000000 → Gives (.isolationVerify g drains) s fun t => s.dev.Untouched t) ∧
    ((s.dev.gr g).isoOpenAt + 2000000 ≤ s.dev.now →
      ((∃ n ∈ chansOf g, s.dev.mode n ≠ 0 ∧ rail n < s.dev.nat (Obj.RAIL_MIN_MV (s.dev.nat (Obj.CH_RAIL n)))) →
        Gives (.isolationVerify g drains) s fun t => (t.gr g).isoVerify = false ∧ t.nat (Obj.GRP_ISO_VERIFY g) = 3) ∧
      ((∀ n ∈ chansOf g, s.dev.mode n ≠ 0 → s.dev.nat (Obj.RAIL_MIN_MV (s.dev.nat (Obj.CH_RAIL n))) ≤ rail n) →
        Gives (.isolationVerify g drains) s fun t => (t.gr g).isoVerify = false ∧
          ((∀ n ∈ chansOf g, s.dev.mode n ≠ 0 →
              10 * drains.getD (n % 4) 0 * s.dev.nat (Obj.CH_DRAIN_RATIO n) < rail n * 1000000) → t.nat (Obj.GRP_ISO_VERIFY g) = 1) ∧
          ((∃ n ∈ chansOf g, s.dev.mode n ≠ 0 ∧
              rail n * 1000000 ≤ 10 * drains.getD (n % 4) 0 * s.dev.nat (Obj.CH_DRAIN_RATIO n)) → t.nat (Obj.GRP_ISO_VERIFY g) = 2))))

/-- A probe of a dark channel that falls due, and is not suppressed, turns the gate on at its placed edge; it ends at its
OPEN_LO crossing within 3.0 us, which proves continuity, or unproven after them, and enough failures in a row raise OPEN.
A warming pulse ends at its width: a crossing of OPEN_LO proves continuity, enough pulses without one raise OPEN, and the
next is at most 1.25 times as wide, within W_max, and such that at the current seen the mean is the warming current
within 5 %. An optical window that closes shows its amplitude and its state. Which width within the 5 % is free (log entry
9). -/
def Obligations.DarkProvingCounts : Prop :=
  ((∀ (s : State) (ch : Fin 96), s.dev.running = true → s.dev.drv ch = 1 → (s.dev.ch ch).probeOpen = false →
    (s.dev.ch ch).pulseOpen = false → (s.dev.nat (Obj.GRP_ISO_USE (grpOf ch)) = 0 → s.dev.active 0x0102 ch = false) →
    s.dev.pnat ch (Obj.PF_PROBE_ALLOWED (s.dev.prof ch)) = 1 → s.dev.pnat ch (Obj.SUP_PROBE_HZ (s.dev.prof ch)) ≠ 0 →
    s.dev.probeFrame ch = true → s.dev.onEdgeAt ch / 32 = s.dev.now → (s.dev.ch ch).placed ≠ some (s.dev.onEdgeAt ch) →
    s.dev.pnat ch (Obj.PF_RAIL_REQ (s.dev.prof ch)) ≤ s.dev.nat (Obj.RAIL_MV (s.dev.nat (Obj.CH_RAIL ch))) →
    s.dev.isoOpen (grpOf ch) = false → (s.dev.ch ch).settleEnd ≤ s.dev.now → s.dev.pathHeld 5 ch = false →
    Gives (.probeDue ch) s fun t => t.gate ch = .high ∧ (t.ch ch).probeOpen = true ∧ (t.ch ch).probeAt = s.dev.onEdgeAt ch ∧
      t.drv ch = 1) ∧
  (∀ (s : State) (ch : Fin 96), s.dev.running = true → (s.dev.ch ch).probeOpen = true →
    (32 * s.dev.now ≤ (s.dev.ch ch).probeAt + 9600 →
      Gives (.probeEnd ch true) s fun t => t.gate ch = .low ∧ (t.ch ch).probeOpen = false ∧ (t.ch ch).probeFails = 0 ∧
        (t.ch ch).suspendEnd = s.dev.now + 2000 ∧ t.nat (Obj.SUP_CONTINUITY ch) = 1) ∧
    (∀ crossed : Bool, (crossed = true → (s.dev.ch ch).probeAt + 9600 < 32 * s.dev.now) →
      (s.dev.ch ch).probeAt + 9600 ≤ 32 * s.dev.now + 31 →
      Gives (.probeEnd ch crossed) s fun t => t.gate ch = .low ∧ (t.ch ch).probeOpen = false ∧
        (t.ch ch).probeFails = (s.dev.ch ch).probeFails + 1 ∧ (t.ch ch).suspendEnd = s.dev.now + 2000 ∧
        (s.dev.pnat ch (Obj.SUP_PROBE_DEB (s.dev.prof ch)) ≤ (s.dev.ch ch).probeFails + 1 →
          t.nat (Obj.SUP_CONTINUITY ch) = 2 ∧ t.active 0x0104 ch = true)) ∧
    (32 * s.dev.now + 31 < (s.dev.ch ch).probeAt + 9600 → Gives (.probeEnd ch false) s fun t => s.dev.Untouched t)) ∧
  (∀ (s : State) (ch : Fin 96) (crossed : Bool) (mean : Nat), s.dev.running = true → (s.dev.ch ch).warmOpen = true →
    let w := (s.dev.ch ch).warmWidth
    let want := s.dev.pnat ch (Obj.PF_WARM_CURRENT (s.dev.prof ch))
    let cap := min (5 * w / 4) (s.dev.warmMax ch)
    (32 * s.dev.now + 31 < (s.dev.ch ch).startAt + w → Gives (.warmingPulseJudge ch crossed mean) s fun t => s.dev.Untouched t) ∧
    ((s.dev.ch ch).startAt + w ≤ 32 * s.dev.now + 31 →
      Gives (.warmingPulseJudge ch crossed mean) s fun t => t.gate ch = .low ∧ (t.ch ch).warmOpen = false ∧
        (t.ch ch).suspendEnd = s.dev.now + 2000 ∧
        (mean = 0 → (t.ch ch).warmWidth = cap) ∧
        (mean ≠ 0 → (t.ch ch).warmWidth ≤ max 1 (min cap (w * 105 * want / (100 * mean))) ∧
          min (min cap (w * 105 * want / (100 * mean))) (w * 95 * want / (100 * mean)) ≤ (t.ch ch).warmWidth) ∧
        (if crossed then (t.ch ch).warmFails = 0 ∧ t.nat (Obj.SUP_CONTINUITY ch) = 1
        else (t.ch ch).warmFails = (s.dev.ch ch).warmFails + 1 ∧
          (s.dev.pnat ch (Obj.SUP_DARK_DEB (s.dev.prof ch)) ≤ (s.dev.ch ch).warmFails + 1 →
            t.nat (Obj.SUP_CONTINUITY ch) = 2 ∧ t.active 0x0104 ch = true))))) ∧
  (∀ (s : State) (ch : Fin 96) (ev : OpticalEv), s.dev.running = true → s.dev.mode ch ≠ 0 →
    s.dev.nat (Obj.SUP_FF_INPUT ch) ≠ 0xFF →
    let p := s.dev.prof ch
    let c := s.dev.ch ch
    let due := c.optSince + s.dev.pnat ch (Obj.SUP_OPT_FRAMES p)
    (due ≤ s.dev.nat (Obj.GRP_FRAME_COUNT (grpOf ch)) →
      Gives (.opticalWindowClose ch ev) s fun t => t.nat (Obj.SUP_OPT_NA ch) = ev.na ∧ (t.ch ch).optSince = due ∧
        t.nat (Obj.SUP_OPT_STATE ch) =
          (if 2 * c.optFrames < s.dev.pnat ch (Obj.SUP_OPT_FRAMES p) ∨ ev.overload = true ∨ ev.illConditioned = true ∨
              c.lit = false ∨ c.optAt < c.litCmdAt then 3
          else if s.dev.pnat ch (Obj.SUP_OPT_MIN_PM p) * s.dev.nat (Obj.SUP_OPT_REF_NA ch) * ev.iMean ≤
              ev.na * 1000 * s.dev.pnat ch (Obj.PF_I_NOM p) then 1 else 2)) ∧
    (s.dev.nat (Obj.GRP_FRAME_COUNT (grpOf ch)) < due → Gives (.opticalWindowClose ch ev) s fun t => s.dev.Untouched t))

/-- Optical evidence never raises and never clears LIT_FAULT. -/
def Obligations.OpticalNeverTouchesLitFault : Prop :=
  ∀ (s t : State) (ch : Fin 96) (ev : OpticalEv) (n : Nat), exec (.opticalWindowClose ch ev) s = .next t →
    t.dev.cond 0x0102 n = s.dev.cond 0x0102 n

/-! ### Life of the lamps, measurements and field inputs -/

/-- The life records of the channels in use take up the conduction of each second: lit time in full, equivalent time
weighted, fractions of a millisecond carried forward. Derating is renewed every 100 ms: 1000 without a slope or a
thermistor, of a lit channel down at once to what the temperature gives and up by at most 10. Each day of powered time
the calibration windows begin anew, and a channel with enough of them moves its calibration a quarter of the way. Group
measurements, every 10 ms: the thermistor's temperature with its status, and the kelvin ground. The rounding of
temperatures, weights and factors is the model's (log entry 8), and that an invalid reading keeps the last one is its
reading (log entry 35). -/
def Obligations.LifeTimersRenew : Prop :=
  ((∀ s : State, s.dev.alive = true → s.dev.op = .operating → s.dev.power.lifeSec < s.dev.now / 100000000 →
    Gives .lifeUpdateSecond s fun t => t.power.lifeSec = s.dev.now / 100000000 ∧
      ∀ n, n < 96 → s.dev.mode n ≠ 0 → (s.dev.lf n).onTime ≠ 0 →
        let lit := (s.dev.lf n).fracLit + (s.dev.lf n).onTime
        let eq := (s.dev.lf n).fracEq + (s.dev.lf n).onTime * s.dev.lifeWeight n
        (t.lf n).onTime = 0 ∧ (t.lf n).onCharge = 0 ∧ (t.lf n).fracLit = lit % 3200000 ∧ (t.lf n).fracEq = eq % (3200000 * fxOne) ∧
        (s.dev.nat (Obj.LIFE_LIT_MS n) + lit / 3200000 < 2 ^ 64 →
          t.nat (Obj.LIFE_LIT_MS n) = s.dev.nat (Obj.LIFE_LIT_MS n) + lit / 3200000) ∧
        (s.dev.nat (Obj.LIFE_EQ_MS n) + eq / (3200000 * fxOne) < 2 ^ 64 →
          t.nat (Obj.LIFE_EQ_MS n) = s.dev.nat (Obj.LIFE_EQ_MS n) + eq / (3200000 * fxOne))) ∧
  (∀ s : State, s.dev.alive = true → s.dev.op = .operating → s.dev.power.derateAt < s.dev.now / 10000000 →
    Gives .deratingUpdate s fun t => t.power.derateAt = s.dev.now / 10000000 ∧
      ∀ n, n < 96 →
        let p := s.dev.prof n
        let slope := s.dev.pnat n (Obj.LF_DERATE_SLOPE p)
        let st := s.dev.nat (Obj.GRP_NTC_STATUS (n / 4))
        let rs := (s.dev.lf n).readings
        let want := max (derateRaw slope (s.dev.pnum n (Obj.LF_KNEE p)) (rs.foldl (· + ·) 0) rs.length)
          (s.dev.pnat n (Obj.LF_DERATE_FLOOR_PM p))
        let cur := s.dev.nat (Obj.LIFE_DERATE_PM n)
        (slope = 0 ∨ st = 3 → t.nat (Obj.LIFE_DERATE_PM n) = 1000) ∧
        (slope ≠ 0 → st = 0 → s.dev.mode n ≠ 0 → (s.dev.ch n).lit = true → rs ≠ [] →
          t.nat (Obj.LIFE_DERATE_PM n) = (if want < cur then want else min want (cur + 10)))) ∧
  (∀ s : State, s.dev.alive = true → s.dev.op = .operating → s.dev.power.calDay < s.dev.nat Obj.POWERED_TIME_S / 86400 →
    Gives .recalibrationDay s fun t => t.power.calDay = s.dev.nat Obj.POWERED_TIME_S / 86400 ∧
      ∀ n, n < 96 → (t.lf n).winCount = 0 ∧ (t.lf n).winSum = 0 ∧
        let l := s.dev.lf n
        let a := s.dev.pnat n (Obj.LF_ALPHA_PPB_H (s.dev.prof n))
        let h := s.dev.nat (Obj.LIFE_EQ_MS n)
        (s.dev.mode n ≠ 0 → s.dev.pnat n (Obj.LF_CAL_ENABLE (s.dev.prof n)) = 1 → 64 ≤ l.winCount → 0 < l.winSum →
          l.winSum < fxOne * l.winCount → 1800000000 ≤ h → 0 < a →
          t.nat (Obj.LIFE_CAL_PM n) = nextCal (s.dev.nat (Obj.LIFE_CAL_PM n)) l.winSum l.winCount a h))) ∧
  ((∀ (s : State) (g : Fin 24) (ohm : Nat), s.dev.alive = true → lookD 0 s.dev.power.ntcAt g < s.dev.now / 1000000 →
    Gives (.ntcConversion g ohm) s fun t =>
      let x := ntcTemp ohm (s.dev.nat (Obj.GRP_NTC_RES25 g)) (s.dev.nat (Obj.GRP_NTC_BETA g))
      if s.dev.nat (Obj.GRP_NTC_USE g) = 0 then t.nat (Obj.GRP_NTC_STATUS g) = 3
      else t.nat (Obj.GRP_NTC_STATUS g) = x.1 ∧
        (x.1 = 0 → t.num (Obj.GRP_NTC_TEMP g) = x.2 ∧
          ∀ n ∈ chansOf g, t.num (Obj.LIFE_T_LAMP n) = x.2 + s.dev.pnum n (Obj.LF_NTC_OFFSET (s.dev.prof n)))) ∧
  (∀ (s : State) (g : Fin 24) (mv : Int), s.dev.alive = true → lookD 0 s.dev.power.kgndAt g < s.dev.now / 1000000 →
    Gives (.kgndMeasurement g mv) s fun t => t.num (Obj.GRP_KGND_MV g) = clampInt (-32768) 32767 mv))

/-- A raw edge of a used input opens its debounce window and is journalled; a window that closes on the tick of the edge
is taken first. Once the window has lasted the debounce time without a further edge, the state is taken, stamped with
the edge that opened the window and counted. An input is unknown until its debounce time has passed without an edge. An
input of which the wire breaks is inactive with OPEN on it; when the break is over, OPEN is cleared and the input takes
its raw state where no window is open. The state an input takes when its wire mends is the model's reading (log entry
113). -/
def Obligations.FieldInputsDebounced : Prop :=
  ((∀ (s : State) (k : Fin 32) (on : Bool), s.dev.alive = true → s.dev.finUsed k = true →
    (Gives (.finRawEdge k on) s fun t => (t.fi k).rawOn = on ∧ (t.fi k).windowAt = some s.dev.now) ∧
    ((∀ w, (s.dev.fi k).windowAt = some w → s.dev.now < w + s.dev.finSpan k) →
      Gives (.finRawEdge k on) s fun t => (t.fi k).on = (s.dev.fi k).on) ∧
    (∀ w, (s.dev.fi k).windowAt = some w → w + s.dev.finSpan k ≤ s.dev.now → (s.dev.fi k).unknown = false →
      (s.dev.fi k).broken = false → Gives (.finRawEdge k on) s fun t => (t.fi k).on = s.dev.finTaken k)) ∧
  (∀ (s : State) (k : Fin 32) (w : Nat), s.dev.alive = true → s.dev.finUsed k = true → (s.dev.fi k).windowAt = some w →
    (w + s.dev.finSpan k ≤ s.dev.now → (s.dev.fi k).unknown = false → (s.dev.fi k).broken = false →
      s.dev.nat (Obj.FIN_EDGE_COUNT k) + 1 < counterMod (Obj.FIN_EDGE_COUNT k) →
      Gives (.finDebounceExpiry k) s fun t => (t.fi k).windowAt = none ∧ (t.fi k).on = s.dev.finTaken k ∧
        (s.dev.finTaken k ≠ (s.dev.fi k).on → t.nat (Obj.FIN_LAST_EDGE k) = w ∧
          t.nat (Obj.FIN_EDGE_COUNT k) = s.dev.nat (Obj.FIN_EDGE_COUNT k) + 1)) ∧
    (s.dev.now < w + s.dev.finSpan k → Gives (.finDebounceExpiry k) s fun t => s.dev.Untouched t)) ∧
  (∀ (s : State) (k : Fin 32), s.dev.alive = true → s.dev.finUsed k = true → (s.dev.fi k).unknown = true →
    s.dev.op = .kindled ∨ s.dev.op = .operating → (s.dev.fi k).changeAt + s.dev.finSpan k ≤ s.dev.now →
    Gives (.finUnknownEnd k) s fun t => (t.fi k).unknown = false ∧
      (t.fi k).on = (!(s.dev.fi k).broken && s.dev.finTaken k))) ∧
  ((∀ (s : State) (k : Fin 32), s.dev.alive = true → s.dev.finUsed k = true → s.dev.nat (Obj.FIN_BREAK_UA k) ≠ 0 →
    (s.dev.fi k).broken = false →
    Gives (.finBreakEnter k) s fun t => (t.fi k).broken = true ∧ (t.fi k).on = false ∧ (t.fi k).windowAt = none ∧
      t.active 0x0104 (finSource k) = true) ∧
  (∀ (s : State) (k : Fin 32), s.dev.alive = true → s.dev.finUsed k = true → (s.dev.fi k).broken = true →
    Gives (.finBreakExit k) s fun t => (t.fi k).broken = false ∧ t.active 0x0104 (finSource k) = false ∧
      (t.fi k).on = ((s.dev.fi k).windowAt.isNone && s.dev.finTaken k)))

/-- What a command of a field input leaves as it was: every lamp channel, the levels but those the output stage shows,
every other input, and of the objects all but the input's own and those that reports count in. -/
def Obligations.FieldInputFrame : Prop :=
  ∀ (s t : State) (k : Fin 32) (b : Bool) (i : Instr),
    i ∈ [Instr.finRawEdge k b, .finDebounceExpiry k, .finBreakEnter k, .finBreakExit k, .finUnknownEnd k] →
    exec i s = .next t →
    t.pending = s.pending ∧ t.dev.chan = s.dev.chan ∧ t.dev.lanes = s.dev.lanes ∧ t.dev.grants = s.dev.grants ∧ t.dev.op = s.dev.op ∧
    t.dev.ember = s.dev.ember ∧ t.dev.power = s.dev.power ∧ t.dev.admin = s.dev.admin ∧ t.dev.cfg = s.dev.cfg ∧
    (∀ j, j ≠ k.val → t.dev.fi j = s.dev.fi j) ∧ s.dev.SameElse t.dev fun key => key / 256 == 0x2610 + k.val

/-! ### Glowworm strings and the desk matrix -/

/-- A frame of a glowworm port that is due and complete counts and is sent: the front buffer, taken from the back buffer
where a swap is due, each byte under its scale, with the check word of a supervised port, which then awaits its return.
A return is judged by its bits, its word and its delay, and the runs of its outcomes raise OPEN or WRONG_TYPE and clear
them after 16 good ones. A frame of the matrix that is due starts with its first slot, and each slot shows its row and
the columns of its lit indicators. A first MSYNC edge of the chosen polarity is the reference, a later one within 10 % of
the nominal period sets the next frame start once the matrix follows, one further off does not, and with none for twice
the nominal period the matrix runs free. The outcome of a check word that is late and wrong at once is the model's (log
entry 41). -/
def Obligations.EffectsFramesAndSlots : Prop :=
  ((∀ (s : State) (k : Fin 8), s.dev.alive = true → s.dev.effectsOn = true → s.dev.nat (Obj.GW_MODE k) ≠ 0 →
    onGrid (s.dev.nat (Obj.GW_FRAME_HZ k)) s.dev.now = true →
    s.dev.nat (Obj.GW_FRAME_COUNT k) + 1 < counterMod (Obj.GW_FRAME_COUNT k) →
    let p := s.dev.port k
    let front := if swapDue p.swapAt s.dev.now then s.dev.bytesOf (Obj.GW_DATA k) else p.front
    let data := (resize (s.dev.nat (Obj.GW_NODES k) * s.dev.nat (Obj.GW_NODE_BITS k) / 8) front).map (s.dev.gwScale k)
    let check := if s.dev.nat (Obj.GW_MODE k) = 2 then
      p.seq % 65536 * 2 ^ 48 + s.dev.nat (Obj.GW_NODES k) * 2 ^ 32 + crc32c data else 0
    Gives (.gwFrameStart ⟨k, true⟩) s fun t => t.sent = s.dev.sent ++ [.gw k data check] ∧ (t.port k).front = front ∧
      (t.port k).awaiting = (s.dev.nat (Obj.GW_MODE k) == 2) ∧ (t.port k).seq = (p.seq + 1) % 65536 ∧
      t.nat (Obj.GW_FRAME_COUNT k) = s.dev.nat (Obj.GW_FRAME_COUNT k) + 1) ∧
  (∀ (s : State) (k : Fin 8) (r : GwReturn), s.dev.alive = true → (s.dev.port k).awaiting = true →
    s.dev.pathHeld 3 k = false →
    let o := match r with
      | .nothing => 2
      | .word bits value delay =>
        let inWin := decide (s.dev.gwDelay k ≤ 2 * delay) && decide (2 * delay ≤ 3 * s.dev.gwDelay k + 4000)
        if bits = 64 ∧ value = (s.dev.port k).check then (if inWin then 1 else 4) else if inWin then 3 else 2
    let deb := s.dev.nat (Obj.GW_DEB k)
    Gives (.gwReturnJudge k r) s fun t => (t.port k).awaiting = false ∧ t.nat (Obj.GW_SUP_STATE k) = o ∧
      (t.port k).good = (if o = 1 then (s.dev.port k).good + 1 else 0) ∧
      (t.port k).noReturn = (if o = 2 then (s.dev.port k).noReturn + 1 else 0) ∧
      (t.port k).mismatch = (if o = 3 ∨ o = 4 then (s.dev.port k).mismatch + 1 else 0) ∧
      (o = 2 → deb ≤ (s.dev.port k).noReturn + 1 → t.active 0x0104 (gwSource k) = true) ∧
      (o = 3 ∨ o = 4 → deb ≤ (s.dev.port k).mismatch + 1 → t.active 0x010A (gwSource k) = true) ∧
      (o = 1 → 15 ≤ (s.dev.port k).good → t.active 0x0104 (gwSource k) = false ∧ t.active 0x010A (gwSource k) = false))) ∧
  ((∀ s : State, s.dev.alive = true → s.dev.effectsOn = true → s.dev.nat Obj.MX_ROWS ≠ 0 → s.dev.mxFrameDue = true →
    s.dev.mx.ready = true → s.dev.nat Obj.MX_FRAME_COUNT + 1 < counterMod Obj.MX_FRAME_COUNT →
    Gives .mxFrameStart s fun t => t.mx.frameOpen = true ∧ t.mx.slot = 0 ∧ t.mx.frameAt = s.dev.now ∧
      t.mx.rows = s.dev.nat Obj.MX_ROWS ∧ t.mx.cols = s.dev.nat Obj.MX_COLS ∧
      t.mx.front = (if swapDue s.dev.mx.swapAt s.dev.now then (List.range 16).map fun r => s.dev.bytesOf (Obj.MX_ROW r)
        else s.dev.mx.front) ∧
      t.nat Obj.MX_FRAME_COUNT = s.dev.nat Obj.MX_FRAME_COUNT + 1) ∧
  (∀ (s : State) (currents : List Nat) (ready : Bool), s.dev.alive = true → s.dev.darkened = false → s.dev.effectsOn = true →
    s.dev.mx.frameOpen = true → s.dev.mx.slot < s.dev.mx.rows →
    s.dev.mx.frameAt + s.dev.mx.slot * (s.dev.mx.period * 32 / s.dev.mx.rows) / 32 ≤ s.dev.now →
    Gives (.mxSlotStart ⟨currents, ready⟩) s fun t => t.mx.ready = ready ∧ t.outs.mxRow = some s.dev.mx.slot ∧ t.mx.slot = s.dev.mx.slot + 1 ∧
      (t.mx.frameOpen = true ↔ s.dev.mx.slot + 1 < s.dev.mx.rows) ∧
      t.outs.mxCols = (List.range s.dev.mx.cols).filter fun c =>
        decide (0 < ((s.dev.mx.front.getD s.dev.mx.slot []).getD c 0).toNat))) ∧
  ((∀ (s : State) (rising : Bool), s.dev.alive = true → s.dev.effectsOn = true →
    s.dev.nat Obj.MX_SYNC = (if rising then 1 else 2) →
    (s.dev.mx.edgeAt = none → Gives (.msyncEdge rising) s fun t => t.mx.edgeAt = some s.dev.now ∧ t.mx.edgeRun = 0) ∧
    (∀ e : Nat, s.dev.mx.edgeAt = some e →
      let span := (s.dev.now - e) * s.dev.nat Obj.MX_FRAME_HZ * 10
      (span < 900000000 → Gives (.msyncEdge rising) s fun t => s.dev.Untouched t) ∧
      (1100000000 < span → Gives (.msyncEdge rising) s fun t => t.mx.edgeAt = some s.dev.now ∧ t.mx.edgeRun = 0) ∧
      (900000000 ≤ span → span ≤ 1100000000 →
        Gives (.msyncEdge rising) s fun t => t.mx.edgeAt = some s.dev.now ∧ t.mx.edgeRun = s.dev.mx.edgeRun + 1 ∧
          (s.dev.mx.lostOnce = false ∨ 3 ≤ s.dev.mx.edgeRun ∨ s.dev.nat Obj.MX_SYNC_STATE = 1 →
            t.nat Obj.MX_SYNC_STATE = 1 ∧ t.nat Obj.MX_PERIOD_TICKS = s.dev.now - e ∧
            t.mx.startAt = some (s.dev.now + s.dev.nat Obj.MX_SYNC_OFFSET_US * 100))))) ∧
  (∀ s : State, s.dev.alive = true → s.dev.effectsOn = true → s.dev.nat Obj.MX_SYNC ≠ 0 → s.dev.nat Obj.MX_SYNC_STATE ≠ 2 →
    s.dev.mx.edgeAt.getD 0 + 2 * s.dev.mxNominal ≤ s.dev.now →
    Gives .msyncLoss s fun t => t.nat Obj.MX_SYNC_STATE = 2 ∧ t.mx.startAt = none ∧ t.mx.lostOnce = true ∧ t.mx.edgeRun = 0))

/-! ### Frame boundaries and signal groups -/

/-- A boundary whose next buffer is incomplete repeats the frame as it was and counts the underrun; the second in a
row on a cricket halts with cause 0x0006 and the cricket's number. So do frames of the glowworm strings, on K32, which
repeat the frame sent before, and of the matrix, on K33. -/
def Obligations.UnderrunRepeatsThenHalts : Prop :=
  (∀ (s : State) (g : Fin 24) (means : List (Option Nat)), s.dev.alive = true → s.dev.op = .kindled ∨ s.dev.op = .operating →
    (s.dev.gr g).next ≤ s.dev.now →
    (lookD 0 s.dev.guard.under g = 0 → s.dev.nat (Obj.CRK_UNDERRUN_COUNT g) + 1 < counterMod (Obj.CRK_UNDERRUN_COUNT g) →
      Gives (.groupFrameBoundary g false means) s fun t =>
      t.chan = s.dev.chan ∧ t.grants = s.dev.grants ∧ t.op = s.dev.op ∧ (∀ n, n < 96 → t.drv n = s.dev.drv n) ∧
      (s.dev.darkened = false → t.outs.gate = s.dev.outs.gate) ∧ lookD 0 t.guard.under g = 1 ∧
      t.nat (Obj.CRK_UNDERRUN_COUNT g) = s.dev.nat (Obj.CRK_UNDERRUN_COUNT g) + 1) ∧
    (1 ≤ lookD 0 s.dev.guard.under g → Gives (.groupFrameBoundary g false means) s fun t => s.dev.HaltsInto t 6 g)) ∧
  (∀ (s : State) (k : Fin 8), s.dev.alive = true → s.dev.effectsOn = true → s.dev.nat (Obj.GW_MODE k) ≠ 0 →
    onGrid (s.dev.nat (Obj.GW_FRAME_HZ k)) s.dev.now = true →
    (lookD 0 s.dev.guard.under 32 = 0 → s.dev.nat (Obj.CRK_UNDERRUN_COUNT 32) + 1 < counterMod (Obj.CRK_UNDERRUN_COUNT 32) →
      Gives (.gwFrameStart ⟨k, false⟩) s fun t => t.sent = s.dev.sent ++ [.gw k (s.dev.port k).last (s.dev.port k).check] ∧
        lookD 0 t.guard.under 32 = 1 ∧ (t.port k).front = (s.dev.port k).front ∧ (t.port k).swapAt = (s.dev.port k).swapAt ∧
        t.nat (Obj.CRK_UNDERRUN_COUNT 32) = s.dev.nat (Obj.CRK_UNDERRUN_COUNT 32) + 1) ∧
    (1 ≤ lookD 0 s.dev.guard.under 32 → Gives (.gwFrameStart ⟨k, false⟩) s fun t => s.dev.HaltsInto t 6 32)) ∧
  (∀ s : State, s.dev.alive = true → s.dev.effectsOn = true → s.dev.nat Obj.MX_ROWS ≠ 0 → s.dev.mxFrameDue = true →
    s.dev.mx.ready = false → (lookD 0 s.dev.guard.under 33 = 0 → s.dev.nat (Obj.CRK_UNDERRUN_COUNT 33) + 1 < counterMod (Obj.CRK_UNDERRUN_COUNT 33) →
      Gives .mxFrameStart s fun t => t.mx.front = s.dev.mx.front ∧ t.mx.swapAt = s.dev.mx.swapAt ∧ t.mx.frameOpen = true ∧
        lookD 0 t.guard.under 33 = 1 ∧ t.nat (Obj.CRK_UNDERRUN_COUNT 33) = s.dev.nat (Obj.CRK_UNDERRUN_COUNT 33) + 1) ∧
    (1 ≤ lookD 0 s.dev.guard.under 33 → Gives .mxFrameStart s fun t => s.dev.HaltsInto t 6 33))

/-- A boundary whose buffer is ready begins a frame that ends on the group's grid, and is counted; writes granted
before it take effect there, of one object the last one; between boundaries nothing changes. That a boundary which comes
late begins its frame at its own instant is the model's reading (log entry 23). That a command which cannot act changes
nothing is the model's choice (log entry 17). -/
def Obligations.FrameBoundaryApplies : Prop :=
  (∀ (s : State) (g : Fin 24) (means : List (Option Nat)), s.dev.alive = true → s.dev.op = .kindled →
    s.dev.cfg.switch = none → s.dev.grants = [] → s.dev.now = (s.dev.gr g).next → (s.dev.gr g).moved = false →
    (s.dev.gr g).gridPeriod = s.dev.nat (Obj.GRP_PERIOD_TICKS g) →
    s.dev.nat (Obj.GRP_FRAME_COUNT g) + 1 < counterMod (Obj.GRP_FRAME_COUNT g) →
    let pe := 32 * s.dev.nat (Obj.GRP_PERIOD_TICKS g)
    let e := 32 * s.dev.now + (s.dev.gr g).nextSub
    let shift : Int := if s.dev.nat (Obj.GRP_RING_LOCK g) = 1 ∧ s.dev.isMember then s.dev.ring.offset else 0
    Gives (.groupFrameBoundary g true means) s fun t =>
      t.nat (Obj.GRP_FRAME_COUNT g) = s.dev.nat (Obj.GRP_FRAME_COUNT g) + 1 ∧ t.nat (Obj.GRP_LAST_BOUNDARY g) = s.dev.now ∧
      t.nat (Obj.GRP_SEAM_COUNT g) = s.dev.nat (Obj.GRP_SEAM_COUNT g) ∧
      lookD 0 t.guard.under g = 0 ∧ (t.gr g).sub = (s.dev.gr g).nextSub ∧ (t.gr g).frameEdges = pe ∧
      e + pe / 2 ≤ 32 * (t.gr g).next + (t.gr g).nextSub ∧
      (pe ≠ 0 → 32 * (t.gr g).next + (t.gr g).nextSub < e + pe / 2 + pe ∧
        ((32 * (t.gr g).next + (t.gr g).nextSub : Nat) + shift) % (pe : Int) = 0)) ∧
  (∀ (s : State) (means : List (Option Nat)) (v w c e a b : Nat), s.dev.alive = true → s.dev.op = .kindled →
    s.dev.cfg.switch = none → (s.dev.gr 0).next ≤ s.dev.now → a < s.dev.now → b < s.dev.now →
    s.dev.grants = [⟨Obj.CAL_NOW, .num v, c, a, false⟩, ⟨Obj.CAL_NOW, .num w, e, b, false⟩] →
    Gives (.groupFrameBoundary 0 true means) s fun t =>
      t.nat Obj.CAL_NOW = w ∧ t.nat Obj.CAL_VALID = 1 ∧ t.power.calTick = 0 ∧ t.grants = []) ∧
  (∀ (s : State) (means : List (Option Nat)) (v c a : Nat), s.dev.alive = true → s.dev.op = .kindled →
    s.dev.cfg.switch = none → (s.dev.gr 0).next ≤ s.dev.now → s.dev.now ≤ a →
    s.dev.grants = [⟨Obj.CAL_NOW, .num v, c, a, false⟩] →
    Gives (.groupFrameBoundary 0 true means) s fun t => t.grants = s.dev.grants ∧ t.nat Obj.CAL_NOW = s.dev.nat Obj.CAL_NOW) ∧
  (∀ (s : State) (g : Fin 24) (c : Bool) (means : List (Option Nat)), s.dev.now < (s.dev.gr g).next →
    s.dev.nat (Obj.GRP_LAST_BOUNDARY 0) ≠ s.dev.now →
    Gives (.groupFrameBoundary g c means) s fun t => s.dev.Untouched t)

/-- A request of a signal group is granted at once, or in the closing 2.0 us of its frame at the boundary that ends it,
and waits with the instant of its grant; of a ring signal group it becomes, at its grant, a commit with the next sequence
number, the lead after ring time, or after the insertion window that withholds it. A signal group of a block whose lanes
have been silent for SG_SAFE_DELAY_MS awaits its safe aspect, of which a ring master commits that of a ring signal group.
What a second silence does is the model's reading (log entry 39). That a command which cannot act changes nothing is the
model's choice (log entry 17). -/
def Obligations.SignalGroupsWait : Prop :=
  (∀ (s : State) (o : Origin) (sg : Fin 32) (a : Fin 256),
    Accepted (.sgRequest o sg a) s o (Obj.SG_REQUEST sg) (leBytes 1 a) fun u t =>
      let at' := u.grantInstant (u.sgGroup sg)
      t.nat (Obj.SG_REQUEST sg) = a ∧ t.grants = u.grants ∧
      (u.nat (Obj.SG_RING sg) ≠ 1 ∨ at' ≠ u.now →
        (t.sgp sg).request = (u.sgp sg).request ++ [(a.val, at')] ∧ (t.sgp sg).commits = (u.sgp sg).commits ∧
        t.nat (Obj.SG_PENDING sg) = (if at' = u.now then a.val else u.nat (Obj.SG_PENDING sg))) ∧
      (u.nat (Obj.SG_RING sg) = 1 → at' = u.now →
        let T := (if u.ringMaster && u.withholds then u.windowEnd else u.ringTime) + 100 * u.nat (Obj.SG_RING_LEAD_US sg)
        let q := (u.nat (Obj.SG_COMMIT_SEQ sg) + 1) % 2 ^ 32
        (t.sgp sg).request = (u.sgp sg).request ∧ (t.sgp sg).commits = (u.sgp sg).commits ++ [(a.val, T, q)] ∧
        t.nat (Obj.SG_PENDING sg) = a ∧ t.nat (Obj.SG_COMMIT_INSTANT sg) = T ∧ t.nat (Obj.SG_COMMIT_SEQ sg) = q)) ∧
  (∀ (s : State) (g : Fin 32) (t0 : Nat), s.dev.alive = true → s.dev.op = .operating → s.dev.sgUsed g = true →
    (s.dev.sgp g).delayDone = false → s.dev.silentSince = some t0 →
    let due := t0 + 100000 * s.dev.nat (Obj.SG_SAFE_DELAY_MS g)
    (due ≤ s.dev.now → ¬ (s.dev.ringMaster = true ∧ s.dev.nat (Obj.SG_RING g) = 1) →
      Gives (.safeAspectDelay g) s fun t =>
        (t.sgp g).safe = some (if s.dev.isMember then 3 else 2, s.dev.now) ∧ (t.sgp g).delayDone = true ∧
        ∀ m, m ≠ g.val → t.sgp m = s.dev.sgp m) ∧
    (due ≤ s.dev.now → s.dev.ringMaster = true → s.dev.nat (Obj.SG_RING g) = 1 →
      let T := (if s.dev.withholds then s.dev.windowEnd else s.dev.ringTime) + 100 * s.dev.nat (Obj.SG_RING_LEAD_US g)
      Gives (.safeAspectDelay g) s fun t => (t.sgp g).safe = some (2, T) ∧ (t.sgp g).delayDone = true ∧
        t.nat (Obj.SG_PENDING g) = s.dev.nat (Obj.SG_SAFE_ASPECT g) ∧ t.nat (Obj.SG_COMMIT_INSTANT g) = T ∧
        t.nat (Obj.SG_COMMIT_SEQ g) = (s.dev.nat (Obj.SG_COMMIT_SEQ g) + 1) % 2 ^ 32 ∧
        ∀ m, m ≠ g.val → t.sgp m = s.dev.sgp m) ∧
    (s.dev.now < due → Gives (.safeAspectDelay g) s fun t => s.dev.Untouched t))

/-! ### Clocks, watchdog and tempo -/

/-- A reference-derived cricket that loses lock after KINDLED halts the block, and the loss is shown and counted; in
HALT-SAFE and elsewhere it is shown and counted alone. K37 and K38 are not reference-derived. That a command which
cannot act changes nothing is the model's choice (log entry 17). -/
def Obligations.CricketLockLossHalts : Prop :=
  ∀ (s : State) (k : Fin 40), s.dev.power.inReset = false →
    (k.val ≠ 37 → k.val ≠ 38 → s.dev.kindledPast = true →
      s.dev.nat (Obj.CRK_LOCK_LOSS_COUNT k) + 1 < counterMod (Obj.CRK_LOCK_LOSS_COUNT k) →
      (s.dev.Guarded → Gives (.cricketLockLoss k) s fun t => s.dev.HaltsInto t 1 k ∧
        (s.dev.nat Obj.FW_PROBATION = 0 → t.nat (Obj.CRK_LOCK_STATE k) = 0 ∧
          t.nat (Obj.CRK_LOCK_LOSS_COUNT k) = s.dev.nat (Obj.CRK_LOCK_LOSS_COUNT k) + 1)) ∧
      (¬ s.dev.Guarded → s.dev.nat Obj.FW_PROBATION = 0 → Gives (.cricketLockLoss k) s fun t =>
        t.op = s.dev.op ∧ t.nat (Obj.CRK_LOCK_STATE k) = 0 ∧
        t.nat (Obj.CRK_LOCK_LOSS_COUNT k) = s.dev.nat (Obj.CRK_LOCK_LOSS_COUNT k) + 1 ∧
        s.dev.SameBut t [Obj.CRK_LOCK_STATE k, Obj.CRK_LOCK_LOSS_COUNT k] ∧ t.chan = s.dev.chan)) ∧
    (k.val = 37 ∨ k.val = 38 ∨ s.dev.kindledPast = false → s.dev.Guarded →
      Gives (.cricketLockLoss k) s fun t => s.dev.Untouched t)

/-- A window of 1 ms closes once, with its tempo index and its mandatory demand index, each in the range of 0 to 1000 that
its row gives. One below 1.25 times its mandatory demand index counts; the second in a row halts with cause 0x0004, and
any other window returns the run. -/
def Obligations.TempoHaltAfterTwo : Prop :=
  ∀ (s : State) (e dm m : Nat), s.dev.Guarded → s.dev.power.inReset = false → e < 2402400 → m < 2402400 →
    let t1 := e / 2400
    let m1 := m / 2400
    (s.dev.guard.window < s.dev.ticks / 100000 →
      (4 * t1 < 5 * m1 → s.dev.guard.low = 0 → Gives (.tempoWindowClose e dm m) s fun t =>
        t.op = s.dev.op ∧ t.guard.low = 1 ∧ t.guard.window = s.dev.ticks / 100000) ∧
      (4 * t1 < 5 * m1 → 1 ≤ s.dev.guard.low → Gives (.tempoWindowClose e dm m) s fun t =>
        s.dev.HaltsInto t 4 (65536 * t1 + m1)) ∧
      (5 * m1 ≤ 4 * t1 → Gives (.tempoWindowClose e dm m) s fun t =>
        t.op = s.dev.op ∧ t.guard.low = 0 ∧ t.guard.window = s.dev.ticks / 100000)) ∧
    (s.dev.ticks / 100000 ≤ s.dev.guard.window → Gives (.tempoWindowClose e dm m) s fun t => s.dev.Untouched t)

/-- A tempo window below 100 sheds what Table 1.3 gives and TEMPO_LOW stands; the shed work comes back, and TEMPO_LOW
clears, after 100 windows in a row of 105 or more, and never by stages. The least index since reset and in the block's
life are kept. That an index stops at 1000, the end of the range its row gives, is the model's reading (log entry 20). -/
def Obligations.TempoShedding : Prop :=
  ∀ (s : State) (e dm : Nat), s.dev.Guarded → s.dev.power.inReset = false → s.dev.guard.window < s.dev.ticks / 100000 →
    s.dev.nat Obj.SHED_STATE ∈ [0, 1, 3, 7] →
    let t1 := min 1000 (e / 2400)
    Gives (.tempoWindowClose e dm 0) s fun t =>
      t.op = s.dev.op ∧ t.nat Obj.TEMPO_INDEX = t1 ∧ t.nat Obj.DEMAND_INDEX = min 1000 (dm / 2400) ∧
      t.nat Obj.MANDATORY_DEMAND = 0 ∧ t.nat Obj.TEMPO_MIN = min (s.dev.nat Obj.TEMPO_MIN) t1 ∧
      t.nat Obj.TEMPO_MIN_LIFE = min (s.dev.nat Obj.TEMPO_MIN_LIFE) t1 ∧ t.nat Obj.TEMPO_MAX = max (s.dev.nat Obj.TEMPO_MAX) t1 ∧
      t.guard.good = (if 105 ≤ t1 then s.dev.guard.good + 1 else 0) ∧
      t.nat Obj.SHED_STATE = (if 105 ≤ t1 ∧ 99 ≤ s.dev.guard.good then 0
        else max (s.dev.nat Obj.SHED_STATE) (shedBits (shedStage t1))) ∧
      (t1 < 100 → s.dev.nat Obj.SHED_STATE = 0 → t.active 0x0604 0xFFFF = true) ∧
      (105 ≤ t1 → 99 ≤ s.dev.guard.good → t.active 0x0604 0xFFFF = false)

/-- Each token reaches the watchdog with its instant, the longest gap is kept, and from KINDLED on it counts for SAFE1_N;
a token missing for its time halts with cause 0x0003, and before that nothing changes. A reference window that counts
fewer than 3400 or more than 4600 cycles halts with cause 0x0002, another shows its count only. The watchdog hears its
tokens and counts its reference in HALT-SAFE too. That the time of a token runs from its first arrival is the model's
reading (log entry 21). -/
def Obligations.WatchdogHalts : Prop :=
  (∀ s : State, s.dev.power.inReset = false →
    (Gives (.watchdogToken true) s fun t => t.guard.supTok = true ∧ t.guard.supAt = s.dev.now ∧
      t.guard.supIn = (s.dev.guard.supIn || s.dev.kindledPast) ∧ t.guard.stokerTok = s.dev.guard.stokerTok ∧ t.op = s.dev.op ∧
      (s.dev.guard.supTok = true → t.nat Obj.WDG_SUP_GAP_MAX =
        max (s.dev.nat Obj.WDG_SUP_GAP_MAX) ((s.dev.now - s.dev.guard.supAt) / 100 % 2 ^ 32))) ∧
    (Gives (.watchdogToken false) s fun t => t.guard.stokerTok = true ∧ t.guard.stokerAt = s.dev.now ∧
      t.guard.stokerIn = (s.dev.guard.stokerIn || s.dev.kindledPast) ∧ t.guard.supTok = s.dev.guard.supTok ∧ t.op = s.dev.op ∧
      (s.dev.guard.stokerTok = true → t.nat Obj.WDG_STOKER_GAP_MAX =
        max (s.dev.nat Obj.WDG_STOKER_GAP_MAX) ((s.dev.now - s.dev.guard.stokerAt) / 100 % 2 ^ 32)))) ∧
  (∀ s : State, s.dev.Guarded → s.dev.power.inReset = false →
    (s.dev.guard.supTok = true →
      (s.dev.guard.supAt + 270000 ≤ s.dev.now → Gives (.watchdogTokenTimeout true) s fun t => s.dev.HaltsInto t 3 1) ∧
      (s.dev.now < s.dev.guard.supAt + 270000 → Gives (.watchdogTokenTimeout true) s fun t => s.dev.Untouched t)) ∧
    (s.dev.guard.stokerTok = true →
      (s.dev.guard.stokerAt + 2700000 ≤ s.dev.now → Gives (.watchdogTokenTimeout false) s fun t => s.dev.HaltsInto t 3 2) ∧
      (s.dev.now < s.dev.guard.stokerAt + 2700000 → Gives (.watchdogTokenTimeout false) s fun t => s.dev.Untouched t))) ∧
  (∀ (s : State) (n : Nat), s.dev.power.inReset = false →
    (s.dev.Guarded → n < 3400 ∨ 4600 < n → Gives (.watchdogRefWindow n) s fun t => s.dev.HaltsInto t 2 n ∧
      (s.dev.nat Obj.FW_PROBATION = 0 → t.nat Obj.WDG_REF_COUNT = min 65535 n)) ∧
    (s.dev.op = .haltSafe → s.dev.nat Obj.FW_PROBATION = 0 → Gives (.watchdogRefWindow n) s fun t =>
      t.op = .haltSafe ∧ t.nat Obj.WDG_REF_COUNT = min 65535 n ∧ s.dev.SameBut t [Obj.WDG_REF_COUNT]) ∧
    (s.dev.Guarded → 3400 ≤ n → n ≤ 4600 → Gives (.watchdogRefWindow n) s fun t =>
      t.op = s.dev.op ∧ t.nat Obj.WDG_REF_COUNT = n ∧ s.dev.SameBut t [Obj.WDG_REF_COUNT] ∧ t.chan = s.dev.chan))

/-- An uncorrectable SRAM error halts with cause 0x0007 and its address, during a bank too; a supply above its range halts
with cause 0x0008 and its number, after the bank where one is in progress. That a bank in progress defers the halt of an
overvoltage, whatever its cause, is the model's reading (log entry 22). -/
def Obligations.CoreFaultsHalt : Prop :=
  ∀ s : State, s.dev.Guarded → s.dev.power.inReset = false →
    (∀ a : Fin 4294967296, Gives (.uncorrectableSramError a) s fun t => s.dev.HaltsInto t 7 a) ∧
    (∀ (i : Fin 4) (mv : Nat), supplyHigh i < mv →
      (s.dev.ember.bank = none → Gives (.supplyAboveRange i mv) s fun t => s.dev.HaltsInto t 8 (i.val + 1) ∧
        (s.dev.nat Obj.FW_PROBATION = 0 → t.nat (Obj.SUPPLY_MV i) = mv % 65536 ∧ bit (t.nat Obj.SUPPLY_FLAGS) i = true)) ∧
      (s.dev.ember.bank.isSome → Gives (.supplyAboveRange i mv) s fun t => t.op = s.dev.op ∧
        t.power.overAfter = some (i.val + 1) ∧ t.nat (Obj.SUPPLY_MV i) = mv % 65536 ∧ bit (t.nat Obj.SUPPLY_FLAGS) i = true))

/-! ### Supplies, rails, battery -/

/-- A main supply below its range, HOLD_N low and VHOLD_MV below its trip level each start a power-fail bank, during a run
of the replay too. A supply within its range, or a hold-up level at or above its trip level, starts no bank. HOLDUP_LOW is
raised below the warning level outside a bank, and cleared 2 % above it; VKEEP low is flagged while VIO is present and
loses the cicada state while it is absent; the first WAKE edge of a dormant block is stamped. When the cicada state is lost
and which WAKE edge counts are the model's readings (log entries 78 and 79). That a command which cannot act changes
nothing is the model's choice (log entry 17). -/
def Obligations.SuppliesBankAndWarn : Prop :=
  (∀ s : State, s.dev.power.inReset = false → s.dev.power.banked = false → s.dev.op ≠ .loader →
    (∀ (i : Fin 4) (mv : Nat), mv < supplyLow i → Gives (.supplyBelowRange i mv) s fun t =>
      t.Failed ∧ t.ins.supplyOk = false ∧ t.nat (Obj.SUPPLY_MV i) = mv % 65536 ∧ bit (t.nat Obj.SUPPLY_FLAGS) i = true) ∧
    (Gives .holdNFall s fun t => t.Failed ∧ t.ins.holdN = false ∧ t.replay.run = false) ∧
    (∀ mv : Nat, mv < s.dev.ownBack.nat Obj.HOLD_TRIP_MV → Gives (.vholdTrip mv) s fun t =>
      t.Failed ∧ t.nat Obj.HOLD_STATE = 2 ∧ t.nat Obj.VHOLD_MV = mv)) ∧
  ((∀ (s : State) (i : Fin 4) (mv : Nat), supplyLow i ≤ mv → Gives (.supplyBelowRange i mv) s fun t => s.dev.Untouched t) ∧
  (∀ (s : State) (i : Fin 4) (mv : Nat), mv ≤ supplyHigh i → s.dev.op ≠ .haltSafe ∨ s.dev.nat Obj.FW_PROBATION = 0 →
    Gives (.supplyAboveRange i mv) s fun t => s.dev.Untouched t) ∧
  (∀ (s : State) (mv : Nat), s.dev.ownBack.nat Obj.HOLD_TRIP_MV ≤ mv → Gives (.vholdTrip mv) s fun t => s.dev.Untouched t)) ∧
  ((∀ (s : State) (mv : Nat), s.dev.Talks →
    (mv < s.dev.nat Obj.HOLD_WARN_MV → s.dev.ember.bank = none → Gives (.holdupLowWarn mv) s fun t =>
      t.active 0x0602 0xFFFF = true ∧ t.nat Obj.HOLD_STATE = 1 ∧ t.nat Obj.VHOLD_MV = mv) ∧
    (s.dev.nat Obj.HOLD_WARN_MV ≤ mv ∨ s.dev.ember.bank.isSome → Gives (.holdupLowWarn mv) s fun t => s.dev.Untouched t) ∧
    (102 * s.dev.nat Obj.HOLD_WARN_MV < 100 * mv → Gives (.holdupLowClear mv) s fun t =>
      t.active 0x0602 0xFFFF = false ∧ t.nat Obj.HOLD_STATE = 0 ∧ t.nat Obj.VHOLD_MV = mv) ∧
    (100 * mv ≤ 102 * s.dev.nat Obj.HOLD_WARN_MV → Gives (.holdupLowClear mv) s fun t => s.dev.Untouched t)) ∧
  (∀ (s : State) (mv : Nat),
    (mv < 2000 → s.dev.power.inReset = false → Gives (.vkeepLow true mv) s fun t =>
      bit (t.nat Obj.SUPPLY_FLAGS) 4 = true ∧ t.nat (Obj.SUPPLY_MV 4) = mv ∧ t.power = s.dev.power ∧
      s.dev.SameBut t [Obj.SUPPLY_FLAGS, Obj.SUPPLY_MV 4]) ∧
    (mv < 1600 → s.dev.power.inReset = true ∨ s.dev.power.banked = true → Gives (.vkeepLow false mv) s fun t =>
      t.power = { s.dev.power with keepLost := true } ∧ t.dict = s.dev.dict) ∧
    (2000 ≤ mv ∨ s.dev.power.inReset = true → Gives (.vkeepLow true mv) s fun t => s.dev.Untouched t) ∧
    (1600 ≤ mv ∨ (s.dev.power.inReset = false ∧ s.dev.power.banked = false) →
      Gives (.vkeepLow false mv) s fun t => s.dev.Untouched t)) ∧
  (∀ s : State,
    (s.dev.power.inReset = true ∨ s.dev.power.banked = true → s.dev.power.wake = false →
      Gives .wakeEdge s fun t => t.power.wake = true ∧ t.nat Obj.WAKE_STAMP = s.dev.nat Obj.CAL_NOW ∧
        s.dev.SameBut t [Obj.WAKE_STAMP]) ∧
    (s.dev.power.wake = true ∨ (s.dev.power.inReset = false ∧ s.dev.power.banked = false) →
      Gives .wakeEdge s fun t => s.dev.Untouched t)))

/-- A rail that has been out of its range raises RAIL_DIP with its direction, and is counted once for each; one back in
its range clears it. The handover states: a low RAIL0 qualifies for 2 ms, hands over to the battery for at least 50 ms, and
comes back after the return dwell with RAIL0 stable for 1 s; a battery that is cut off hands over to CUT_OFF. What the
handover output shows elsewhere is the model's reading (log entry 94). That a command which cannot act changes nothing is
the model's choice (log entry 17). -/
def Obligations.RailsAndHandoverJudged : Prop :=
  (∀ (s : State) (r : Fin 8) (mv : Nat), s.dev.Serving →
    let st := s.dev.railState r mv
    let judged := s.dev.lanes.kindledAt + 100 * s.dev.nat (Obj.RAIL_DIP_US r)
    (judged ≤ s.dev.now → st = 2 ∨ st = 3 →
      s.dev.nat (Obj.RAIL_DIP_COUNT r) + 1 < counterMod (Obj.RAIL_DIP_COUNT r) →
      Gives (.railDipDebounce r mv) s fun t => t.nat (Obj.RAIL_STATE r) = st ∧ t.nat (Obj.RAIL_MV r) = mv ∧
        t.nat (Obj.RAIL_LOW_MV r) = (if st = 2 then mv else s.dev.nat (Obj.RAIL_LOW_MV r)) ∧
        (∃ c, t.cond 0x0601 (railSource r) = some c ∧ c.detail = st - 1) ∧
        (if (s.dev.cond 0x0601 (railSource r)).any (fun c => c.detail == st - 1) then
          t.rep = s.dev.rep ∧ t.nat (Obj.RAIL_DIP_COUNT r) = s.dev.nat (Obj.RAIL_DIP_COUNT r) ∧
            t.nat (Obj.RAIL_LAST_DIP r) = s.dev.nat (Obj.RAIL_LAST_DIP r)
        else t.nat (Obj.RAIL_DIP_COUNT r) = s.dev.nat (Obj.RAIL_DIP_COUNT r) + 1 ∧ t.nat (Obj.RAIL_LAST_DIP r) = s.dev.now)) ∧
    (s.dev.now < judged ∨ st = 0 ∨ st = 1 → Gives (.railDipDebounce r mv) s fun t => s.dev.Untouched t) ∧
    (s.dev.lanes.kindledAt + 1000000 ≤ s.dev.now → st = 1 →
      Gives (.railDipClear r mv) s fun t => t.active 0x0601 (railSource r) = false ∧ t.nat (Obj.RAIL_STATE r) = 1 ∧
        t.nat (Obj.RAIL_MV r) = mv ∧ t.nat (Obj.RAIL_LOW_MV r) = mv) ∧
    (s.dev.now < s.dev.lanes.kindledAt + 1000000 ∨ st ≠ 1 → Gives (.railDipClear r mv) s fun t => s.dev.Untouched t)) ∧
  (∀ s : State, s.dev.Serving →
    ((∀ mv : Nat, (s.dev.nat Obj.HO_STATE = 0 → mv < s.dev.nat Obj.HO_THRESH_MV → Gives (.hoRail0Below mv) s fun t =>
        t.nat Obj.HO_STATE = 1 ∧ t.power.rail0Low = some s.dev.now ∧ t.nat (Obj.RAIL_MV 0) = mv) ∧
      (s.dev.nat Obj.HO_STATE ≠ 0 ∨ s.dev.nat Obj.HO_THRESH_MV ≤ mv →
        Gives (.hoRail0Below mv) s fun t => s.dev.Untouched t)) ∧
    (∀ mv a : Nat, s.dev.nat Obj.HO_STATE = 1 → s.dev.power.rail0Low = some a →
      (s.dev.nat Obj.HO_THRESH_MV ≤ mv → s.dev.now < a + 200000 → Gives (.hoRail0Return mv) s fun t =>
        t.nat Obj.HO_STATE = 0 ∧ t.power.rail0Low = none ∧ t.nat (Obj.RAIL_MV 0) = mv) ∧
      (mv < s.dev.nat Obj.HO_THRESH_MV ∨ a + 200000 ≤ s.dev.now →
        Gives (.hoRail0Return mv) s fun t => s.dev.Untouched t)) ∧
    (∀ a : Nat, s.dev.nat Obj.HO_STATE = 1 → s.dev.power.rail0Low = some a →
      (a + 200000 ≤ s.dev.now → s.dev.nat Obj.HO_COUNT + 1 < counterMod Obj.HO_COUNT → Gives .hoQualifyExpiry s fun t =>
        t.power.rail0Back = none ∧
        (if s.dev.nat Obj.BAT_STATE = 5 then t.nat Obj.HO_STATE = 4 ∧ s.dev.SameBut t [Obj.HO_STATE]
        else t.nat Obj.HO_STATE = 2 ∧ t.nat Obj.HO_LAST = s.dev.now ∧ t.nat Obj.HO_COUNT = s.dev.nat Obj.HO_COUNT + 1 ∧
          (s.dev.op = .operating → s.dev.isolates = false → t.outs.handover = .high))) ∧
      (s.dev.now < a + 200000 → Gives .hoQualifyExpiry s fun t => s.dev.Untouched t))) ∧
    (s.dev.nat Obj.HO_STATE = 2 →
      (s.dev.nat Obj.HO_LAST + 5000000 ≤ s.dev.now → Gives .hoHandoverDwell s fun t =>
        t.nat Obj.HO_STATE = 3 ∧ s.dev.SameBut t [Obj.HO_STATE]) ∧
      (s.dev.now < s.dev.nat Obj.HO_LAST + 5000000 → Gives .hoHandoverDwell s fun t => s.dev.Untouched t)) ∧
    (s.dev.nat Obj.HO_STATE = 2 ∨ s.dev.nat Obj.HO_STATE = 3 ∨ s.dev.nat Obj.HO_STATE = 4 →
      (Gives (.rail0StableChange true) s fun t => t.power.rail0Back = some (s.dev.power.rail0Back.getD s.dev.now)) ∧
      (Gives (.rail0StableChange false) s fun t => t.power.rail0Back = none)) ∧
    (∀ a : Nat, s.dev.power.rail0Back = some a →
      let back := s.dev.nat Obj.HO_LAST + 100000 * s.dev.nat Obj.HO_RETURN_MS
      (s.dev.nat Obj.HO_STATE = 3 →
        (a + 100000000 ≤ s.dev.now → back ≤ s.dev.now → Gives .hoReturnDue s fun t =>
          t.nat Obj.HO_STATE = 0 ∧ s.dev.SameBut t [Obj.HO_STATE] ∧ t.outs.handover ≠ .high) ∧
        (s.dev.now < a + 100000000 ∨ s.dev.now < back → Gives .hoReturnDue s fun t => s.dev.Untouched t)) ∧
      (s.dev.nat Obj.HO_STATE = 4 →
        (a + 100000000 ≤ s.dev.now → Gives .hoCutoffRecover s fun t =>
          t.nat Obj.HO_STATE = 0 ∧ s.dev.SameBut t [Obj.HO_STATE]) ∧
        (s.dev.now < a + 100000000 → Gives .hoCutoffRecover s fun t => s.dev.Untouched t))))

/-- A sample of the battery, once a millisecond, is shown and its charge counted, discharge in full and charge weighted;
a count at or below 0 that a loaded voltage contradicts is a conflict, which holds the count at 5 % of the capacity and the
state of charge at 50. A rest point sets the charge from the rest voltage and clears the conflict. A battery below its
cut-off voltage is CUT_OFF, which ends a handover; it is over again with the voltage back while the battery carries no
load. Autonomy is judged once a second: on battery its factor follows what the charge allows, by at most 5 % down and 1 %
up, and in CONVERTER it rises by 1 %, never over 65536. The roundings of ratios are free (log entries 8 and 95). That a
command which cannot act changes nothing is the model's choice (log entry 17). -/
def Obligations.BatteryJudged : Prop :=
  (∀ (s : State) (mv : Nat) (ua : Int), s.dev.Serving → s.dev.nat Obj.BAT_USE = 1 →
    let rest := s.dev.num Obj.BAT_REST_I_UA
    let state := fun (i : Int) => if rest < i then 3 else if i < -rest then 1 else 2
    let q := s.dev.power.chargeFrac - (if 0 < ua then ua * 1000 else ua * s.dev.num Obj.BAT_CHARGE_EFF_PM)
    let c := s.dev.num Obj.BAT_CHARGE_MAH + Int.fdiv q 3600000000000
    let cap := s.dev.nat Obj.BAT_CAPACITY_MAH
    let bad := c ≤ 0 ∧ rest < ua ∧ s.dev.nat Obj.BAT_V_EMPTY_LOADED + s.dev.nat Obj.BAT_V_MARGIN < mv
    (s.dev.power.sampled < s.dev.now / 100000 →
      (s.dev.active 0x0603 0xFFFF = false → ¬ bad → Gives (.batterySample mv ua) s fun t =>
        t.nat Obj.BAT_V_MV = mv ∧ t.num Obj.BAT_I_UA = ua ∧ t.power.sampled = s.dev.now / 100000 ∧
        t.num Obj.BAT_CHARGE_MAH = c ∧ t.power.chargeFrac = Int.fmod q 3600000000000 ∧
        t.nat Obj.BAT_STATE = (if s.dev.nat Obj.BAT_STATE = 5 then 5 else state ua) ∧
        t.nat Obj.BAT_SOC_PM = min 1000 (roundOpen 426 (c.toNat * 1000) cap) ∧ t.active 0x0603 0xFFFF = false) ∧
      (s.dev.active 0x0603 0xFFFF = false → bad →
        s.dev.nat Obj.BAT_CONFLICT_COUNT + 1 < counterMod Obj.BAT_CONFLICT_COUNT → Gives (.batterySample mv ua) s fun t =>
        t.nat Obj.BAT_V_MV = mv ∧ t.num Obj.BAT_I_UA = ua ∧ t.active 0x0603 0xFFFF = true ∧ t.power.chargeFrac = 0 ∧
        t.num Obj.BAT_CHARGE_MAH = (roundOpen 428 cap 20 : Nat) ∧ t.nat Obj.BAT_SOC_PM = 50 ∧
        t.nat Obj.BAT_STATE = (if s.dev.nat Obj.BAT_STATE = 5 then 5 else 4) ∧
        t.nat Obj.BAT_CONFLICT_COUNT = s.dev.nat Obj.BAT_CONFLICT_COUNT + 1) ∧
      (s.dev.active 0x0603 0xFFFF = true → Gives (.batterySample mv ua) s fun t =>
        t.nat Obj.BAT_V_MV = mv ∧ t.num Obj.BAT_I_UA = ua ∧ t.num Obj.BAT_CHARGE_MAH = s.dev.num Obj.BAT_CHARGE_MAH ∧
        t.power.chargeFrac = s.dev.power.chargeFrac ∧ t.nat Obj.BAT_SOC_PM = 50 ∧ t.rep = s.dev.rep ∧
        t.nat Obj.BAT_STATE = (if s.dev.nat Obj.BAT_STATE = 5 then 5 else 4))) ∧
    (s.dev.now / 100000 ≤ s.dev.power.sampled → Gives (.batterySample mv ua) s fun t => s.dev.Untouched t) ∧
    (s.dev.atRest = true →
      let r := s.dev.restSoc mv
      let i := s.dev.num Obj.BAT_I_UA
      Gives (.batteryRestPoint mv) s fun t => t.nat Obj.BAT_V_MV = mv ∧ t.active 0x0603 0xFFFF = false ∧
        t.num Obj.BAT_CHARGE_MAH = (roundOpen 427 (r.1 * cap) (1000 * r.2) : Nat) ∧ t.power.chargeFrac = 0 ∧
        t.nat Obj.BAT_SOC_PM = min 1000 (roundOpen 427 r.1 r.2) ∧ t.nat Obj.BAT_LAST_REST_DAY = s.dev.calDayNow ∧
        t.nat Obj.BAT_STATE = (if s.dev.nat Obj.BAT_STATE = 5 then 5 else state i)) ∧
    (s.dev.atRest = false → Gives (.batteryRestPoint mv) s fun t => s.dev.Untouched t)) ∧
  (∀ (s : State) (mv : Nat), s.dev.Serving → s.dev.nat Obj.BAT_USE = 1 →
    let ho := s.dev.nat Obj.HO_STATE
    (s.dev.nat Obj.BAT_STATE ≠ 5 → mv < s.dev.nat Obj.BAT_V_CUTOFF →
      s.dev.nat Obj.BAT_CUTOFF_COUNT + 1 < counterMod Obj.BAT_CUTOFF_COUNT → Gives (.batteryCutoff mv) s fun t =>
      t.nat Obj.BAT_STATE = 5 ∧ t.nat Obj.BAT_V_MV = mv ∧ t.nat Obj.BAT_CUTOFF_COUNT = s.dev.nat Obj.BAT_CUTOFF_COUNT + 1 ∧
      t.nat Obj.HO_STATE = (if ho = 2 ∨ ho = 3 then 4 else ho) ∧ (ho = 2 ∨ ho = 3 → t.outs.handover ≠ .high)) ∧
    (s.dev.nat Obj.BAT_STATE = 5 ∨ s.dev.nat Obj.BAT_V_CUTOFF ≤ mv →
      Gives (.batteryCutoff mv) s fun t => s.dev.Untouched t) ∧
    (s.dev.nat Obj.BAT_STATE = 5 → s.dev.nat Obj.BAT_V_EMPTY_LOADED ≤ mv → ho ≠ 2 → ho ≠ 3 →
      Gives (.batteryCutoffEnd mv) s fun t => t.nat Obj.BAT_V_MV = mv ∧ t.nat Obj.HO_STATE = ho ∧
        t.nat Obj.BAT_STATE = (if s.dev.active 0x0603 0xFFFF then 4
          else if s.dev.num Obj.BAT_REST_I_UA < s.dev.num Obj.BAT_I_UA then 3
          else if s.dev.num Obj.BAT_I_UA < -s.dev.num Obj.BAT_REST_I_UA then 1 else 2)) ∧
    (s.dev.nat Obj.BAT_STATE ≠ 5 ∨ mv < s.dev.nat Obj.BAT_V_EMPTY_LOADED ∨ ho = 2 ∨ ho = 3 →
      Gives (.batteryCutoffEnd mv) s fun t => s.dev.Untouched t)) ∧
  (∀ s : State, s.dev.alive = true → s.dev.power.banked = false → s.dev.op = .operating →
    let ho := s.dev.nat Obj.HO_STATE
    let a := s.dev.nat Obj.AUT_FACTOR
    let left := max (s.dev.nat Obj.AUT_TARGET_MIN * 60 - (s.dev.now - s.dev.nat Obj.HO_LAST) / 100000000) 60
    let c := (s.dev.num Obj.BAT_CHARGE_MAH).toNat * 3600000
    let ua := (s.dev.num Obj.BAT_I_UA).toNat
    (s.dev.power.autAt < s.dev.now / 100000000 →
      (ho = 2 ∨ ho = 3 → Gives .autonomyUpdate s fun t => t.power.autAt = s.dev.now / 100000000 ∧
        t.nat Obj.AUT_I_ALLOW_UA = sat (2 ^ 32 - 1) (roundOpen 433 c left) ∧
        t.nat Obj.AUT_FACTOR = min 65536 (if ua = 0 then a
          else if 100 * c < 95 * (left * ua) then roundOpen 433 (a * 95) 100
          else if 101 * (left * ua) < 100 * c then roundOpen 433 (a * 101) 100
          else roundOpen 433 (a * c) (left * ua))) ∧
      (ho = 0 → Gives .autonomyUpdate s fun t => t.power.autAt = s.dev.now / 100000000 ∧
        t.nat Obj.AUT_FACTOR = (if a < 65536 then min 65536 (roundOpen 433 (a * 101) 100) else a)) ∧
      (ho ≠ 0 → ho ≠ 2 → ho ≠ 3 → Gives .autonomyUpdate s fun t => t.power.autAt = s.dev.now / 100000000 ∧
        t.nat Obj.AUT_FACTOR = a)) ∧
    (s.dev.now / 100000000 ≤ s.dev.power.autAt → Gives .autonomyUpdate s fun t => s.dev.Untouched t))

/-- What a command of supplies, rails, battery and handover leaves as it was, where the block is up: every channel and
level of a lamp, the lanes, the sessions, and every object but those of power and those that reports count in. -/
def Obligations.PowerFrame : Prop :=
  ∀ (s t : State) (r : Fin 8) (mv : Nat) (ua : Int) (b : Bool) (i : Instr),
    i ∈ [Instr.railDipDebounce r mv, .railDipClear r mv, .hoRail0Below mv, .hoRail0Return mv, .hoQualifyExpiry, .hoHandoverDwell,
      .rail0StableChange b, .hoReturnDue, .hoCutoffRecover, .batterySample mv ua, .batteryRestPoint mv, .batteryCutoff mv,
      .batteryCutoffEnd mv, .autonomyUpdate, .holdupLowWarn mv, .holdupLowClear mv] →
    exec i s = .next t →
    t.pending = s.pending ∧ t.dev.now = s.dev.now ∧ t.dev.chan = s.dev.chan ∧ t.dev.life = s.dev.life ∧ t.dev.grp = s.dev.grp ∧
    t.dev.sg = s.dev.sg ∧ t.dev.pe = s.dev.pe ∧ t.dev.gw = s.dev.gw ∧ t.dev.mx = s.dev.mx ∧
    t.dev.lanes = s.dev.lanes ∧ t.dev.grants = s.dev.grants ∧
    t.dev.op = s.dev.op ∧ t.dev.lc = s.dev.lc ∧ t.dev.ember = s.dev.ember ∧ t.dev.admin = s.dev.admin ∧ t.dev.cfg = s.dev.cfg ∧
    t.dev.staged = s.dev.staged ∧ t.dev.banked = s.dev.banked ∧ t.dev.fin = s.dev.fin ∧ t.dev.guard = s.dev.guard ∧
    t.dev.test = s.dev.test ∧ t.dev.ins = s.dev.ins ∧
    (s.dev.darkened = false → t.dev.outs.gate = s.dev.outs.gate ∧ t.dev.outs.iso = s.dev.outs.iso) ∧
    s.dev.SameElse t.dev fun k => decide (0x2100 ≤ k / 256) && decide (k / 256 < 0x2200)

/-! ### Reset, kindling and the store -/

/-- RESET_N low for 10 us takes the block into reset: device time 0, KINDLING, dark, its isolators released, both
safe-state outputs asserted, and nothing left of what lives in the block's own registers; a shorter low does nothing. Its
release starts kindling with the straps read, its cause and the count of resets, and changes nothing else; a release
without the input low ends a power-on reset. A reset keeps the configuration, the fuses, the sealed journal, the keys and
the firmware slots, and every MAYFLY object reads its default; of a bank that it cuts short, some of the history entries
stand. What outlasts a reset without a persistence class is the
model's reading (log entry 77). That a command which cannot act changes nothing is the model's choice (log entry 17). -/
def Obligations.ResetClearsAndKeeps : Prop :=
  ((∀ (s : State) (ticks : Nat),
    (s.dev.power.inReset = false → 1000 ≤ ticks → Gives (.resetNLow ticks) s fun t =>
      t.power.inReset = true ∧ t.ins.resetN = false ∧ t.now = 0 ∧ t.ticks = 0 ∧ t.op = .kindling ∧
      t.outs.dark ∧ t.outs.asserted ∧ t.outs.iso = [] ∧ t.outs.handover = .z ∧ t.outs.stb = .z ∧ t.outs.bypass = true ∧
      t.outs.phyRst = true ∧ t.outs.irq = false ∧
      t.chan = [] ∧ t.life = [] ∧ t.grp = [] ∧ t.sg = [] ∧ t.pe = [] ∧ t.gw = [] ∧ t.mx = {} ∧ t.fin = [] ∧ t.ring = {} ∧
      t.lanes = {} ∧ t.grants = [] ∧ t.asks = [] ∧ t.digests = [] ∧ t.guard = {} ∧ t.test = {} ∧
      t.rep = { hist := t.rep.hist } ∧ (s.dev.ember.bank = none → t.rep.hist = s.dev.ownBack.rep.hist) ∧
      t.jnl.buf = [] ∧ t.jnl.segs = s.dev.jnl.segs ∧ t.ember.bank = none ∧
      t.ember.log = s.dev.ember.log ∧ t.sent = s.dev.sent) ∧
    (s.dev.power.inReset = true ∨ ticks < 1000 → Gives (.resetNLow ticks) s fun t => s.dev.Untouched t)) ∧
  (∀ (s : State) (straps : Fin 16) (m : Bool), s.dev.power.inReset = true →
    s.dev.nat Obj.RESET_COUNT + 1 < counterMod Obj.RESET_COUNT →
    Gives (.resetRelease straps m) s fun t =>
      t = { s.dev with
        dict := t.dict, outs := t.outs, waiters := []
        power := { s.dev.power with inReset := false, wake := false }
        ins := { s.dev.ins with resetN := true, holdN := true, supplyOk := true, straps := straps, masterLow := m } } ∧
      t.nat Obj.RESET_CAUSE = (if s.dev.power.wake then 4 else 2) ∧
      t.nat Obj.RESET_COUNT = s.dev.nat Obj.RESET_COUNT + 1 ∧ s.dev.SameBut t [Obj.RESET_CAUSE, Obj.RESET_COUNT]) ∧
  (∀ (s : State) (straps : Fin 16) (m : Bool), s.dev.power.inReset = false →
    Gives (.resetRelease straps m) s fun t => t.now = 0 ∧ t.ticks = 0 ∧ t.op = .kindling ∧ t.power.inReset = false ∧
      t.power.wake = false ∧ t.nat Obj.RESET_CAUSE = (if s.dev.power.wake then 4 else 1) ∧ t.nat Obj.KINDLE_PHASE = 1 ∧
      t.ins.straps = straps ∧ t.ins.masterLow = m ∧ t.outs.dark ∧ t.outs.asserted ∧ t.chan = [] ∧ t.lanes = {} ∧ t.grants = [] ∧
      (s.dev.power.banked = true → s.dev.power.keepLost = false → s.dev.replay.own = none → s.dev.cfg.switch = none →
        s.dev.nat Obj.CAL_VALID = 1 → t.nat Obj.DORMANT_S = s.dev.nat Obj.CAL_NOW - s.dev.nat Obj.CAL_LAST_DOWN))) ∧
  (∀ s : State, s.dev.power.inReset = false → s.dev.replay.own = none → s.dev.cfg.switch = none →
    (s.dev.ember.bank = none → Gives (.resetNLow 1000) s fun t =>
      (∀ k, persOf k = .ember → t.val k = s.dev.val k) ∧
      (∀ k, persOf k = .fuse → t.val k = s.dev.val k) ∧ (∀ k, persOf k = .record → t.val k = objDefault k) ∧
      (s.dev.power.keepLost = false → ∀ k ∈ cicadaKeys, t.val k = s.dev.val k) ∧
      (∀ k, persOf k = .mayfly → k ∉ cicadaKeys → k ≠ Obj.CFG_STAGE_STATE → k ≠ Obj.FW_CFG_HOLD → k ≠ Obj.AUTH_STATE →
        t.val k = objDefault k) ∧
      t.banked = s.dev.banked ∧ t.jnl.head = s.dev.jnl.head ∧ t.jnl.lastSeal = s.dev.jnl.lastSeal ∧
      t.jnl.caps = s.dev.jnl.caps ∧ t.admin.keys = s.dev.admin.keys ∧
      t.admin.slot = s.dev.admin.slot.map fun e => (e.1, e.2.kept)) ∧
    (∀ b : Bank, s.dev.ember.bank = some b → Gives (.resetNLow 1000) s fun t =>
      t.ember.cutBank = (if b.cause = 3 then some b.num else none) ∧
      ∃ k, k ≤ b.hist.length ∧ t.rep.hist = ((b.hist.take k).reverse ++ s.dev.rep.hist).take 256))

/-- The phases of kindling: the clocks lock; the mask ROM, with no transition of the life cycle unfinished, boots a valid
trial image, counting its boot, else a valid confirmed one, and stays in the loader without any; recovery ends phase 3 with
its figures. At KINDLED, with the configuration in the format of the image, the block is KINDLED with its phase, stays
dark, and awaits the end of kindling; in the life-cycle state REPLAY it kindles into REPLAY. Kindling ends by its timeout:
the block is OPERATING, and each signal group in use awaits its safe aspect. A banked block with its hold-up back restarts
from mask ROM, but for a bank of CICADA_ENTER; an image whose probation is over rejects itself through a reset. What
outlasts the reset of a rejected image is the model's reading (log entry 88). That a command which cannot act changes
nothing is the model's choice (log entry 17). -/
def Obligations.KindlingPhasesInOrder : Prop :=
  ((∀ s : State, s.dev.alive = true → s.dev.power.banked = false →
    (s.dev.op = .kindling → s.dev.nat Obj.KINDLE_PHASE = 1 → Gives .kindleClocksLocked s fun t =>
      t.nat Obj.KINDLE_PHASE = 2 ∧ (∀ k, k < 40 → k ≠ 37 → k ≠ 38 → t.nat (Obj.CRK_LOCK_STATE k) = 2) ∧
      t = { s.dev with dict := t.dict, outs := t.outs, waiters := [] }) ∧
    (s.dev.op ≠ .kindling ∨ s.dev.nat Obj.KINDLE_PHASE ≠ 1 → Gives .kindleClocksLocked s fun t => s.dev.Untouched t) ∧
    (s.dev.op ≠ .kindling ∨ s.dev.nat Obj.KINDLE_PHASE ≠ 2 → Gives .maskRomBoot s fun t => s.dev.Untouched t)) ∧
  (∀ s : State, s.dev.alive = true → s.dev.power.banked = false → s.dev.op = .kindling → s.dev.nat Obj.KINDLE_PHASE = 2 →
    (∀ k, k < 16 → s.dev.fuseRow (2 * k) = 0 ∨ s.dev.fuseRow (2 * k) = 2 ^ 32 - 1 ∨
      (rowValid k (s.dev.fuseRow (2 * k)) = true ∧ rowValid k (s.dev.fuseRow (2 * k + 1)) = true)) →
    (∀ i : Nat, s.dev.trialSlot = some i → (s.dev.slot i).booted < 3 → s.dev.imageCause (s.dev.slot i) = 0 →
      Gives .maskRomBoot s fun t => t.op = .kindling ∧ t.nat Obj.KINDLE_PHASE = 3 ∧ t.nat Obj.FW_ACTIVE_SLOT = i ∧
        t.nat Obj.FW_PROBATION = (s.dev.slot i).booted + 1 ∧ (t.slot i).booted = (s.dev.slot i).booted + 1) ∧
    (∀ (i : Nat) (r : List Nat), s.dev.trialSlot = none → s.dev.confirmedSlots = i :: r → s.dev.imageCause (s.dev.slot i) = 0 →
      Gives .maskRomBoot s fun t => t.nat Obj.KINDLE_PHASE = 3 ∧ t.nat Obj.FW_ACTIVE_SLOT = i ∧ t.nat Obj.FW_PROBATION = 0 ∧
        t.nat Obj.FW_ACTIVE_VERSION = (s.dev.slot i).version ∧ t.op = .kindling) ∧
    (s.dev.trialSlot = none → (∀ i ∈ s.dev.confirmedSlots, s.dev.imageCause (s.dev.slot i) ≠ 0) →
      Gives .maskRomBoot s fun t => t.op = .loader ∧ t.nat Obj.FW_ACTIVE_SLOT = 0xFF ∧ t.outs.dark)) ∧
  (∀ (s : State) (us discarded corrected : Nat) (bad : List Nat), s.dev.alive = true → s.dev.power.banked = false →
    (s.dev.op = .kindling → s.dev.nat Obj.KINDLE_PHASE = 3 →
      Gives (.emberRecoveryDone us discarded bad corrected) s fun t => t.op = .kindling ∧ t.nat Obj.KINDLE_PHASE = 4 ∧
        t.nat Obj.EMB_RECOVERY_US = sat (2 ^ 32 - 1) us ∧ t.nat Obj.EMB_DISCARDED = sat (2 ^ 32 - 1) discarded ∧
        t.nat Obj.EMB_ABANDONED = s.dev.ember.intents.length ∧ t.ember.intents = [] ∧ t.ember.cutBank = none ∧
        t.ember.patrolDue = (t.nat Obj.CAL_VALID == 0 || decide (t.nat Obj.PATROL_LAST_DAY + 180 < t.calDayNow)) ∧
        (bad ≠ [] → t.active 0x0403 0xFFFF = true) ∧ (s.dev.ember.intents ≠ [] → t.active 0x0402 0xFFFF = true) ∧
        (s.dev.ember.cutBank.isSome → t.active 0x0401 0xFFFF = true) ∧
        (s.dev.recordVals = [] → (s.dev.banked.map Prod.fst).Nodup → bad = [] → s.dev.ember.intents = [] →
          s.dev.ember.cutBank = none → ∀ e ∈ s.dev.banked, e.1 ∉ [Obj.EMB_RECOVERY_US, Obj.EMB_DISCARDED, Obj.EMB_CORRECTED_BITS,
            Obj.EMB_ABANDONED, Obj.KINDLE_EMBER_US, Obj.KINDLE_PHASE] → t.val e.1 = e.2)) ∧
    (s.dev.op ≠ .kindling ∨ s.dev.nat Obj.KINDLE_PHASE ≠ 3 →
      Gives (.emberRecoveryDone us discarded bad corrected) s fun t => s.dev.Untouched t))) ∧
  (∀ (s : State) (dies : List Bool) (rails : List Nat), s.dev.alive = true → s.dev.power.banked = false →
    (s.dev.op = .kindling → s.dev.nat Obj.KINDLE_PHASE = 4 →
      (s.dev.lc ≠ .replay → (s.dev.slot (s.dev.nat Obj.FW_ACTIVE_SLOT)).cfgFormat = s.dev.cfg.format →
        Gives (.kindled dies rails) s fun t => t.op = .kindled ∧ t.nat Obj.KINDLE_PHASE = 5 ∧ t.lanes.kindledAt = s.dev.now ∧
          t.nat Obj.KINDLE_KINDLED_US = s.dev.now / 100 % 2 ^ 32 ∧ (∀ n, t.gate n = s.dev.gate n ∨ t.gate n = .low) ∧
          t.replay.bootTable.length ≤ 16 ∧ t.now = s.dev.now) ∧
      (s.dev.lc = .replay → Gives (.kindled dies rails) s fun t => t.op = .replay ∧ t.nat Obj.KINDLE_PHASE = 5 ∧
        t.nat Obj.REPLAY_STATE = 1 ∧ t.outs.dark ∧ t.outs.asserted)) ∧
    (s.dev.op ≠ .kindling ∨ s.dev.nat Obj.KINDLE_PHASE ≠ 4 → Gives (.kindled dies rails) s fun t => s.dev.Untouched t)) ∧
  (∀ s : State, s.dev.alive = true → s.dev.power.banked = false → s.dev.op = .kindled →
    (s.dev.lanes.kindledAt + 100000 * s.dev.nat Obj.KINDLE_TIMEOUT_MS ≤ s.dev.now →
      Gives .kindleTimeout s fun t => t.op = .operating ∧ t.nat Obj.KINDLE_PHASE = 6 ∧ t.nat Obj.KINDLE_END_CAUSE = 1 ∧
        t.nat Obj.KINDLE_END_US = s.dev.now / 100 % 2 ^ 32 ∧ t.power.kindlingEnded = true ∧
        ∀ g, g < 32 → s.dev.sgUsed g = true → (t.sgp g).safe = some (1, s.dev.now + 1)) ∧
    (s.dev.now < s.dev.lanes.kindledAt + 100000 * s.dev.nat Obj.KINDLE_TIMEOUT_MS →
      Gives .kindleTimeout s fun t => s.dev.Untouched t)) ∧
  ((∀ s : State,
    (s.dev.power.banked = true → s.dev.nat Obj.BANK_STATE = 4 → s.dev.power.inReset = false → s.dev.ember.fromCicada = false →
      Gives .bankedRestart s fun t => t.power.banked = false ∧ t.op = .kindling ∧ t.now = 0 ∧
        t.nat Obj.KINDLE_PHASE = 2 ∧ t.nat Obj.RESET_CAUSE = 1 ∧ t.ins.holdN = true ∧ t.ins.supplyOk = true ∧
        ∀ k, k < 40 → t.nat (Obj.CRK_LOCK_STATE k) = s.dev.nat (Obj.CRK_LOCK_STATE k)) ∧
    (s.dev.power.banked = false ∨ s.dev.nat Obj.BANK_STATE ≠ 4 ∨ s.dev.power.inReset = true ∨ s.dev.ember.fromCicada = true →
      Gives .bankedRestart s fun t => s.dev.Untouched t)) ∧
  (∀ s : State, s.dev.alive = true → s.dev.power.banked = false →
    (s.dev.nat Obj.FW_PROBATION ≠ 0 → s.dev.kindledPast = true → s.dev.lanes.kindledAt + 180000000000 ≤ s.dev.now →
      Gives .probationExpiry s fun t => t.op = .kindling ∧ t.now = 0 ∧ t.nat Obj.RESET_CAUSE = 3 ∧
        (t.slot (s.dev.nat Obj.FW_ACTIVE_SLOT)).rejected = 7) ∧
    (s.dev.nat Obj.FW_PROBATION = 0 ∨ s.dev.kindledPast = false ∨ s.dev.now < s.dev.lanes.kindledAt + 180000000000 →
      Gives .probationExpiry s fun t => s.dev.Untouched t)))

/-- A periodic bank is due its interval after the last one, or after KINDLED, an early bank with 24 dirty pages and none in
the last 5 minutes; each begins with its cause and takes the dirty pages, the RECORD values and the battery's state. The
end of a bank commits what it took and reports its figures; after a power-fail bank the block stays banked, and an
overvoltage met during it halts. Compaction commits a checkpoint of everything before it; a patrol that is due starts, and
its end reports the worst sector and refreshes those named. Which Ember sequence numbers a bank and a compaction take is
free (log entry 76). That a command which cannot act changes nothing is the model's choice (log entry 17). -/
def Obligations.BanksBeginAndEnd : Prop :=
  (∀ s : State, s.dev.alive = true → s.dev.op = .kindled ∨ s.dev.op = .operating → s.dev.ember.bank = none →
    s.dev.power.banked = false →
    let began := fun (t : Dev) (cause : Nat) => t.nat Obj.BANK_STATE = cause ∧ t.ember.dirty = [] ∧ t.rep.histWait = [] ∧
      t.nat Obj.BANK_COUNT = s.dev.nat Obj.BANK_COUNT + 1 ∧
      ∃ b, t.ember.bank = some b ∧ b.cause = cause ∧ b.start = s.dev.now ∧ b.num = s.dev.nat Obj.BANK_COUNT + 1 ∧
        b.pages = s.dev.ember.dirty ∧ b.snap = t.recordVals ∧ b.battery = s.dev.batteryRec
    let due := s.dev.ember.lastBank.getD s.dev.lanes.kindledAt + 6000000000 * s.dev.nat Obj.BANK_INTERVAL_MIN
    s.dev.nat Obj.BANK_COUNT + 1 < counterMod Obj.BANK_COUNT →
    (due ≤ s.dev.now → Gives .periodicBankDue s fun t => began t 1) ∧
    (s.dev.now < due → Gives .periodicBankDue s fun t => s.dev.Untouched t) ∧
    (24 ≤ s.dev.ember.dirty.length → (∀ a, s.dev.ember.lastBank = some a → a + 30000000000 ≤ s.dev.now) →
      Gives .earlyBankDue s fun t => began t 2) ∧
    (s.dev.ember.dirty.length < 24 ∨ (∃ a, s.dev.ember.lastBank = some a ∧ s.dev.now < a + 30000000000) →
      Gives .earlyBankDue s fun t => s.dev.Untouched t)) ∧
  (∀ (s : State) (bytes us : Nat), s.dev.power.inReset = false →
    (∀ b : Bank, s.dev.ember.bank = some b →
      (s.dev.op ≠ .haltSafe ∨ s.dev.nat Obj.FW_PROBATION = 0 → s.dev.power.overAfter = none →
        Gives (.bankEnd bytes us) s fun t => t.ember.bank = none ∧ t.ember.lastBank = some s.dev.now ∧ t.banked = b.snap ∧
          t.nat Obj.BANK_LAST_TIME = s.dev.now ∧ t.nat Obj.BANK_LAST_BYTES = min bytes 16384 ∧
          t.nat Obj.BANK_LAST_US = sat (2 ^ 32 - 1) us ∧
          t.nat Obj.BANK_STATE = (if b.cause = 3 then 4 else 0) ∧ t.power.banked = s.dev.power.banked ∧ t.op = s.dev.op ∧
          t.rep.hist = (b.hist.reverse ++ s.dev.rep.hist).take 256 ∧
          ∃ q, s.dev.ember.seqNext ≤ q ∧ t.ember.seqNext = q + 2 ∧
            t.ember.log = s.dev.ember.log ++ [⟨3, q, b.battery, []⟩, ⟨0x21, q + 1, [b.num], []⟩]) ∧
      (∀ v : Nat, s.dev.Guarded → s.dev.power.overAfter = some v →
        (s.dev.nat Obj.FW_PROBATION = 0 → Gives (.bankEnd bytes us) s fun t => t.Halted 8 v ∧ t.ember.bank = none ∧ t.banked = b.snap) ∧
        (s.dev.nat Obj.FW_PROBATION ≠ 0 → Gives (.bankEnd bytes us) s fun t =>
          t.op = .kindling ∧ t.now = 0 ∧ t.nat Obj.RESET_CAUSE = 3))) ∧
    (s.dev.ember.bank = none → s.dev.op ≠ .haltSafe ∨ s.dev.nat Obj.FW_PROBATION = 0 →
      Gives (.bankEnd bytes us) s fun t => s.dev.Untouched t)) ∧
  ((∀ s : State, s.dev.alive = true →
    (s.dev.power.banked = false → s.dev.ember.bank = none → s.dev.op ≠ .loader → s.dev.op ≠ .replay →
      s.dev.nat Obj.EMB_CHECKPOINTS + 1 < counterMod Obj.EMB_CHECKPOINTS →
      Gives .emberCompaction s fun t => t.ember.checkpoint = s.dev.ember.seqNext - 1 ∧ s.dev.ember.seqNext < t.ember.seqNext ∧
        t.nat Obj.EMB_CHECKPOINTS = s.dev.nat Obj.EMB_CHECKPOINTS + 1 ∧
        t.banked = s.dev.banked ∧ t.staged = s.dev.staged ∧ s.dev.ember.log <+: t.ember.log) ∧
    (s.dev.power.banked = true ∨ s.dev.ember.bank.isSome ∨ s.dev.op = .loader ∨ s.dev.op = .replay →
      Gives .emberCompaction s fun t => s.dev.Untouched t)) ∧
  (∀ s : State, s.dev.alive = true → s.dev.power.banked = false →
    let due := s.dev.nat Obj.PATROL_LAST_S + 2592000 ≤ s.dev.nat Obj.POWERED_TIME_S ∨ s.dev.ember.patrolDue = true
    (due → s.dev.op = .kindled ∨ s.dev.op = .operating → s.dev.nat Obj.PATROL_STATE = 0 →
      Gives .patrolStart s fun t => t.nat Obj.PATROL_STATE = 1 ∧ s.dev.SameElse t (fun k => k == Obj.PATROL_STATE)) ∧
    (¬ due ∨ s.dev.nat Obj.PATROL_STATE ≠ 0 → Gives .patrolStart s fun t => s.dev.Untouched t)) ∧
  (∀ (s : State) (worst : Nat) (bad : List Nat), s.dev.alive = true → s.dev.power.banked = false →
    (s.dev.nat Obj.PATROL_STATE = 1 → s.dev.nat Obj.PATROL_REFRESHED + bad.length < counterMod Obj.PATROL_REFRESHED →
      Gives (.patrolComplete worst bad) s fun t => t.nat Obj.PATROL_STATE = 0 ∧ t.nat Obj.PATROL_WORST_BITS = sat 65535 worst ∧
        t.nat Obj.PATROL_LAST_S = s.dev.nat Obj.POWERED_TIME_S ∧ t.nat Obj.PATROL_LAST_DAY = s.dev.calDayNow ∧
        t.ember.patrolDue = false ∧ t.nat Obj.PATROL_REFRESHED = s.dev.nat Obj.PATROL_REFRESHED + bad.length ∧
        (bad ≠ [] → t.active 0x0403 0xFFFF = true)) ∧
    (s.dev.nat Obj.PATROL_STATE ≠ 1 → Gives (.patrolComplete worst bad) s fun t => s.dev.Untouched t)))

/-- Records of the event buffer that fill a segment go to one with the next number, chained to the seal before it; with
fewer, a segment of the capture in progress is sealed, and with no capture none is. Recovery finds the head, seals a
segment that the boot before left open, and from then on segments are sealed. An erase of a working die takes its oldest
256 segments that are not frozen, under one intent, and retires the blocks that fail; failed packets of a link are resent,
and the third in a row trains it again. Records lost to a full buffer are counted once there is room, with the condition,
which ends 10 s after the last loss. When an overrun is raised, and the numbers an erase takes, are the model's readings
(log entries 68 and 76). That a command which cannot act changes nothing is the model's choice (log entry 17). -/
def Obligations.JournalSealsAndErases : Prop :=
  ((∀ s : State, s.dev.alive = true → s.dev.power.banked = false →
    let fit := segFit s.dev.jnl.buf none 61376
    let sealed := fun (t : Dev) (g : Seg) => t.jnl.segs = s.dev.jnl.segs ++ [g] ∧ t.jnl.head = s.dev.jnl.head + 1 ∧
      g.num = s.dev.jnl.head ∧ g.truncated = false ∧ g.resetCount = s.dev.nat Obj.RESET_COUNT ∧
      g.prev = padTo 32 s.dev.jnl.lastSeal ∧ g.sig = sha256 g.sealed ∧ t.jnl.lastSeal = g.sig
    (s.dev.jnl.recovered = true → fit < s.dev.jnl.buf.length → Gives .segmentSeal s fun t => ∃ g, sealed t g ∧ g.kind = 0 ∧
      g.frozen = false ∧ g.body = segRecords (s.dev.jnl.buf.take fit) none) ∧
    (s.dev.jnl.recovered = true → s.dev.jnl.buf.length ≤ fit → s.dev.capturing = true → Gives .segmentSeal s fun t =>
      ∃ g, sealed t g ∧ g.kind = 1 ∧ g.frozen = s.dev.jnl.freezeDue ∧ g.first = s.dev.jnl.capStart ∧ g.body.length = 61376) ∧
    (s.dev.jnl.recovered = false ∨ (s.dev.jnl.buf.length ≤ fit ∧ s.dev.capturing = false) →
      Gives .segmentSeal s fun t => s.dev.Untouched t)) ∧
  (∀ (s : State) (head : Nat), s.dev.alive = true → s.dev.power.banked = false →
    (s.dev.jnl.recovered = false → s.dev.kindledPast = true → s.dev.op ≠ .replay →
      (head ≤ s.dev.jnl.head → Gives (.journalRecoveryDone head) s fun t => t.jnl.recovered = true ∧
        t.jnl.boot = s.dev.jnl.head ∧ t.jnl.segs = s.dev.jnl.segs ∧ t.dict = s.dev.dict ∧
        t.jnl.firsts = tabIns s.dev.jnl.firsts (s.dev.nat Obj.RESET_COUNT) s.dev.jnl.head) ∧
      (s.dev.jnl.head < head → Gives (.journalRecoveryDone head) s fun t => t.jnl.recovered = true ∧
        t.jnl.boot = s.dev.jnl.head + 1 ∧
        ∃ g, t.jnl.segs = s.dev.jnl.segs ++ [g] ∧ g.num = s.dev.jnl.head ∧ g.kind = 0 ∧ g.truncated = true)) ∧
    (s.dev.jnl.recovered = true ∨ s.dev.kindledPast = false ∨ s.dev.op = .replay →
      Gives (.journalRecoveryDone head) s fun t => s.dev.Untouched t))) ∧
  (∀ (s : State) (die : Fin 7), s.dev.alive = true → s.dev.power.banked = false →
    (∀ (block : Nat) (failed : List Nat), let j := die.val + 1
      (s.dev.nat (Obj.JD_STATE j) = 1 → s.dev.nat (Obj.JD_BAD_BLOCKS j) + failed.length < counterMod (Obj.JD_BAD_BLOCKS j) →
        let mine := s.dev.jnl.segs.filter fun g => g.num % max 1 (s.dev.nat Obj.JNL_DIES) == die.val && !g.frozen
        let gone := (mine.take 256).map Seg.num
        Gives (.journalEraseBatch die block failed) s fun t =>
          t.jnl.segs = s.dev.jnl.segs.filter (fun g => !gone.contains g.num) ∧
          t.jnl.caps = s.dev.jnl.caps.filter (fun c => t.jnl.segs.any (s.dev.ofCapture c)) ∧
          t.nat (Obj.JD_BAD_BLOCKS j) = s.dev.nat (Obj.JD_BAD_BLOCKS j) + failed.length ∧
          t.nat (Obj.JD_STATE j) = (if 160 < s.dev.nat (Obj.JD_BAD_BLOCKS j) + failed.length then 2 else 1) ∧
          t.nat (Obj.JD_ERASE_RESERVE_MIB j) = sat (2 ^ 32 - 1) (s.dev.nat (Obj.JD_ERASE_RESERVE_MIB j) + 16) ∧
          t.ember.seqNext = s.dev.ember.seqNext + 2) ∧
      (s.dev.nat (Obj.JD_STATE j) ≠ 1 → Gives (.journalEraseBatch die block failed) s fun t => s.dev.Untouched t)) ∧
    (s.dev.nat Obj.VIR_RESENDS + 1 < counterMod Obj.VIR_RESENDS →
      (lookD 0 s.dev.jnl.fails (die + 1) ≠ 2 → Gives (.viresquePacketFail die) s fun t =>
        lookD 0 t.jnl.fails (die + 1) = lookD 0 s.dev.jnl.fails (die + 1) + 1 ∧
        t.nat Obj.VIR_RESENDS = s.dev.nat Obj.VIR_RESENDS + 1 ∧ s.dev.SameBut t [Obj.VIR_RESENDS]) ∧
      (lookD 0 s.dev.jnl.fails (die + 1) = 2 → s.dev.nat Obj.VIR_RETRAINS + 1 < counterMod Obj.VIR_RETRAINS →
        Gives (.viresquePacketFail die) s fun t => lookD 0 t.jnl.fails (die + 1) = 0 ∧
          t.nat Obj.VIR_RESENDS = s.dev.nat Obj.VIR_RESENDS + 1 ∧ t.nat Obj.VIR_RETRAINS = s.dev.nat Obj.VIR_RETRAINS + 1 ∧
          s.dev.SameBut t [Obj.VIR_RESENDS, Obj.VIR_RETRAINS]))) ∧
  (∀ s : State, s.dev.alive = true → s.dev.power.banked = false →
    (0 < s.dev.jnl.lost → s.dev.bufFill + 256 ≤ 524288 →
      s.dev.nat Obj.JNL_OVERRUN_RECORDS + s.dev.jnl.lost < counterMod Obj.JNL_OVERRUN_RECORDS →
      Gives .overrunRecord s fun t =>
        (∃ c, t.cond 0x0404 0xFFFF = some c ∧ c.detail = s.dev.jnl.lost % 2 ^ 32) ∧
        t.nat Obj.JNL_OVERRUN_RECORDS = s.dev.nat Obj.JNL_OVERRUN_RECORDS + s.dev.jnl.lost) ∧
    (s.dev.jnl.lost = 0 ∨ 524288 < s.dev.bufFill + 256 → Gives .overrunRecord s fun t => s.dev.Untouched t) ∧
    (s.dev.jnl.lost = 0 → s.dev.jnl.lostLast + 1000000000 ≤ s.dev.now →
      Gives .journalOverrunClear s fun t => t.active 0x0404 0xFFFF = false) ∧
    (s.dev.jnl.lost ≠ 0 ∨ s.dev.now < s.dev.jnl.lostLast + 1000000000 →
      Gives .journalOverrunClear s fun t => s.dev.Untouched t))

/-- The states of a capture: the window fills, decimation begins with a full SRAM that drains too slowly, the capture ends
after its time, and the drained capture enters the directory with its segments sealed, frozen where that is due and within
a quarter of the capacity. A trigger starts an armed capture whose window is full while rung 5 is not shed, and otherwise
leaves the capture as it is; a capture of the directory, or the one in progress, is frozen and released with its segments.
What a trigger does while the capture is disarmed, draining or shed is the model's reading (log entry 71). That a command
which cannot act changes nothing is the model's choice (log entry 17). -/
def Obligations.CaptureStatesAdvance : Prop :=
  (∀ s : State, s.dev.alive = true → s.dev.power.banked = false →
    let st := s.dev.nat Obj.CAP_STATE
    let full := s.dev.jnl.refillAt + 100000 * s.dev.nat Obj.CAP_PRE_MS
    let due := s.dev.jnl.capStart + 100000 * s.dev.jnl.capPost
    ((st = 1 → full ≤ s.dev.now → Gives .preTriggerWindowFilled s fun t => t.nat Obj.CAP_STATE = 2) ∧
    (st ≠ 1 ∨ s.dev.now < full → Gives .preTriggerWindowFilled s fun t => s.dev.Untouched t)) ∧
    ((st = 3 → s.dev.drainRate < s.dev.jnl.capRate → Gives .captureSramFull s fun t =>
      t.nat Obj.CAP_STATE = 4 ∧ t.nat Obj.CAP_DECIMATION = s.dev.decimation ∧ t.active 0x0405 0xFFFF = true) ∧
    (st = 3 ∨ st = 4 → st = 4 ∨ s.dev.jnl.capRate ≤ s.dev.drainRate → Gives .captureSramFull s fun t =>
      t.nat Obj.CAP_STATE = st ∧ t.nat Obj.CAP_DECIMATION = s.dev.nat Obj.CAP_DECIMATION ∧ t.rep = s.dev.rep) ∧
    (st ≠ 3 → st ≠ 4 → Gives .captureSramFull s fun t => s.dev.Untouched t)) ∧
    ((st = 3 ∨ st = 4 → due ≤ s.dev.now → Gives .capturePostEnd s fun t =>
      t.nat Obj.CAP_STATE = 5 ∧ s.dev.SameBut t [Obj.CAP_STATE]) ∧
    ((st ≠ 3 ∧ st ≠ 4) ∨ s.dev.now < due → Gives .capturePostEnd s fun t => s.dev.Untouched t)) ∧
    (∀ rate segs : Nat,
      (st = 5 → s.dev.nat Obj.CAP_FIRST_SEG ≤ s.dev.jnl.head →
        let first := s.dev.nat Obj.CAP_FIRST_SEG
        let done := (s.dev.jnl.segs.filter fun g => g.kind == 1 && decide (first ≤ g.num)).length
        let others := (s.dev.jnl.segs.filter fun g => g.frozen && !(g.kind == 1 && decide (first ≤ g.num))).length
        Gives (.captureDrainDone rate segs) s fun t => t.nat Obj.CAP_STATE = (if s.dev.nat Obj.CAP_ARM = 1 then 1 else 0) ∧
          t.nat Obj.CAP_DRAIN_RATE = sat (2 ^ 32 - 1) rate ∧ t.active 0x0405 0xFFFF = false ∧
          t.jnl.caps.length = s.dev.jnl.caps.length + 1 ∧
          t.jnl.caps.getLast? = some ⟨s.dev.nat Obj.CAP_NUMBER, s.dev.nat Obj.CAP_TRIG_TIME, first, segs,
            s.dev.nat Obj.CAP_DECIMATION, s.dev.jnl.freezeDue && decide (4 * (others + segs) ≤ s.dev.jnlCapacity * 16)⟩ ∧
          t.jnl.head = s.dev.jnl.head + (segs - done) ∧ t.jnl.freezeDue = false ∧ t.jnl.refillAt = s.dev.now) ∧
      (st ≠ 5 → Gives (.captureDrainDone rate segs) s fun t => s.dev.Untouched t))) ∧
  ((∀ (s : State) (o : Origin), Accepted (.capTrigger o) s o Obj.CAP_TRIGGER [1] fun u t =>
    u.nat Obj.CAP_NUMBER + 1 < counterMod Obj.CAP_NUMBER →
    if u.nat Obj.CAP_ARM ≠ 0 ∧ u.nat Obj.CAP_STATE = 2 ∧ bit (u.nat Obj.SHED_STATE) 2 = false then
      t.nat Obj.CAP_STATE = 3 ∧ t.nat Obj.CAP_TRIG_SOURCE = 0xFFFF ∧ t.nat Obj.CAP_TRIG_TIME = u.now ∧
      t.nat Obj.CAP_NUMBER = u.nat Obj.CAP_NUMBER + 1 ∧ t.nat Obj.CAP_FIRST_SEG = u.jnl.head ∧ t.nat Obj.CAP_DECIMATION = 1 ∧
      t.jnl.capStart = u.now ∧ t.jnl.capPost = u.nat Obj.CAP_POST_MS ∧ t.jnl.capRate = u.captureRate ∧
      t.jnl.freezeDue = (u.nat Obj.CAP_AUTO_FREEZE == 1)
    else t.nat Obj.CAP_STATE = u.nat Obj.CAP_STATE ∧ t.nat Obj.CAP_TRIG_SOURCE = u.nat Obj.CAP_TRIG_SOURCE ∧
      t.nat Obj.CAP_NUMBER = u.nat Obj.CAP_NUMBER ∧ t.jnl.capStart = u.jnl.capStart) ∧
  (∀ (s : State) (o : Origin) (num : Fin 4294967296) (i : Instr) (key : Nat) (on : Bool),
    (i, key, on) ∈ [(Instr.capFreeze o num, Obj.CAP_FREEZE, true), (.capUnfreeze o num, Obj.CAP_UNFREEZE, false)] →
    Accepted i s o key (leBytes 4 num) fun u t =>
      (∀ x, u.jnl.caps.find? (fun y => y.num == num.val) = some x →
        t.jnl.caps = u.jnl.caps.map (fun y => if y.num = num.val then { y with frozen := on } else y) ∧
        t.jnl.segs = u.jnl.segs.map (fun g => if u.ofCapture x g then { g with frozen := on } else g)) ∧
      (u.jnl.caps.find? (fun y => y.num == num.val) = none → t.jnl.freezeDue = on ∧ t.jnl.caps = u.jnl.caps ∧
        t.jnl.segs = u.jnl.segs.map fun g =>
          if g.kind == 1 && decide (u.nat Obj.CAP_FIRST_SEG ≤ g.num) then { g with frozen := on } else g)))

/-! ### Lanes -/

/-- The states of a lane: the declared producer's heartbeat makes a waiting or silent lane alive, its absence makes it
silent and then excludes it, a heartbeat on the tick of that timer coming after it; bus-off excludes a lane, and it is
readmitted after a run of heartbeats without a gap. A lane that recovers from bus-off is excluded until it is readmitted.
What a gap in the run of heartbeats, a second cause and bus-off do are the model's readings (log entries 47, 48 and 49).
That a command which cannot act changes nothing is the model's choice (log entry 17). -/
def Obligations.LaneStatesChange : Prop :=
  ∀ (s : State) (l : LaneId), s.dev.Talks →
    let n := laneNo l
    let st := s.dev.nat (Obj.LN_STATE n)
    let silent := s.dev.lastBeat n + 100000 * s.dev.nat Obj.LANE_SILENT_MS
    let out := s.dev.lastBeat n + 100000 * s.dev.nat Obj.LANE_TIMEOUT_MS
    (s.dev.laneOn n = true →
      (∀ (node : Fin 128) (nmt : Byte), node.val ≠ 0 → node.val = s.dev.nat (Obj.LN_TCMS_NODE n) →
        (st = 1 ∨ st = 2 ∨ st = 3 → s.dev.now < out → Gives (.laneHeartbeatRx l node nmt) s fun t =>
          t.nat (Obj.LN_STATE n) = 2 ∧ t.nat (Obj.LN_LAST_HB n) = s.dev.now ∧
          (st = 3 → t.active 0x0201 (laneSource n) = false)) ∧
        (st = 1 ∨ st = 3 → out ≤ s.dev.now → Gives (.laneHeartbeatRx l node nmt) s fun t =>
          t.nat (Obj.LN_STATE n) = 4 ∧ t.nat (Obj.LN_LAST_HB n) = s.dev.now ∧ t.active 0x0203 (laneSource n) = true) ∧
        (st = 4 → Gives (.laneHeartbeatRx l node nmt) s fun t =>
          t.nat (Obj.LN_STATE n) = 4 ∧ t.nat (Obj.LN_LAST_HB n) = s.dev.now ∧
          (t.ln n).hbRun = some (if s.dev.now < s.dev.nat (Obj.LN_LAST_HB n) + 100000 * s.dev.nat Obj.LANE_SILENT_MS
            then (s.dev.ln n).hbRun.getD s.dev.now else s.dev.now))) ∧
      (∀ (node : Fin 128) (nmt : Byte), node.val = 0 ∨ node.val ≠ s.dev.nat (Obj.LN_TCMS_NODE n) →
        Gives (.laneHeartbeatRx l node nmt) s fun t => t.nat (Obj.LN_STATE n) = st ∧
          t.nat (Obj.LN_LAST_HB n) = s.dev.nat (Obj.LN_LAST_HB n) ∧ t.ln n = s.dev.ln n) ∧
      (st = 2 → silent ≤ s.dev.now → Gives (.laneSilentTimeout l) s fun t =>
        t.nat (Obj.LN_STATE n) = 3 ∧ t.active 0x0201 (laneSource n) = true) ∧
      (st = 1 ∨ st = 3 → out ≤ s.dev.now → s.dev.active 0x0203 (laneSource n) = false →
        s.dev.nat (Obj.LN_EXCL_COUNT n) + 1 < counterMod (Obj.LN_EXCL_COUNT n) →
        Gives (.laneTimeout l) s fun t => t.nat (Obj.LN_STATE n) = 4 ∧ t.nat (Obj.LN_EXCL_CAUSE n) = 1 ∧
          t.nat (Obj.LN_EXCL_COUNT n) = s.dev.nat (Obj.LN_EXCL_COUNT n) + 1 ∧
          t.active 0x0203 (laneSource n) = true ∧ t.active 0x0201 (laneSource n) = false) ∧
      (Gives (.laneBusOff l) s fun t => t.nat (Obj.LN_STATE n) = 5 ∧ t.active 0x0203 (laneSource n) = true ∧
        t.active 0x0201 (laneSource n) = false ∧ (t.ln n).usdo = none ∧
        (s.dev.active 0x0203 (laneSource n) = false → t.nat (Obj.LN_EXCL_CAUSE n) = 3))) ∧
    (s.dev.laneOn n = false ∨ st ≠ 2 ∨ s.dev.now < silent → Gives (.laneSilentTimeout l) s fun t => s.dev.Untouched t) ∧
    (s.dev.laneOn n = false ∨ (st = 2 ∧ s.dev.now < silent) ∨ ((st = 1 ∨ st = 3) ∧ s.dev.now < out) ∨ st = 4 →
      Gives (.laneTimeout l) s fun t => s.dev.Untouched t) ∧
    (∀ r : Nat, st = 4 → (s.dev.ln n).hbRun = some r →
      let due := r + 100000 * s.dev.nat Obj.LANE_READMIT_MS
      let gap := s.dev.nat (Obj.LN_LAST_HB n) + 100000 * s.dev.nat Obj.LANE_SILENT_MS
      (due ≤ s.dev.now → s.dev.now < gap → Gives (.laneReadmit l) s fun t => t.nat (Obj.LN_STATE n) = 2 ∧
        t.nat (Obj.LN_EXCL_CAUSE n) = 0 ∧ t.active 0x0203 (laneSource n) = false) ∧
      (s.dev.now < due ∨ gap ≤ s.dev.now → Gives (.laneReadmit l) s fun t => s.dev.Untouched t)) ∧
    (st = 5 → Gives (.laneBusOffRecovered l) s fun t => t.nat (Obj.LN_STATE n) = 4 ∧ t.rep = s.dev.rep ∧ t.sent = s.dev.sent ∧
      s.dev.SameBut t [Obj.LN_STATE n]) ∧
    (st ≠ 5 → Gives (.laneBusOffRecovered l) s fun t => s.dev.Untouched t)

/-- A TIME frame of an alive lane waits for one of another alive lane that agrees within the window, whose pair sets
the mapping of train time; one of a lane that is not alive waits for none. A first SYNC frame acts, and one that repeats it
on another lane does not. An NMT command opens a vote window at its first arrival, and takes effect at the agreeing arrival
of a second alive lane: operational, stopped, or pre-operational. The NMT states come from outside the spec (log entry 11);
the vote of NMT commands and the use of a TIME pair are the model's readings (log entries 51 and 52). -/
def Obligations.TimeSyncNmt : Prop :=
  (∀ (s : State) (l : LaneId), s.dev.Talks → s.dev.laneOn (laneNo l) = true →
    (s.dev.laneAlive (laneNo l) = true →
      (∀ tr : Nat, s.dev.lanes.timeWait = [] → Gives (.laneTimeRx l tr) s fun t =>
        t.lanes.timeWait = [(laneNo l, tr, s.dev.now)] ∧ t.ring.trainMap = s.dev.ring.trainMap) ∧
      (∀ tr m tm st : Nat, s.dev.lanes.timeWait = [(m, tm, st)] → s.dev.now < st + 100000 * s.dev.nat Obj.VOTE_WINDOW_MS →
        let near := m ≠ laneNo l ∧ s.dev.laneAlive m = true ∧
          (100 * ((tr : Int) - tm) - ((s.dev.now : Int) - st)).natAbs ≤ 100 * s.dev.nat Obj.TIME_TOL_US
        (near → Gives (.laneTimeRx l tr) s fun t => t.lanes.timeWait = [] ∧ t.ring.trainMap = some (tm, st) ∧
          t.nat Obj.TIME_RX_TRAIN = tm % 2 ^ 64 ∧ t.nat Obj.TIME_RX_STAMP = st) ∧
        (¬ near → Gives (.laneTimeRx l tr) s fun t => t.lanes.timeWait = [(m, tm, st), (laneNo l, tr, s.dev.now)] ∧
          t.ring.trainMap = s.dev.ring.trainMap)) ∧
      (∀ c : Option (Fin 241), s.dev.lanes.sync = none → Gives (.laneSyncRx l c) s fun t =>
        t.lanes.sync = some ((c.map fun x => x.val + 1).getD 0, laneNo l, s.dev.now)) ∧
      (∀ (c m st : Nat), s.dev.lanes.sync = some (c, m, st) → m ≠ laneNo l → s.dev.now < st + 100000 * s.dev.nat Obj.VOTE_WINDOW_MS →
        Gives (.laneSyncRx l none) s fun t => t.lanes.sync = some (c, m, st) ∧ t.sent = s.dev.sent)) ∧
    (s.dev.laneAlive (laneNo l) = false →
      (∀ tr : Nat, Gives (.laneTimeRx l tr) s fun t => t.lanes.timeWait = s.dev.lanes.timeWait ∧ t.ring.trainMap = s.dev.ring.trainMap) ∧
      (∀ c : Option (Fin 241), Gives (.laneSyncRx l c) s fun t => t.lanes.sync = s.dev.lanes.sync ∧ t.sent = s.dev.sent))) ∧
  (∀ (s : State) (l : LaneId) (node : Fin 128) (c n : Nat) (i : Instr),
    (c, i, n) ∈ [(1, Instr.nmtStartRemoteNode l node, 5), (2, .nmtStopRemoteNode l node, 4),
      (0x80, .nmtEnterPreOperational l node, 0x7F), (0x81, .nmtResetNode l node, 0x7F), (0x82, .nmtResetCommunication l node, 0x7F)] →
    s.dev.Talks → s.dev.laneOn (laneNo l) = true → s.dev.laneAlive (laneNo l) = true → 2 ≤ s.dev.aliveCount →
    node.val = 0 ∨ node.val = s.dev.nodeId →
    (∀ x ∈ s.dev.lanes.wins, s.dev.now < x.opened + s.dev.voteW) →
    (s.dev.winOf 512 (256 * c + node) = none → Gives i s fun t => t.lanes.nmt = s.dev.lanes.nmt ∧
      t.lanes.wins = s.dev.lanes.wins ++ [⟨512, 256 * c + node, s.dev.now, [(laneNo l, leBytes 1 c ++ leBytes 1 node)], none, 0⟩]) ∧
    (∀ (w : VoteWin) (m : LaneId), s.dev.winOf 512 (256 * c + node) = some w → w.body = none →
      w.arrivals = [(laneNo m, leBytes 1 c ++ leBytes 1 node)] → m ≠ l → s.dev.laneAlive (laneNo m) = true →
      Gives i s fun t => t.lanes.nmt = n))

/-- A read of an object by a lane is answered there with the value current at the read, or with the abort of a read
that is refused; one for an admitted member is asked of it by a DICT_REQ frame. An open segmented transfer ends after a
second without a segment. A download that is no vote is answered on its lane with an abort, a malformed one too; the first
segment opens a transfer. A write of the service port that its checks refuse changes no object it names: it is answered
with status 7 and the abort code. Some abort codes and the client of the service port are the model's readings (log entries
14, 55 and 57). -/
def Obligations.TransfersAnswered : Prop :=
  ((∀ (s : State) (l : LaneId) (node : Fin 128) (key : Fin 16777216), s.dev.Talks → s.dev.laneOn (laneNo l) = true →
    s.dev.lanes.nmt ≠ 4 → s.dev.stokerRuns = true →
    (node.val = s.dev.nodeId → s.dev.usdoBusy (laneNo l) = false → Gives (.usdoUpload l node key) s fun t =>
      t.sent = s.dev.sent ++ [if readRefusal key = 0 then .usdoData (laneNo l) key (t.read key)
        else .usdoAbort (laneNo l) (readRefusal key)]) ∧
    (∀ p : Nat, node.val ≠ s.dev.nodeId → s.dev.proxied node = some p → s.dev.usdoBusy (laneNo l) = false →
      Gives (.usdoUpload l node key) s fun t => t.ring.askSeq = s.dev.ring.askSeq + 1 ∧
        t.ring.asked = s.dev.ring.asked ++ [(s.dev.ring.askSeq + 1, laneNo l, node.val, key.val)] ∧
        t.sent = s.dev.sent ++ [.ring 0x20 0 s.dev.ownPos p (lookD 0 s.dev.ring.txSeq (16 * 0x20 + p))
          (ringPayload 0x20 [((s.dev.ring.askSeq + 1 : Nat) : Int), ((key.val : Nat) : Int)])]) ∧
    (node.val = s.dev.nodeId ∨ (s.dev.proxied node).isSome → s.dev.usdoBusy (laneNo l) = true →
      Gives (.usdoUpload l node key) s fun t => t.sent = s.dev.sent ++ [.usdoAbort (laneNo l) 0x05040001])) ∧
  (∀ (s : State) (l : LaneId) (u : Usdo), s.dev.Talks → (s.dev.ln (laneNo l)).usdo = some u →
    (u.last + 100000000 ≤ s.dev.now → s.dev.laneOn (laneNo l) = true → Gives (.usdoSegmentTimeout l) s fun t =>
      (t.ln (laneNo l)).usdo = none ∧ t.sent = s.dev.sent ++ [.usdoAbort (laneNo l) 0x05040000]) ∧
    (s.dev.now < u.last + 100000000 → Gives (.usdoSegmentTimeout l) s fun t => s.dev.Untouched t))) ∧
  (∀ (s : State) (l : LaneId), s.dev.Talks → s.dev.op ≠ .haltSafe ∨ s.dev.nat Obj.FW_PROBATION = 0 →
    s.dev.laneOn (laneNo l) = true → s.dev.lanes.nmt ≠ 4 →
    (Gives (.writeRegister (.malformed l)) s fun t => t.sent = s.dev.sent ++ [.usdoAbort (laneNo l) 0x05040001] ∧
      t.grants = s.dev.grants ∧ t.staged = s.dev.staged) ∧
    (∀ (node : Fin 128) (key : Fin 16777216) (b : List Byte), node.val = s.dev.nodeId → s.dev.stokerRuns = true →
      s.dev.usdoBusy (laneNo l) = false → (∀ x ∈ s.dev.lanes.wins, s.dev.now < x.opened + s.dev.voteW) →
      (key.val ≠ Obj.VOTED_WRITE → Gives (.writeRegister (.download l node key b)) s fun t =>
        t.sent = s.dev.sent ++ [.usdoAbort (laneNo l) 0x06010000] ∧ t.grants = s.dev.grants ∧ t.staged = s.dev.staged) ∧
      (Gives (.writeRegister (.segment l node key b false)) s fun t =>
        (t.ln (laneNo l)).usdo = some ⟨node, key, s.dev.now, b⟩ ∧ t.sent = s.dev.sent ∧ t.grants = s.dev.grants))) ∧
  (∀ (s : State) (peer req counter : Nat) (tag b : List Byte) (key : Fin 16777216), s.dev.power.inReset = false →
    s.dev.power.banked = false → s.dev.op ≠ .haltSafe ∨ s.dev.nat Obj.FW_PROBATION = 0 → s.dev.portOn = true →
    s.dev.portShed = false → s.dev.lc = .provision ∨ s.dev.lc = .factory →
    1 ≤ b.length → b.length ≤ 1024 → s.dev.staticCode key b ≠ 0 →
    Gives (.writeRegister (.svc peer req counter tag key 0 b)) s fun t =>
      t.sent = s.dev.sent ++ [.svc peer 0x82 req 7 (leBytes 4 (s.dev.staticCode key b))] ∧ t.grants = s.dev.grants ∧
      t.staged = s.dev.staged ∧ t.chan = s.dev.chan ∧ t.op = s.dev.op ∧ t.lc = s.dev.lc ∧ t.cfg = s.dev.cfg)

/-- A vote window that is over closes: one that has been executed just ends, one with a single arrival is unmatched, with
VOTE_DISAGREE on its lane, and one with arrivals of two lanes that never agreed is a dissent of both. VOTE_DISAGREE ends a
second after the last disagreement, CLAIM_CONFLICT a second after the last conflict. That a command which
cannot act changes nothing is the model's choice (log entry 17). -/
def Obligations.VoteWindowsClose : Prop :=
  (∀ (s : State) (c : Fin 513) (q : Fin 65536), s.dev.Talks →
    (∀ w : VoteWin, s.dev.winOf c q = some w →
      (w.opened + s.dev.voteW ≤ s.dev.now →
        (w.body.isSome → Gives (.voteWindowClose c q) s fun t => t.winOf c q = none ∧ t.rep = s.dev.rep ∧ t.dict = s.dev.dict ∧
          t.sent = s.dev.sent) ∧
        (∀ (l : LaneId) (b : List Byte), w.body = none → w.arrivals = [(laneNo l, b)] →
          s.dev.nat (Obj.LN_UNMATCHED (laneNo l)) + 1 < counterMod (Obj.LN_UNMATCHED (laneNo l)) →
          Gives (.voteWindowClose c q) s fun t => t.winOf c q = none ∧ t.active 0x0202 (laneSource (laneNo l)) = true ∧
            t.nat (Obj.LN_UNMATCHED (laneNo l)) = s.dev.nat (Obj.LN_UNMATCHED (laneNo l)) + 1) ∧
        (∀ (l m : LaneId) (b e : List Byte), w.body = none → w.arrivals = [(laneNo l, b), (laneNo m, e)] → l ≠ m →
          (∀ k ∈ [laneNo l, laneNo m], s.dev.nat (Obj.LN_DISSENT k) + 1 < counterMod (Obj.LN_DISSENT k)) →
          Gives (.voteWindowClose c q) s fun t => t.winOf c q = none ∧
            t.active 0x0202 (if c.val < 512 then 0x600 + c.val else 0xFFFF) = true ∧
            ∀ k ∈ [laneNo l, laneNo m], t.nat (Obj.LN_DISSENT k) = s.dev.nat (Obj.LN_DISSENT k) + 1)) ∧
      (s.dev.now < w.opened + s.dev.voteW → Gives (.voteWindowClose c q) s fun t => s.dev.Untouched t)) ∧
    (s.dev.winOf c q = none → Gives (.voteWindowClose c q) s fun t => s.dev.Untouched t)) ∧
  (∀ (s : State) (src : Fin 65536) (a : Nat), s.dev.Talks → look s.dev.lanes.voteDisAt src = some a →
    (a + 100000000 ≤ s.dev.now → Gives (.voteDisagreeClear src) s fun t => t.active 0x0202 src = false) ∧
    (s.dev.now < a + 100000000 → Gives (.voteDisagreeClear src) s fun t => s.dev.Untouched t)) ∧
  (∀ (s : State) (k : Fin 512), s.dev.Talks →
    ((s.dev.cl k).claimAt + 100000000 ≤ s.dev.now →
      Gives (.claimConflictClear k) s fun t => t.active 0x0302 (clSource k) = false) ∧
    (s.dev.now < (s.dev.cl k).claimAt + 100000000 → Gives (.claimConflictClear k) s fun t => s.dev.Untouched t))

/-- What the device sends by itself: an EMCY frame of the oldest waiting report in a free window, its heartbeat a
period after the last one, and a TPDO that is due with its content. The end of a source's hold-off: with nothing new
to report it just ends; a condition not yet reported is reported and a new hold-off begins. A coalescing window that
is over closes. The event timer's types, the state byte and the free EMCY window are the model's readings (log entries
11, 54 and 65). That a command which cannot act changes nothing is the model's choice (log entry 17). -/
def Obligations.LaneSendsAndReports : Prop :=
  (∀ s : State, s.dev.Talks →
    (∀ l : LaneId, let n := laneNo l
      (∀ (e : Nat × Report) (r : List (Nat × Report)), s.dev.emcyFree n = true → lookD [] s.dev.rep.emcy n = e :: r →
        Gives (.emcyWindow l) s fun t => lookD [] t.rep.emcy n = r ∧ t.emcyFree n = false ∧
          (e.1 = 0 → t.sent = s.dev.sent ++ [.can n (0x80 + s.dev.nodeId) (emcyBytes s.dev.errorRegister e.2)]) ∧
          t.sent.length = s.dev.sent.length + 1) ∧
      (s.dev.emcyFree n = false ∨ lookD [] s.dev.rep.emcy n = [] → Gives (.emcyWindow l) s fun t => s.dev.Untouched t) ∧
      (s.dev.laneOn n = true → (s.dev.ln n).lastHbSent + 100000 * s.dev.nat Obj.PROD_HB_TIME ≤ s.dev.now →
        Gives (.heartbeatPeriod l) s fun t => (t.ln n).lastHbSent = s.dev.now ∧
          ∃ r, t.sent = s.dev.sent ++ [.can n (0x700 + s.dev.nodeId)
            (heartbeatBytes s.dev.lanes.nmt s.dev.op.code s.dev.stageSt s.dev.digestHead)] ++ r ∧
            (s.dev.ringMaster = false → r = [])) ∧
      (s.dev.laneOn n = false ∨ s.dev.now < (s.dev.ln n).lastHbSent + 100000 * s.dev.nat Obj.PROD_HB_TIME →
        Gives (.heartbeatPeriod l) s fun t => s.dev.Untouched t)) ∧
    (∀ (p : Fin 16) (i : Instr), i = .tpdoEventTimer p ∨ (i = .statusPdoSend ∧ p.val = 15) →
      let due := s.dev.tpdoOk p = true ∧ s.dev.tpdoFree p = true ∧
        (s.dev.tpdoEvent p = true ∨ (s.dev.nat (Obj.TPDO_TYPE p) = 0xFE ∧ s.dev.tpdoNew p = true))
      (due → Gives i s fun t => lookD 0 t.lanes.tpdoAt p = s.dev.now ∧ lookD [] t.lanes.tpdoLast p = s.dev.tpdoContent p) ∧
      (¬ due → Gives i s fun t => s.dev.Untouched t))) ∧
  ((∀ (s : State) (src : Fin 65536) (e : Nat), s.dev.Talks → (s.dev.srcOf src).holdEnd = some e →
    (s.dev.now < e → Gives (.holdOffExpiry src) s fun t => s.dev.Untouched t) ∧
    (e ≤ s.dev.now → s.dev.rep.win = [] →
      ((∀ c, c ∈ s.dev.codesOf src ↔ c ∈ (s.dev.srcOf src).reported) → Gives (.holdOffExpiry src) s fun t =>
        (t.srcOf src).holdEnd = none ∧ t.sent = s.dev.sent ∧ t.rep.conds = s.dev.rep.conds) ∧
      (∀ c, c ∈ s.dev.codesOf src → c ∉ (s.dev.srcOf src).reported → Gives (.holdOffExpiry src) s fun t =>
        (t.srcOf src).reported = s.dev.codesOf src ∧ (t.srcOf src).holdEnd = some (s.dev.now + 1000000) ∧
        t.rep.conds = s.dev.rep.conds))) ∧
  (∀ (s : State) (code : Fin 65536), s.dev.Talks →
    ((lookD {} s.dev.rep.win code).win ≠ s.dev.now / 1000000 → Gives (.coalescingWindowClose code) s fun t =>
      (lookD {} t.rep.win code).first = none ∧ t.rep.conds = s.dev.rep.conds) ∧
    ((lookD {} s.dev.rep.win code).win = s.dev.now / 1000000 → Gives (.coalescingWindowClose code) s fun t => s.dev.Untouched t)))

/-- What a frame or a timer of the lanes leaves as it was: every lamp channel, what is granted and staged, the store,
supplies, sessions, field inputs and the life cycle, and every object but those of the lanes, train time and voting, and
those that reports count in. -/
def Obligations.LaneFrame : Prop :=
  ∀ (s t : State) (l : LaneId) (node : Fin 128) (nmt : Byte) (tr : Nat) (p : Fin 16) (src : Fin 65536) (k : Fin 512) (i : Instr),
    i ∈ [Instr.laneHeartbeatRx l node nmt, .laneTimeRx l tr, .laneSilentTimeout l, .laneTimeout l, .laneReadmit l, .laneBusOff l,
      .laneBusOffRecovered l, .emcyWindow l, .heartbeatPeriod l, .tpdoEventTimer p, .statusPdoSend, .voteDisagreeClear src,
      .claimConflictClear k, .holdOffExpiry src, .coalescingWindowClose src, .usdoSegmentTimeout l] →
    exec i s = .next t →
    t.pending = s.pending ∧ t.dev.now = s.dev.now ∧ t.dev.chan = s.dev.chan ∧ t.dev.grants = s.dev.grants ∧ t.dev.asks = s.dev.asks ∧
    t.dev.op = s.dev.op ∧ t.dev.lc = s.dev.lc ∧ t.dev.life = s.dev.life ∧ t.dev.grp = s.dev.grp ∧
    t.dev.ember = s.dev.ember ∧ t.dev.power = s.dev.power ∧ t.dev.admin = s.dev.admin ∧ t.dev.cfg = s.dev.cfg ∧
    t.dev.staged = s.dev.staged ∧ t.dev.banked = s.dev.banked ∧ t.dev.fin = s.dev.fin ∧ t.dev.pe = s.dev.pe ∧
    t.dev.gw = s.dev.gw ∧ t.dev.mx = s.dev.mx ∧ t.dev.guard = s.dev.guard ∧ t.dev.test = s.dev.test ∧ t.dev.ins = s.dev.ins ∧
    (s.dev.darkened = false → t.dev.outs.gate = s.dev.outs.gate ∧ t.dev.outs.iso = s.dev.outs.iso) ∧
    s.dev.SameElse t.dev fun key => [0x2040, 0x2200].contains (key / 256)

/-! ### Writes -/

/-- A named write is the general write of its object: from a lane through the voted envelope, from the service port at
offset 0; and of the named ones each brings its value's bytes to its object. That a named write is the general one is
the model's reading (log entry 125). -/
def Obligations.NamedWritesAreWrites : Prop :=
  (∀ (s : State) (l : LaneId) (node : Fin 128) (c : Fin 512) (q : Fin 65536) (key : Fin 16777216) (b : List Byte),
    exec (.writeRegister (.voted l node c q key b)) s = exec (.stagedWrite (.lane l node c q) key b) s) ∧
  (∀ (s : State) (peer req counter : Nat) (tag b : List Byte) (key : Fin 16777216),
    exec (.writeRegister (.svc peer req counter tag key 0 b)) s = exec (.stagedWrite (.svc peer req counter tag) key b) s) ∧
  (∀ (s : State) (o : Origin) (ch : Fin 96) (level : Fin 65536) (key : Fin 16777216), key.val = Obj.DIM_LEVEL ch →
    exec (.dimLevel o ch level) s = exec (.stagedWrite o key (leBytes 2 level)) s) ∧
  (∀ (s : State) (o : Origin) (group : Fin 256) (k : Fin 16777216) (key : Fin 16777216), key.val = Obj.FENCE_ISSUE →
    exec (.fenceIssue o group k) s = exec (.stagedWrite o key (leBytes 3 k ++ leBytes 1 group)) s) ∧
  (∀ (s : State) (o : Origin) (v : Nat) (i : Instr) (key : Fin 16777216),
    (i, v, key.val) ∈ [(Instr.cfgStageOpen o, 1, Obj.CFG_STAGE_CONTROL), (.cfgStageComplete o, 2, Obj.CFG_STAGE_CONTROL),
      (.cfgStageDiscard o, 3, Obj.CFG_STAGE_CONTROL), (.fwUpdOpen o, 1, Obj.FW_UPD_CONTROL),
      (.fwUpdVerify o, 2, Obj.FW_UPD_CONTROL), (.fwUpdActivate o, 3, Obj.FW_UPD_CONTROL),
      (.fwUpdAbandon o, 4, Obj.FW_UPD_CONTROL), (.replayEnter o, 1, Obj.REPLAY_CONTROL),
      (.replayStart o, 2, Obj.REPLAY_CONTROL), (.replayDiscard o, 3, Obj.REPLAY_CONTROL)] →
    exec i s = exec (.stagedWrite o key [BitVec.ofNat 8 v]) s)

/-- An accepted write of a lamp, an effect's data, a client's budget or retained bytes, the calendar or ERR_FIELD_COUNT is
granted: it waits, after those granted before it, for the next boundary of its group, with its writer and the instant at
which it counts: now, or in the closing 2.0 us of the group's frame the boundary that ends it, whose grant the journal has
there. Nothing the group shows changes before that boundary. -/
def Obligations.GrantedWritesWait : Prop :=
  ∀ (s : State) (o : Origin) (ch : Fin 96) (level : Fin 65536) (engine v : Fin 256) (p : Fin 8) (r : Fin 16) (client : Fin 512)
    (mw sec : Fin 4294967296) (data : List Byte) (i : Instr) (key : Nat) (b : List Byte),
    (i, key, b) ∈ [(Instr.dimLevel o ch level, Obj.DIM_LEVEL ch, leBytes 2 level),
      (.peChBind o ch engine, Obj.PE_CH_BIND ch, leBytes 1 engine), (.supClear o ch level, Obj.SUP_CLEAR ch, leBytes 2 level),
      (.gwData o p data, Obj.GW_DATA p, data), (.mxRow o r data, Obj.MX_ROW r, data),
      (.clBudgetNowMw o client mw, Obj.CL_BUDGET_NOW_MW client, leBytes 4 mw), (.clRetain o client data, Obj.CL_RETAIN client, data),
      (.calNow o sec, Obj.CAL_NOW, leBytes 4 sec), (.errFieldCount o v, Obj.ERR_FIELD_COUNT, leBytes 1 v)] →
    Accepted i s o key b fun u t =>
      let g := u.grantGroup key
      t.grants = u.grants ++ [⟨key, writeVal key b, writerOf o, u.grantInstant g, false⟩] ∧
      t.asks = u.asks ++ (if u.now < u.grantInstant g then [(g, 0)] else []) ∧ t.chan = u.chan ∧ t.val key = u.val key ∧
      t.staged = u.staged ∧ t.val Obj.CFG_STAGE_STATE = u.val Obj.CFG_STAGE_STATE

/-- START, STOP and a jump of a pattern engine count from their grant, in the closing 2.0 us of its reference group's frame
at the boundary that ends it; a start or stop discards the jumps that wait, but for those that may still play at that
boundary. A swap of a glowworm port or of the matrix is noted with its instant and the picture shown stays; a new lamp epoch
returns the life record to that of a new lamp, dates it, and is committed at once. -/
def Obligations.EffectWritesTaken : Prop :=
  (∀ (s : State) (o : Origin) (e : Fin 16) (seg : Fin 256),
    (Accepted (.peStart o e) s o (Obj.PE_CONTROL e) [1] fun u t =>
      (t.eng e).startAt = some (u.grantInstant (u.nat (Obj.PE_REF_GROUP e))) ∧ (t.eng e).stopAt = none ∧
      (t.eng e).jumps = u.peKept e ∧ t.nat (Obj.PE_JUMP_PENDING e) = ((u.peKept e).getLast?.map Prod.fst).getD 0xFF ∧
      t.nat (Obj.PE_STATE e) = u.nat (Obj.PE_STATE e)) ∧
    (Accepted (.peStop o e) s o (Obj.PE_CONTROL e) [2] fun u t =>
      (t.eng e).startAt = none ∧ (t.eng e).stopAt = some (u.grantInstant (u.nat (Obj.PE_REF_GROUP e))) ∧
      (t.eng e).jumps = u.peKept e ∧ t.nat (Obj.PE_JUMP_PENDING e) = ((u.peKept e).getLast?.map Prod.fst).getD 0xFF ∧
      t.nat (Obj.PE_STATE e) = u.nat (Obj.PE_STATE e)) ∧
    (Accepted (.peJumpSeg o e seg) s o (Obj.PE_JUMP_SEG e) (leBytes 1 seg) fun u t =>
      (t.eng e).jumps = (u.eng e).jumps ++ [(seg.val, u.grantInstant (u.nat (Obj.PE_REF_GROUP e)))] ∧
      t.nat (Obj.PE_JUMP_PENDING e) = seg ∧ (t.eng e).startAt = (u.eng e).startAt ∧ u.nat (Obj.PE_STATE e) ≠ 0)) ∧
  (∀ (s : State) (o : Origin) (k : Fin 8), Accepted (.gwSwap o k) s o (Obj.GW_SWAP k) [1] fun u t =>
    (t.port k).swapAt = some u.now ∧ (t.port k).front = (u.port k).front) ∧
  (∀ (s : State) (o : Origin), Accepted (.mxSwap o) s o Obj.MX_SWAP [1] fun u t =>
    t.mx.swapAt = some u.now ∧ t.mx.front = u.mx.front) ∧
  (∀ (s : State) (o : Origin) (ch : Fin 96), Accepted (.lifeReset o ch) s o (Obj.LIFE_RESET ch) [1] fun u t =>
    t.nat (Obj.LIFE_EQ_MS ch) = 0 ∧ t.nat (Obj.LIFE_LIT_MS ch) = 0 ∧ t.nat (Obj.LIFE_ABOVE_KNEE_MS ch) = 0 ∧
    t.num (Obj.LIFE_T_MAX ch) = 0 ∧ t.nat (Obj.LIFE_CAL_PM ch) = 1000 ∧ t.nat (Obj.LIFE_CAL_COUNT ch) = 0 ∧
    t.nat (Obj.LIFE_RATE_PM ch) = 1000 ∧ t.nat (Obj.LIFE_COL_Q_PM ch) = 1000 ∧
    t.nat (Obj.LIFE_INSTALL_DAY ch) = u.calStamp / 86400 ∧ (t.lf ch).setOne = some (u.grantInstant (ch / 4)) ∧
    (u.nat (Obj.LIFE_LAMP_EPOCH ch) + 1 < counterMod (Obj.LIFE_LAMP_EPOCH ch) →
      t.nat (Obj.LIFE_LAMP_EPOCH ch) = u.nat (Obj.LIFE_LAMP_EPOCH ch) + 1) ∧
    t.active 0x0109 ch = false ∧
    ∀ k ∈ [Obj.LIFE_EQ_MS ch, Obj.LIFE_CAL_PM ch, Obj.LIFE_LAMP_EPOCH ch, Obj.LIFE_INSTALL_DAY ch],
      storeVal t.banked k = t.val k)

/-- A fence counts each issuing client once, and dates its opening at the first; with all members' it completes, the next
number follows, 1 after the largest, and its commands are released; one issued after a timeout is only counted as late. A
timeout completes the fence with FENCE_TIMEOUT; before it nothing changes. A command of a client whose fence is pending, or
that has a task class, is held. A task fence takes its cycle, its instant and its period, puts the latch time and the cycle
ahead of the sections into the input image, and counts a cycle that does not follow the one before as missed. The instant of
a task image and the end of held commands are the model's readings (log entries 53 and 59). -/
def Obligations.FencesHoldAndRelease : Prop :=
  ((∀ (s : State) (o : Origin) (g : Fin 256) (k : Fin 16777216), s.dev.lanes.held = [] →
    Accepted (.fenceIssue o g k) s o Obj.FENCE_ISSUE (leBytes 4 (k + 2 ^ 24 * g)) fun u t =>
      let f := u.fg g
      let issued := if f.issued.contains (writerOf o) then f.issued else f.issued ++ [writerOf o]
      if k.val = f.last ∧ f.lastTimedOut = true then
        (t.fg g).late = f.late + 1 ∧ t.nat (Obj.FG_NEXT g) = u.nat (Obj.FG_NEXT g)
      else k.val = u.nat (Obj.FG_NEXT g) ∧ (f.issued = [] → t.nat (Obj.FG_OPENED g) = u.now) ∧
        (if ∀ c ∈ u.fenceMembers g, c ∈ issued then
          (t.fg g).issued = [] ∧ (t.fg g).last = k ∧ (t.fg g).lastTimedOut = false ∧
          t.nat (Obj.FG_NEXT g) = (if k.val = 0xFFFFFF then 1 else k.val + 1)
        else (t.fg g).issued = issued ∧ t.nat (Obj.FG_NEXT g) = k ∧ g.val ∈ (t.cl (writerOf o)).pendingFences)) ∧
  (∀ (s : State) (f : Fin 32), s.dev.Talks → s.dev.op ≠ .haltSafe →
    let due := s.dev.nat (Obj.FG_OPENED f) + 100000 * s.dev.nat (Obj.FG_TIMEOUT_MS f)
    (s.dev.lanes.held = [] → (s.dev.fg f).issued ≠ [] → due ≤ s.dev.now →
      Gives (.fenceTimeout f) s fun t => (t.fg f).issued = [] ∧ (t.fg f).last = s.dev.nat (Obj.FG_NEXT f) ∧
        (t.fg f).lastTimedOut = true ∧ t.nat (Obj.FG_NEXT f) = fenceNext (s.dev.nat (Obj.FG_NEXT f)) ∧
        t.active 0x0303 (0x800 + f) = true) ∧
    ((s.dev.fg f).issued = [] ∨ s.dev.now < due → Gives (.fenceTimeout f) s fun t => s.dev.Untouched t)) ∧
  (∀ (s : State) (o : Origin) (ch : Fin 96) (level : Fin 65536),
    let key := Obj.DIM_LEVEL ch
    let b := leBytes 2 level
    let u := s.seen.execAt o key b
    s.seen.hears o key b = true → u.commandCode (writerOf o) u.ownPos [(key, writeVal key b)] = 0 →
    u.isHeld (writerOf o) [(key, writeVal key b)] = true →
    Gives (.dimLevel o ch level) s fun t => t.grants = u.grants ∧
      t.lanes.held = u.lanes.held ++ [⟨writerOf o, [(key, writeVal key b)], u.holdTask (writerOf o), u.ownPos⟩])) ∧
  (∀ (s : State) (o : Origin) (c : Fin 8) (cycle : Fin 4294967296), s.dev.lanes.held = [] →
    Accepted (.tkFence o c cycle) s o (Obj.TK_FENCE c) (leBytes 4 cycle) fun u t =>
      t.nat (Obj.TK_CYCLE c) = cycle ∧ look t.lanes.taskAt c = some u.now ∧
      (t.bytesOf (Obj.TK_IN_IMAGE c)).take 8 = leBytes 8 ((u.lanes.inSnap.map Prod.fst).getD u.now) ∧
      ((t.bytesOf (Obj.TK_IN_IMAGE c)).drop 8).take 4 = leBytes 4 cycle ∧
      (∀ a, look u.lanes.taskAt c = some a → t.nat (Obj.TK_PERIOD_US c) = (u.now - a) / 100 % 2 ^ 32 ∧
        (u.nat (Obj.TK_MISSED c) + 1 < counterMod (Obj.TK_MISSED c) →
          t.nat (Obj.TK_MISSED c) = u.nat (Obj.TK_MISSED c) +
            (if cycle.val = (u.nat (Obj.TK_CYCLE c) + 1) % 2 ^ 32 then 0 else 1))))

/-! ### Configuration -/

/-- The stage states: OPEN is asked for in EMPTY, checks begin and take the digest back, a discard empties the half, and an
accepted RWS write changes the staged value and leaves the half OPEN without a digest. The half is OPEN with a copy of the
configuration in force once it is erased; the checks leave it READY with its digest, or REFUSED with the code and the object
of the first check that fails; out of their states both change nothing. Which object a failure names and when its code is
cleared are the model's readings (log entries 82 and 84). -/
def Obligations.StagingStatesAdvance : Prop :=
  (∀ (s : State) (o : Origin),
    (Accepted (.cfgStageOpen o) s o Obj.CFG_STAGE_CONTROL [1] fun u t =>
      u.stageSt = 0 ∧ t.stageSt = 1 ∧ t.ember.intents = u.ember.intents ++ [1]) ∧
    (Accepted (.cfgStageComplete o) s o Obj.CFG_STAGE_CONTROL [2] fun u t => t.stageSt = 3 ∧ t.staged = u.staged ∧
      1 ∈ t.digests ∧ t.bytesOf Obj.CFG_STAGED_DIGEST = List.replicate 32 0) ∧
    (Accepted (.cfgStageDiscard o) s o Obj.CFG_STAGE_CONTROL [3] fun u t => t.stageSt = 0 ∧
      (u.stageSt ≠ 0 → t.staged = [] ∧ t.bytesOf Obj.CFG_STAGED_DIGEST = List.replicate 32 0)) ∧
    (∀ (key : Fin 16777216) (data : List Byte), Target.of key = .staged key →
      Accepted (.stagedWrite o key data) s o key data fun u t =>
        t.staged = storePut u.staged key (writeVal key data) ∧ t.stageSt = 2 ∧ t.chan = u.chan ∧
        t.bytesOf Obj.CFG_STAGED_DIGEST = List.replicate 32 0 ∧ t.grants = u.grants)) ∧
  (∀ s : State, s.dev.alive = true →
    (s.dev.stageSt = 1 → s.dev.power.banked = false → Gives .stageOpenDone s fun t =>
      t.stageSt = 2 ∧ t.staged = s.dev.cfgVals) ∧
    (s.dev.stageSt ≠ 1 ∨ s.dev.power.banked = true → Gives .stageOpenDone s fun t => s.dev.Untouched t) ∧
    (s.dev.stageSt = 3 → s.dev.kindledPast = true →
      (∀ f, s.seen.stagedDev.stageFail = some f → Gives .stagingChecksDone s fun t =>
        t.stageSt = 5 ∧ t.nat Obj.CFG_STAGE_FAIL_CODE = f.1 ∧ t.nat Obj.CFG_STAGE_FAIL_INDEX = f.2 ∧ t.staged = s.dev.staged) ∧
      (s.seen.stagedDev.stageFail = none → Gives .stagingChecksDone s fun t =>
        t.stageSt = 4 ∧ t.nat Obj.CFG_STAGE_FAIL_CODE = 0 ∧ t.nat Obj.CFG_STAGE_FAIL_INDEX = 0 ∧
        t.bytesOf Obj.CFG_STAGED_DIGEST = s.seen.stagedDev.digest ∧ t.staged = s.dev.staged)) ∧
    (s.dev.stageSt ≠ 3 ∨ s.dev.kindledPast = false → Gives .stagingChecksDone s fun t => s.dev.Untouched t))

/-- An ACTIVATE schedules the switch at its instant, at least 10 ms ahead; at the instant the new epoch and digest are in
force, the former ones are held for a revert, DIGEST_MISMATCH ends, and the epochs and digests are committed; before it, and
once the switch has begun, nothing changes. A CONFIRM of the active epoch erases what is held. When DIGEST_MISMATCH ends is
the model's reading (log entry 34). That a command which cannot act changes nothing is the model's choice (log entry 17). -/
def Obligations.ActivationSwitches : Prop :=
  (∀ (s : State) (o : Origin) (data : List Byte), Accepted (.cfgActivate o data) s o Obj.CFG_ACTIVATE data fun u t =>
    let b := u.brought o Obj.CFG_ACTIVATE data
    t.stageSt = 6 ∧ t.nat Obj.CFG_PENDING_EPOCH = leNat (b.take 4) ∧ u.nat Obj.CFG_ACTIVE_EPOCH < leNat (b.take 4) ∧
    t.nat Obj.CFG_PENDING_INSTANT = (u.activateInstant b).toNat ∧ (u.ringTime : Int) + 1000000 ≤ u.activateInstant b ∧
    ∃ w, t.cfg.switch = some w ∧ w.epoch = leNat (b.take 4) ∧ w.digest = b.drop 16 ∧ w.started = false ∧ w.passed = [] ∧
      w.instant = (u.activateInstant b).toNat) ∧
  (∀ (s : State) (w : Switch), s.dev.alive = true → s.dev.op = .kindled ∨ s.dev.op = .operating → s.dev.cfg.switch = some w →
    (w.started = false → w.instant ≤ s.dev.ringTime → Gives .activationInstant s fun t =>
      t.nat Obj.CFG_ACTIVE_EPOCH = w.epoch ∧ t.bytesOf Obj.CFG_ACTIVE_DIGEST = w.digest ∧
      t.nat Obj.CFG_PREVIOUS_EPOCH = s.dev.nat Obj.CFG_ACTIVE_EPOCH ∧
      t.bytesOf Obj.CFG_PREVIOUS_DIGEST = s.dev.bytesOf Obj.CFG_ACTIVE_DIGEST ∧ t.nat Obj.CFG_LAST_SWITCH = w.instant ∧
      t.active 0x0503 0xFFFF = false ∧ t.cfg.switch = some { w with started := true } ∧
      storeVal t.banked Obj.CFG_ACTIVE_EPOCH = t.val Obj.CFG_ACTIVE_EPOCH) ∧
    (w.started = true ∨ s.dev.ringTime < w.instant → Gives .activationInstant s fun t => s.dev.Untouched t)) ∧
  (∀ (s : State) (o : Origin) (epoch : Fin 4294967296),
    Accepted (.cfgConfirm o epoch) s o Obj.CFG_CONFIRM (leBytes 4 epoch) fun u t =>
      epoch.val = u.nat Obj.CFG_ACTIVE_EPOCH ∧ t.active 0x0503 0xFFFF = false ∧ t.stageSt = 0 ∧
      (u.stageSt = 7 → t.staged = [] ∧ t.nat Obj.CFG_PREVIOUS_EPOCH = 0))

/-! ### Life cycle and firmware -/

/-- A transition burns its intent and done rows into the lowest free slot and resets the block; CICADA_ENTER starts a
power-fail bank after which the block stays banked. MAINTENANCE is entered from SERVICE and left for it at once, by
the service port or after its limit without a session; then an update in progress is abandoned. A key goes into the
lowest blank slot, which becomes the active one; none is taken while the lock of SERVICE stands. When a fuse row is valid is
the model's reading (log entry 86). That a command which cannot act changes nothing is the model's choice (log entry
17). -/
def Obligations.LifeCycleTransitions : Prop :=
  ((∀ (s : State) (o : Origin) (serial : Fin 4294967296) (i : Instr) (target slot : Nat),
    (i, target) ∈ [(Instr.lcRequestProvision o serial, 1), (.lcRequestService o serial, 2), (.lcRequestRetired o serial, 5)] →
    Accepted i s o Obj.LC_REQUEST (lcBytes target serial) fun u t =>
      u.freeSlot = some slot → (u.bytesOf Obj.LC_ROWS).length = 128 →
      t.op = .kindling ∧ t.now = 0 ∧ t.nat Obj.RESET_CAUSE = 3 ∧ t.admin.sessionOpen = false ∧
      t.fuseRow (2 * slot) = transitionRow target u.lcSource slot ∧ t.fuseRow (2 * slot + 1) = transitionRow target u.lcSource slot) ∧
  (∀ (s : State) (o : Origin), Accepted (.cicadaEnter o) s o Obj.CICADA_ENTER [1] fun _ t =>
    t.Failed ∧ t.ember.fromCicada = true)) ∧
  ((∀ (s : State) (o : Origin),
    (Accepted (.lcMaintEnter o) s o Obj.LC_MAINT_CONTROL [1] fun u t => u.lc = .service ∧ t.lc = .maintenance ∧
      t.admin.maint = true ∧ t.admin.maintRun = 0 ∧ t.op = u.op ∧ t.chan = u.chan) ∧
    (Accepted (.lcMaintLeave o) s o Obj.LC_MAINT_CONTROL [0] fun u t => u.lc = .maintenance ∧ t.lc = .service ∧
      t.admin.maint = false ∧ t.op = u.op ∧ t.chan = u.chan)) ∧
  (∀ s : State, s.dev.power.inReset = false → s.dev.power.banked = false →
    let due := s.dev.lc = .maintenance ∧ s.dev.admin.sessionOpen = false ∧
      6000000000 * s.dev.nat Obj.LC_MAINT_LIMIT_MIN ≤ s.dev.admin.maintRun
    (due → Gives .maintLimitExpiry s fun t => t.lc = .service ∧ t.nat Obj.FW_UPD_STATE = 0 ∧ t.op = s.dev.op) ∧
    (¬ due → Gives .maintLimitExpiry s fun t => s.dev.Untouched t))) ∧
  (∀ (s : State) (o : Origin) (data : List Byte), Accepted (.keyInstall o data) s o Obj.KEY_INSTALL data fun u t =>
    u.lc = .provision ∧ u.admin.keyLock = false ∧
    ∃ i, i < 4 ∧ u.keySlot i = 0 ∧ (∀ j, j < i → u.keySlot j ≠ 0) ∧ t.nat Obj.KEY_ACTIVE_SLOT = i ∧ t.keySlot i = 1 ∧
      look t.admin.keys i = some data)

/-- The update states: the erase of the inactive slot, its end, the verification and its result, the reset into a
trial, and the abandonment; a confirmation ends the probation and makes the running slot the newest. The four parts of
a firmware block are kept until all have come; a block whose CRC matches is programmed, one whose does not is dropped
with status 9. Which slot an update writes is the model's reading (log entry 89). That a command which cannot act changes
nothing is the model's choice (log entry 17). -/
def Obligations.FirmwareStatesAdvance : Prop :=
  ((∀ (s : State) (o : Origin),
    (Accepted (.fwUpdOpen o) s o Obj.FW_UPD_CONTROL [1] fun u t => t.nat Obj.FW_UPD_STATE = 1 ∧ t.slot u.updSlot = {}) ∧
    (Accepted (.fwUpdVerify o) s o Obj.FW_UPD_CONTROL [2] fun u t => t.nat Obj.FW_UPD_STATE = 3 ∧ 3 ∈ t.digests ∧
      (u.slot u.updSlot).complete = true) ∧
    (Accepted (.fwUpdActivate o) s o Obj.FW_UPD_CONTROL [3] fun u t =>
      u.nat Obj.FW_UPD_STATE = 4 ∧ t.op = .kindling ∧ t.now = 0 ∧ t.nat Obj.RESET_CAUSE = 3 ∧ (t.slot u.updSlot).trial = true) ∧
    (Accepted (.fwUpdAbandon o) s o Obj.FW_UPD_CONTROL [4] fun u t => t.nat Obj.FW_UPD_STATE = 0 ∧ t.op = u.op) ∧
    (∀ v : Fin 4294967296, Accepted (.fwConfirm o v) s o Obj.FW_CONFIRM (leBytes 4 v) fun u t =>
      v.val = u.nat Obj.FW_ACTIVE_VERSION ∧ t.nat Obj.FW_PROBATION = 0 ∧
      (t.slot (u.nat Obj.FW_ACTIVE_SLOT)).confirmed = (u.slot (1 - u.nat Obj.FW_ACTIVE_SLOT)).confirmed + 1)) ∧
  (∀ s : State, s.dev.power.inReset = false → s.dev.power.banked = false →
    (s.dev.nat Obj.FW_UPD_STATE = 1 → Gives .fwEraseDone s fun t => t.nat Obj.FW_UPD_STATE = 2) ∧
    (s.dev.nat Obj.FW_UPD_STATE ≠ 1 → Gives .fwEraseDone s fun t => s.dev.Untouched t) ∧
    (s.dev.nat Obj.FW_UPD_STATE = 3 → Gives .fwVerifyDone s fun t =>
      if s.dev.imageCause (s.dev.slot s.dev.updSlot) = 0 then
        t.nat Obj.FW_UPD_STATE = 4 ∧ (t.slot s.dev.updSlot).verified = true
      else t.nat Obj.FW_UPD_STATE = 5 ∧ t.nat Obj.FW_REJECT_CAUSE = s.dev.imageCause (s.dev.slot s.dev.updSlot) ∧
        t.active 0x0704 0xFFFF = true) ∧
    (s.dev.nat Obj.FW_UPD_STATE ≠ 3 → Gives .fwVerifyDone s fun t => s.dev.Untouched t))) ∧
  (∀ (s : State) (peer req counter crc : Nat) (tag data : List Byte) (block part : Nat),
    let i := s.dev.updSlot
    let ps := tabIns (s.dev.slot i).parts (4 * block + part) data
    let got := [0, 1, 2, 3].filterMap fun j => look ps (4 * block + j)
    s.dev.power.inReset = false → s.dev.power.banked = false → s.dev.portOn = true → s.dev.portShed = false →
    s.dev.lc = .provision ∨ s.dev.lc = .factory → s.dev.nat Obj.FW_UPD_STATE = 2 → block ≤ 254 → part ≤ 3 → data.length = 1024 →
    look (s.dev.slot i).blocks block = none →
    Gives (.fwBlock peer req counter tag block part crc data) s fun t =>
      if got.length < 4 then (t.slot i).parts = ps ∧ (t.slot i).blocks = (s.dev.slot i).blocks ∧
        t.sent = s.dev.sent ++ [.svc peer 0xB1 req 0 [0]]
      else (∀ j, j < 4 → look (t.slot i).parts (4 * block + j) = none) ∧
        (if crc32c got.flatten = crc then look (t.slot i).blocks block = some got.flatten ∧
          t.sent = s.dev.sent ++ [.svc peer 0xB1 req 0 [1]]
        else (t.slot i).blocks = (s.dev.slot i).blocks ∧ t.sent = s.dev.sent ++ [.svc peer 0xB1 req 9 []]))

/-! ### The service port -/

/-- READ answers with the object's length and its bytes from the offset, as they stand at the read; JOURNAL_INFO,
SEGMENT_READ and EXTRACT_READ answer with what they name, or with status 8 where it is not there. Each request counts.
An ARP request for the port's address and an ICMP echo of up to 1472 bytes to it are answered, others are not. When
the port answers, and with which address, is the model's reading (log entry 90). That a command which cannot act
changes nothing is the model's choice (log entry 17). -/
def Obligations.PortReadsAnswered : Prop :=
  (∀ (s : State) (peer req off len : Nat), s.dev.power.inReset = false → s.dev.power.banked = false → s.dev.portOn = true →
    1 ≤ len → len ≤ 1024 →
    (∀ key : Fin 16777216,
      let u := (s.seen.count Obj.SVC_RX_DATAGRAMS).grantAt 9 2
      (readRefusal key = 0 → off ≤ (u.read key).length → Gives (.svcRead peer req key false off len) s fun t =>
        t.sent = s.dev.sent ++ [.svc peer 0x81 req 0 (leBytes 4 (u.read key).length ++ ((u.read key).drop off).take len)] ∧
        t.chan = s.dev.chan ∧ t.grants = s.dev.grants) ∧
      (readRefusal key ≠ 0 → Gives (.svcRead peer req key false off len) s fun t =>
        t.sent = s.dev.sent ++ [.svc peer 0x81 req 7 (leBytes 4 (readRefusal key))])) ∧
    (s.dev.portShed = false →
      (Gives (.journalInfo peer req) s fun t => t.sent = s.dev.sent ++ [.svc peer 0xA0 req 0 (t.read Obj.JNL_HEAD_SEG ++
        t.read Obj.JNL_OLDEST_SEG ++ t.read Obj.JNL_BOOT_SEG ++ t.read Obj.ASH_LAST_SEG)]) ∧
      (∀ seg : Nat, off % 1024 = 0 → off < 65536 →
        (∀ g, s.dev.jnl.segs.find? (fun h => h.num == seg) = some g → Gives (.segmentRead peer req seg off len) s fun t =>
          t.sent = s.dev.sent ++ [.svc peer 0xA1 req 0 ((g.bytes.drop off).take len)]) ∧
        (s.dev.jnl.segs.find? (fun h => h.num == seg) = none → Gives (.segmentRead peer req seg off len) s fun t =>
          t.sent = s.dev.sent ++ [.svc peer 0xA1 req 8 []])) ∧
      (s.dev.nat Obj.XB_STATE = 1 → off ≤ s.dev.replay.built.length → Gives (.extractRead peer req off len) s fun t =>
        t.sent = s.dev.sent ++ [.svc peer 0xA2 req 0 ((s.dev.replay.built.drop off).take len)])) ∧
    (s.dev.portShed = true → Gives (.journalInfo peer req) s fun t => t.sent = s.dev.sent ++ [.svc peer 0xA0 req 1 []])) ∧
  (∀ (s : State) (peer target : Nat) (data : List Byte), s.dev.power.inReset = false → s.dev.power.banked = false →
    s.dev.portOn = true →
    (target = s.dev.portAddr → (Gives (.arpRequest peer target) s fun t => t.sent = s.dev.sent ++ [.arp peer]) ∧
      (data.length ≤ 1472 → Gives (.icmpEcho peer target data) s fun t => t.sent = s.dev.sent ++ [.icmp peer data])) ∧
    (target ≠ s.dev.portAddr → (Gives (.arpRequest peer target) s fun t => s.dev.Untouched t) ∧
      Gives (.icmpEcho peer target data) s fun t => s.dev.Untouched t))

/-- A challenge takes the next nonce; the response that matches it opens the session with no counter used yet, one
that does not counts as a failure, and the third failure in a row starts a lockout, in which a challenge is answered
by status 6. A session ends with a close that passes its checks, after its idle time, and not before; a lockout ends
with its time. A request of the session with a wrong tag or an old counter counts as a failure and changes no session.
The nonce is free (log entry 5); how often it may be used and what ends a session are the model's readings (log
entries 91 and 92). That a command which cannot act changes nothing is the model's choice (log entry 17). -/
def Obligations.SessionsOpenAndEnd : Prop :=
  (∀ (s : State) (peer req : Nat), s.dev.power.inReset = false → s.dev.power.banked = false → s.dev.portOn = true →
    s.dev.portShed = false →
    (s.dev.admin.lockEnd = none → Gives (.authChallenge peer req) s fun t =>
      t.admin.nonce = some (leBytes 16 (Config.nonce s.dev.freeCount)) ∧ t.freeCount = s.dev.freeCount + 1 ∧
      t.sent = s.dev.sent ++ [.svc peer 0x90 req 0 (leBytes 16 (Config.nonce s.dev.freeCount))]) ∧
    (s.dev.admin.lockEnd.isSome → Gives (.authChallenge peer req) s fun t =>
      t.admin = s.dev.admin ∧ t.sent = s.dev.sent ++ [.svc peer 0x90 req 6 []]) ∧
    (∀ (nd nh resp key : List Byte), s.dev.admin.nonce = some nd → nh.length = 16 → resp.length = 32 →
      s.dev.authKey = some key →
      (resp = hmac256 key (authLabel ++ leBytes 8 (s.dev.nat Obj.SERIAL_NUMBER) ++ nd ++ nh) →
        Gives (.authResponse peer req nh resp) s fun t => t.admin.sessionOpen = true ∧ t.admin.sessionPeer = peer ∧
          t.admin.lastCounter = 0 ∧ t.admin.fails = 0 ∧ t.admin.nonce = none ∧ t.nat Obj.AUTH_STATE = 2 ∧
          t.admin.sessionKey = hmac256 key (sessLabel ++ nd ++ nh) ∧ t.sent = s.dev.sent ++ [.svc peer 0x91 req 0 []]) ∧
      (resp ≠ hmac256 key (authLabel ++ leBytes 8 (s.dev.nat Obj.SERIAL_NUMBER) ++ nd ++ nh) →
        Gives (.authResponse peer req nh resp) s fun t => t.admin.fails = s.dev.admin.fails + 1 ∧ t.admin.nonce = none ∧
          t.admin.sessionOpen = s.dev.admin.sessionOpen ∧ t.sent = s.dev.sent ++ [.svc peer 0x91 req 4 []] ∧
          (2 ≤ s.dev.admin.fails → ∃ e, t.admin.lockEnd = some e ∧ s.dev.now + 1000000000 ≤ e)))) ∧
  (∀ s : State, s.dev.power.inReset = false → s.dev.power.banked = false →
    (∀ (peer req counter : Nat) (tag : List Byte), s.dev.portOn = true → s.dev.portShed = false →
      s.dev.lc = .service ∨ s.dev.lc = .maintenance → s.dev.sessionRepeat peer counter tag = none →
      (s.dev.sessionCheck peer counter tag (datagram 0x12 req counter []) = 0 → Gives (.sessionClose peer req counter tag) s fun t =>
        t.admin.sessionOpen = false ∧ t.admin.sessionKey = [] ∧ t.sent = s.dev.sent ++ [.svc peer 0x92 req 0 []]) ∧
      (s.dev.sessionCheck peer counter tag (datagram 0x12 req counter []) ≠ 0 → Gives (.sessionClose peer req counter tag) s fun t =>
        t.admin = s.dev.admin ∧
        t.sent = s.dev.sent ++ [.svc peer 0x92 req (s.dev.sessionCheck peer counter tag (datagram 0x12 req counter [])) []])) ∧
    (s.dev.admin.sessionOpen = false → Gives .authIdleExpiry s fun t => s.dev.Untouched t) ∧
    (s.dev.admin.sessionOpen = true →
      (s.dev.admin.lastSeen + 100000000 * s.dev.nat Obj.AUTH_IDLE_S ≤ s.dev.now → Gives .authIdleExpiry s fun t =>
        t.admin.sessionOpen = false ∧ t.admin.sessionKey = []) ∧
      (s.dev.now < s.dev.admin.lastSeen + 100000000 * s.dev.nat Obj.AUTH_IDLE_S → Gives .authIdleExpiry s fun t => s.dev.Untouched t)) ∧
    (s.dev.admin.lockEnd = none → Gives .authLockoutExpiry s fun t => s.dev.Untouched t) ∧
    (∀ e, s.dev.admin.lockEnd = some e →
      (e ≤ s.dev.now → Gives .authLockoutExpiry s fun t => t.admin.lockEnd = none) ∧
      (s.dev.now < e → Gives .authLockoutExpiry s fun t => s.dev.Untouched t)))

/-! ### The ring -/

/-- RING_TIME every 100 us of the master, with its time and the start of the next insertion window, flagged while the
master is halted; a copy of a commit that is due goes out once, and a proxied command kept for a member is sent again
on its NAK. What an admitted member sends reaches the master: its status, its telemetry, its condition reports, and
the answer to a proxied read, which goes out on the lane that asked. The payload of frames without a layout is free
(log entry 7), and the layout of STATUS is the model's reading (log entry 102). That a command which cannot act
changes nothing is the model's choice (log entry 17). -/
def Obligations.MasterSendsAndHears : Prop :=
  (∀ s : State, s.dev.Talks → s.dev.ringMaster = true →
    (s.dev.kindledPast = true → (s.dev.hop 0).unwrapDue = false → (s.dev.hop 1).unwrapDue = false →
      (s.dev.ring.lastTime = 0 ∨ s.dev.ring.lastTime + 10000 ≤ s.dev.now → Gives .ringTimeSend s fun t => t.ring.lastTime = s.dev.now ∧
        ∃ flags q, t.sent = s.dev.sent ++ [.ring 0x01 flags s.dev.ownPos 0 q
          (leBytes 8 s.dev.now ++ leBytes 4 0 ++ leBytes 8 ((s.dev.now / 1000000 + 1) * 1000000))] ∧
          (bit flags 2 = true ↔ s.dev.op = .haltSafe)) ∧
      (s.dev.ring.lastTime ≠ 0 → s.dev.now < s.dev.ring.lastTime + 10000 → Gives .ringTimeSend s fun t => s.dev.Untouched t)) ∧
    (∀ (a n q : Nat) (p : List Byte), s.dev.alive = true → s.dev.ring.repeats = [(a, n, q, p)] →
      (a ≤ s.dev.now → Gives .commitRepeat s fun t => t.sent = s.dev.sent ++ [.ring 0x11 3 s.dev.ownPos 0 q p] ∧
        t.ring.repeats = (if 1 < n then [(a + 1000, n - 1, q, p)] else [])) ∧
      (s.dev.now < a → Gives .commitRepeat s fun t => t.sent = s.dev.sent ∧ t.ring.repeats = [(a, n, q, p)])) ∧
    (∀ (pos : Fin 16) (cls : Fin 256) (seq q : Nat) (p : List Byte), s.dev.ring.sentFrames = [(cls.val, pos.val, q, p)] → seq ≤ q →
      Gives (.nakRx pos cls seq) s fun t => t.sent = s.dev.sent ++ [.ring cls 2 s.dev.ownPos pos q p]) ∧
    (∀ (cls dst : Nat) (p : List Byte), s.dev.alive = true → s.dev.ring.withheld = [(cls, dst, p)] → s.dev.withholds = false →
      Gives .insertionWindowEnd s fun t => t.ring.withheld = [] ∧
        ∃ flags q, t.sent = s.dev.sent ++ [.ring cls flags s.dev.ownPos (if cls = 0x11 then 0 else dst) q p])) ∧
  (∀ (s : State) (p : Fin 16), s.dev.Talks → s.dev.ringMaster = true → s.dev.isAdmitted p = true → (s.dev.pos p).gone = false →
    (∀ st : RingStatus, st.pos = p → Gives (.statusRx st) s fun t => (t.pos p).status = st.data ∧
      t.nat (Obj.POS_LAST_RX p) = s.dev.now ∧ t.bytesOf (Obj.POS_ACTIVE_DIGEST p) = padTo 8 ((st.data.drop 1).take 8) ∧
      t.bytesOf (Obj.POS_STAGED_DIGEST p) = padTo 8 ((st.data.drop 9).take 8)) ∧
    (∀ (seq : Nat) (data : List Byte), Gives (.telemetryRx p seq data) s fun t => (t.pos p).telemetry = data ∧
      t.nat (Obj.POS_LAST_RX p) = s.dev.now) ∧
    (∀ (seq kind code source detail at' : Nat) (map : List Nat), (∀ l, l < 3 → s.dev.emcyFree l = false ∧ lookD [] s.dev.rep.emcy l = []) →
      Gives (.conditionFrameRx p seq kind code source detail at' map) s fun t => t.nat (Obj.POS_LAST_RX p) = s.dev.now ∧
        ∀ l, l < 3 → lookD [] t.rep.emcy l = [(p.val, ⟨kind, code, source, detail, at', map⟩)]) ∧
    (∀ (seq req lane status key : Nat) (data : List Byte), s.dev.ring.asked = [(req, lane, s.dev.nodeId + p, key)] →
      Gives (.dictRespRx p seq req status data) s fun t => t.ring.asked = [] ∧
        t.sent = s.dev.sent ++ [if status = 0 then .usdoData lane key data else .usdoAbort lane status]))

/-- RING_TIME at a member, by its state: ABSENT listens once it is KINDLED, INSERTED counts ten in sequence and joins,
ACTIVE follows without a step and never goes back, LOST takes ring time from the frame; without it for 1 ms an ACTIVE
member is LOST. Elsewhere a RING_TIME frame changes no ring state. How far an ACTIVE one moves is the model's free value (log
entry 8). The delay of a hop is half of what its request and answer take beyond the neighbour's own time; an answer to
another request changes none. A hop that goes down wraps, stamped and with RING_WRAP; up again for 1 s it is due to unwrap.
How a member joins and follows beyond the rules is the model's reading (log entries 98 and 99). That a command which cannot
act changes nothing is the model's choice (log entry 17). -/
def Obligations.RingTimeFollowed : Prop :=
  ((∀ (s : State) (r : RingTime), s.dev.Talks → s.dev.isMember = true → r.src = 0 →
    (Gives (.ringTimeRx r) s fun t => t.ring.lastTime = s.dev.now ∧ t.ring.hops = r.hops ∧
      (r.halted = false → t.nat Obj.RING_LAST_MASTER_RX = s.dev.now)) ∧
    (s.dev.nat Obj.RING_STATE = 0 → Gives (.ringTimeRx r) s fun t =>
      t.nat Obj.RING_STATE = (if s.dev.up = true ∨ (s.dev.op = .haltSafe ∧ s.dev.kindledPast = true) then 1 else 0)) ∧
    (s.dev.nat Obj.RING_STATE = 2 →
      (s.dev.rxFresh 0x01 r.seq = true → s.dev.ring.timeFrames < 9 →
        Gives (.ringTimeRx r) s fun t => t.nat Obj.RING_STATE = 2 ∧ t.ring.timeFrames = s.dev.ring.timeFrames + 1) ∧
      (s.dev.rxFresh 0x01 r.seq = true → 9 ≤ s.dev.ring.timeFrames →
        Gives (.ringTimeRx r) s fun t => t.nat Obj.RING_STATE = 3 ∧ t.ring.joinAt = s.dev.now) ∧
      (s.dev.rxFresh 0x01 r.seq = false → Gives (.ringTimeRx r) s fun t => t.nat Obj.RING_STATE = 2 ∧ t.ring.timeFrames = 1)) ∧
    (s.dev.nat Obj.RING_STATE = 4 → Gives (.ringTimeRx r) s fun t =>
      let res := s.dev.timeAt r - (32 * (s.dev.now : Int) + s.dev.ring.offset)
      t.num Obj.RING_TIME_ERR_NS = clampInt (-32768) 32767 (roundOpenInt 389 (5 * res) 16) ∧
      (0 ≤ res → s.dev.ring.offset ≤ t.ring.offset ∧ t.ring.offset ≤ s.dev.ring.offset + res) ∧
      (res < 0 → s.dev.ring.lastTime ≤ s.dev.now → t.ring.offset ≤ s.dev.ring.offset ∧ s.dev.ring.offset + res ≤ t.ring.offset ∧
        32 * (s.dev.ring.lastTime : Int) + s.dev.ring.offset ≤ 32 * s.dev.now + t.ring.offset)) ∧
    (s.dev.nat Obj.RING_STATE = 5 → Gives (.ringTimeRx r) s fun t => t.nat Obj.RING_STATE = 4 ∧ t.nat Obj.RING_TIME_VALID = 1 ∧
      t.ring.offset = s.dev.timeAt r - 32 * s.dev.now)) ∧
  (∀ (s : State) (r : RingTime), s.dev.isMember = false → Gives (.ringTimeRx r) s fun t => t.ring = s.dev.ring ∧
    t.sent = s.dev.sent ∧ t.nat Obj.RING_STATE = s.dev.nat Obj.RING_STATE ∧ t.grp = s.dev.grp) ∧
  (∀ s : State, s.dev.Talks → s.dev.isMember = true → s.dev.nat Obj.RING_STATE = 4 →
    (s.dev.ring.lastTime + 100000 ≤ s.dev.now → Gives .ringTimeLoss s fun t => t.nat Obj.RING_STATE = 5 ∧ t.nat Obj.RING_TIME_VALID = 0) ∧
    (s.dev.now < s.dev.ring.lastTime + 100000 → Gives .ringTimeLoss s fun t => s.dev.Untouched t))) ∧
  (∀ (s : State) (p : Fin 2), s.dev.Talks →
    (s.dev.inserted = true →
      ((s.dev.hop p).down = false → Gives (.delayReqPeriod p) s fun t => (t.hop p).reqAt = some s.dev.now ∧
        (t.hop p).reqSeq = (s.dev.hop p).reqSeq + 1 ∧ ∃ q, t.sent = s.dev.sent ++ [.ring 0x02 0 s.dev.ownPos 0 q
          (ringPayload 0x02 [(p.val : Int), 0, (((s.dev.hop p).reqSeq + 1 : Nat) : Int), (s.dev.now : Int)])]) ∧
      (∀ (pos : Fin 16) (seq : Nat), Gives (.delayReqRx p pos seq) s fun t => ∃ q, t.sent = s.dev.sent ++ [.ring 0x02 0 s.dev.ownPos pos q
        (ringPayload 0x02 [(p.val : Int), 1, (seq : Int), (s.dev.now : Int), (s.dev.now : Int)])])) ∧
    (s.dev.inserted = false ∨ (s.dev.hop p).down = true → Gives (.delayReqPeriod p) s fun t => s.dev.Untouched t) ∧
    (∀ t1 t2 t3 : Nat, (s.dev.hop p).reqAt = some t1 →
      Gives (.delayRespRx p (s.dev.hop p).reqSeq t2 t3) s fun t => (t.hop p).reqAt = none ∧
        t.nat (Obj.PORT_HOP_DELAY_NS p) = 5 * ((s.dev.now - t1) - (t3 - t2)) % 2 ^ 32) ∧
    (∀ seq t2 t3 : Nat, seq ≠ (s.dev.hop p).reqSeq ∨ (s.dev.hop p).reqAt = none → Gives (.delayRespRx p seq t2 t3) s fun t =>
      t.ring = s.dev.ring ∧ t.nat (Obj.PORT_HOP_DELAY_NS p) = s.dev.nat (Obj.PORT_HOP_DELAY_NS p))) ∧
  (∀ (s : State) (p : Fin 2) (cause : Nat), s.dev.Talks →
    (s.dev.inserted = true →
      ((s.dev.hop p).down = false → Gives (.hopDown p cause) s fun t => (t.hop p).down = true ∧
        t.nat (Obj.PORT_LAST_DOWN p) = s.dev.now ∧ t.active 0x0501 (ringSource s.dev.ownPos) = true) ∧
      ((s.dev.hop p).down = true → Gives (.hopDown p cause) s fun t => (t.hop p).down = true ∧ (t.hop p).lockAt = none ∧
        (t.hop p).unwrapDue = false)) ∧
    (s.dev.inserted = false → Gives (.hopDown p cause) s fun t => s.dev.Untouched t) ∧
    ((s.dev.hop p).down = true → (Gives (.hopLockRegained p) s fun t => (t.hop p).lockAt = some s.dev.now ∧ (t.hop p).down = true) ∧
      (∀ a, (s.dev.hop p).lockAt = some a →
        (a + 100000000 ≤ s.dev.now → Gives (.hopRestore p) s fun t => (t.hop p).unwrapDue = true) ∧
        (s.dev.now < a + 100000000 → Gives (.hopRestore p) s fun t => s.dev.Untouched t))) ∧
    ((s.dev.hop p).down = false → (Gives (.hopLockRegained p) s fun t => s.dev.Untouched t) ∧
      Gives (.hopRestore p) s fun t => s.dev.Untouched t))

/-- A commit is taken once by a member, a fence mark sets the next fence number, a time map the mapping of train time,
and a read of the master is answered with its sequence; a dictionary write is refused there. A frame for another position
goes on unchanged, or waits where an own frame is ahead of it. A COMMAND of the master to this position is applied as its
lanes' writes are: granted for its boundary, for its client, unless the member's own tables give the channel to a signal
group or an engine; one of a later sequence is not applied and answered by NAK. What a member sends by itself, telemetry
behind what passes through, and the grants of test slices. Which commits and commands a member takes, what a fence mark does
and how frames give way are the model's readings (log entries 38, 101, 105 and 134). That a command which cannot act changes
nothing is the model's choice (log entry 17). -/
def Obligations.MemberHearsAndSends : Prop :=
  (∀ s : State, s.dev.Talks → s.dev.onRing = true →
    (∀ (seq q t' : Nat) (sg : Fin 32) (a : Fin 256), s.dev.alive = true → s.dev.sgUsed sg = true → s.dev.nat (Obj.SG_RING sg) = 1 →
      (s.dev.nat (Obj.SG_COMMIT_SEQ sg) ≠ q → (∀ c ∈ (s.dev.sgp sg).commits, c.2.2 ≠ q) →
        Gives (.aspectCommitRx seq sg a t' q) s fun t => t.nat (Obj.SG_COMMIT_INSTANT sg) = t' ∧ t.nat (Obj.SG_COMMIT_SEQ sg) = q ∧
          t.nat (Obj.SG_PENDING sg) = a ∧ (t.sgp sg).commits = (s.dev.sgp sg).commits ++ [(a.val, t', q)]) ∧
      (s.dev.nat (Obj.SG_COMMIT_SEQ sg) = q → Gives (.aspectCommitRx seq sg a t' q) s fun t =>
        (t.sgp sg).commits = (s.dev.sgp sg).commits ∧ t.nat (Obj.SG_PENDING sg) = s.dev.nat (Obj.SG_PENDING sg))) ∧
    (∀ (seq k : Nat) (g : Fin 32), s.dev.alive = true → Gives (.fenceMarkRx seq g k) s fun t =>
      t.nat (Obj.FG_NEXT g) = (if k = 0xFFFFFF then 1 else k + 1)) ∧
    (∀ seq train at' : Nat, Gives (.timeMapRx seq train at') s fun t => t.ring.trainMap = some (train, at')) ∧
    (∀ (pos : Fin 16) (seq : Nat) (key : Fin 16777216) (w : Option (List Byte)),
      let x := fromMaster 0x20 (some pos.val) seq (ringPayload 0x20 [((key.val : Nat) : Int), (b2n w.isSome : Int)] (w.getD []))
      (pos.val = s.dev.ownPos → s.dev.stokerRuns = true → s.dev.rxFresh 0x20 seq = true →
        Gives (.dictReqRx ⟨pos, seq⟩ key w) s fun t => t.grants = s.dev.grants ∧ t.staged = s.dev.staged ∧
          lookD 0 t.ring.rxSeq 0x20 = seq + 1 ∧
          ∃ q data, t.sent = s.dev.sent ++ [.ring 0x20 0 s.dev.ownPos 0 q
            (ringPayload 0x20 [(seq : Int), ((if w.isSome then 0x06010000 else readRefusal key : Nat) : Int)] data)] ∧
            (w = none → readRefusal key = 0 →
              data = (((s.seen.grantAt 8 s.dev.rxPort).rxTake 0x20 seq).grantAt 9 1).read key)) ∧
      (pos.val ≠ s.dev.ownPos → s.dev.inserted = true → Gives (.dictReqRx ⟨pos, seq⟩ key w) s fun t => t.grants = s.dev.grants ∧
        if (5, 0) ∈ s.seen.waiters then t.ring.through = s.dev.ring.through ++ [(s.dev.rxPort + 1, x)] ∧ t.sent = s.dev.sent
        else t.sent = s.dev.sent ++ [x] ∧ t.ring.through = s.dev.ring.through))) ∧
  (∀ (s : State) (f : RingCommand), s.dev.Talks → s.dev.onRing = true → s.dev.op = .operating →
    s.dev.lc = .provision ∨ s.dev.lc = .service ∨ s.dev.lc = .maintenance →
    (f.dst.val = s.dev.ownPos →
      (s.dev.rxFresh 0x10 f.seq = true → f.first = true →
        (∀ ch : Fin 96, f.last = true → f.nmt = none → f.key.val = Obj.DIM_LEVEL ch → f.data.length = 2 →
          Gives (.ringCommandRx f) s fun t => (lookD 0 t.ring.rxSeq 0x10) = f.seq + 1 ∧ t.ring.frag = none ∧
            t.grants = s.dev.grants ++ (if (s.dev.sgOf ch).isNone ∧ (s.dev.boundTo ch).isNone then
              [⟨Obj.DIM_LEVEL ch, writeVal (Obj.DIM_LEVEL ch) f.data, f.client, s.dev.grantInstant (ch / 4), false⟩] else [])) ∧
        (f.last = true → f.nmt = some 1 → Gives (.ringCommandRx f) s fun t => t.lanes.nmt = 5 ∧ t.grants = s.dev.grants) ∧
        (f.last = false → Gives (.ringCommandRx f) s fun t => t.ring.frag = some f.data ∧ t.grants = s.dev.grants)) ∧
      (s.dev.rxNext 0x10 ≠ 0 → s.dev.rxNext 0x10 < f.seq →
        Gives (.ringCommandRx f) s fun t => t.grants = s.dev.grants ∧ t.lanes = s.dev.lanes ∧
          ∃ q, t.sent = s.dev.sent ++ [.ring 0x13 0 s.dev.ownPos 0 q (ringPayload 0x13 [0x10, ((s.dev.rxNext 0x10 : Nat) : Int)])])) ∧
    (f.dst.val ≠ s.dev.ownPos → Gives (.ringCommandRx f) s fun t => t.grants = s.dev.grants ∧ t.lanes = s.dev.lanes)) ∧
  (∀ s : State, s.dev.Talks → s.dev.alive = true →
    (s.dev.onRing = true →
      (s.dev.ring.statusAt + 10000000 ≤ s.dev.now → Gives .statusSend s fun t => t.ring.statusAt = s.dev.now ∧
        ∃ q, t.sent = s.dev.sent ++ [.ring 0x21 0 s.dev.ownPos 0 q s.dev.statusBytes]) ∧
      (bit (s.dev.nat Obj.SHED_STATE) 1 = false → s.dev.ring.telemetryAt + 1000000 ≤ s.dev.now →
        Gives .telemetrySend s fun t => t.ring.telemetryAt = s.dev.now ∧
          if s.dev.ring.through ≠ [] ∨ (s.seen.waiters.any fun w => w.1 == 8) = true then
            t.sent = s.dev.sent ∧ t.ring.through.length = s.dev.ring.through.length + 1
          else t.sent.length = s.dev.sent.length + 1)) ∧
    (s.dev.onRing = false ∨ s.dev.now < s.dev.ring.statusAt + 10000000 → Gives .statusSend s fun t => s.dev.Untouched t) ∧
    (s.dev.onRing = false ∨ bit (s.dev.nat Obj.SHED_STATE) 1 = true ∨ s.dev.now < s.dev.ring.telemetryAt + 1000000 →
      Gives .telemetrySend s fun t => s.dev.Untouched t) ∧
    (s.dev.ringMaster = true → s.dev.up = true →
      (s.dev.ring.grantSentAt + 100000000 ≤ s.dev.now → Gives .testGrantSend s fun t => t.ring.grantSentAt = s.dev.now ∧
        t.sent.length = s.dev.sent.length + ((List.range 16).filter fun p => decide (0 < p) && s.dev.isAdmitted p).length) ∧
      (s.dev.now < s.dev.ring.grantSentAt + 100000000 → Gives .testGrantSend s fun t => s.dev.Untouched t)) ∧
    (∀ (seq : Nat) (p : Fin 16), s.dev.onRing = true → p.val = s.dev.ownPos → Gives (.testGrantRx seq p) s fun t =>
      t.ring.grantAt = some s.dev.now ∧ t.nat Obj.TT_SLICE_PHASE_US = p.val % 4 * 2500 + 100) ∧
    (∀ a, s.dev.isMember = true → s.dev.ring.grantAt = some a →
      (a + 200000000 ≤ s.dev.now → Gives .testGrantMissing s fun t => t.ring.grantAt = none) ∧
      (s.dev.now < a + 200000000 → Gives .testGrantMissing s fun t => s.dev.Untouched t)))

/-- How a member comes onto the ring: it opens its bypass in an insertion window, asks again after 5 ms, takes ring
time as its device time with ADMIT, and closes its bypass on a refusal. What the master makes of its positions: a JOIN
that passes its checks is admitted, one that does not is refused with its cause; a member silent for 1 ms is no longer
admitted and BYPASS_ACTIVE stands; of two masters the one with the higher serial number yields and closes its bypass.
How admission ends and how two masters settle are the model's readings (log entries 99, 100 and 104). That a command
which cannot act changes nothing is the model's choice (log entry 17). -/
def Obligations.MembershipChanges : Prop :=
  (∀ s : State, s.dev.alive = true → s.dev.power.banked = false → s.dev.isMember = true →
    (s.dev.nat Obj.RING_STATE = 1 → Gives .insertionWindowStart s fun t => t.nat Obj.RING_STATE = 2 ∧ t.ring.inserted = true ∧
      t.ring.timeFrames = 0) ∧
    (s.dev.nat Obj.RING_STATE ≠ 1 → Gives .insertionWindowStart s fun t => s.dev.Untouched t) ∧
    (s.dev.nat Obj.RING_STATE = 3 →
      (s.dev.ring.joinAt + 500000 ≤ s.dev.now → Gives .joinRetry s fun t => t.nat Obj.RING_STATE = 3 ∧ t.ring.joinAt = s.dev.now ∧
        t.sent.length = s.dev.sent.length + 1) ∧
      (s.dev.now < s.dev.ring.joinAt + 500000 → Gives .joinRetry s fun t => s.dev.Untouched t) ∧
      (∀ (seq rt : Nat) (p : Fin 16), p.val = s.dev.ownPos → Gives (.admitRx seq p rt) s fun t => t.now = rt ∧
        t.nat Obj.RING_STATE = 4 ∧ t.nat Obj.RING_TIME_VALID = 1 ∧ t.ring.offset = 0 ∧ t.ring.lastTime = rt ∧ t.ring.rxSeq = []) ∧
      (∀ (p : Fin 16) (c : Nat), p.val = s.dev.ownPos → s.dev.testState = false → Gives (.joinRefusalRx p c) s fun t =>
        t.nat Obj.RING_STATE = 6 ∧ t.ring.inserted = false ∧ t.outs.bypass = true))) ∧
  (∀ s : State, s.dev.Talks → s.dev.alive = true → s.dev.ringMaster = true → s.dev.up = true →
    (∀ j : RingJoin, s.dev.isAdmitted j.pos = false →
      (s.dev.joinCause j = 0 → Gives (.joinRx j) s fun t => t.isAdmitted j.pos = true ∧ t.nat (Obj.POS_STATE j.pos) = 3 ∧
        t.nat (Obj.POS_SERIAL j.pos) = j.serial ∧ t.nat (Obj.POS_LAST_RX j.pos) = s.dev.now ∧ (t.pos j.pos).channels = j.channels) ∧
      (s.dev.joinCause j ≠ 0 → 0 < j.pos.val → j.pos.val < s.dev.nat Obj.RING_SIZE → Gives (.joinRx j) s fun t =>
        t.nat Obj.RING_ADMITTED = s.dev.nat Obj.RING_ADMITTED ∧ t.nat (Obj.POS_STATE j.pos) = 4 ∧
        t.nat (Obj.POS_CAUSE j.pos) = s.dev.joinCause j ∧ t.sent.length = s.dev.sent.length + 1)) ∧
    (∀ p : Fin 16, 0 < p.val → p.val < s.dev.nat Obj.RING_SIZE → s.dev.isAdmitted p = true →
      s.dev.nat (Obj.POS_LAST_RX p) + 100000 ≤ s.dev.now → Gives (.bypassCheck [p.val]) s fun t => t.isAdmitted p = false ∧
        t.nat (Obj.POS_STATE p) = 1 ∧ (t.pos p).gone = true ∧ t.active 0x0502 0xFFFF = true) ∧
    (∀ serial : Nat, s.dev.kindledPast = true →
      (serial < s.dev.nat Obj.SERIAL_NUMBER → Gives (.foreignRingTime serial) s fun t => t.ring.yielded = true ∧
        t.active 0x0502 0xFFFF = true ∧ t.outs.bypass = true) ∧
      (s.dev.nat Obj.SERIAL_NUMBER ≤ serial → Gives (.foreignRingTime serial) s fun t => s.dev.Untouched t)))

/-- What a frame or a timer of the ring leaves as it was: every lamp channel, what is staged and banked, sessions,
keys and slots, the life cycle, pattern engines and field inputs; and the levels but those the output stage shows. -/
def Obligations.RingFrame : Prop :=
  ∀ (s t : State) (p : Fin 2) (pos : Fin 16) (cls : Fin 256) (r : RingTime) (j : RingJoin) (st : RingStatus) (a b c q : Nat) (l : List Nat)
    (key : Fin 16777216) (w : Option (List Byte)) (data : List Byte) (i : Instr),
    i ∈ [Instr.ringTimeSend, .ringTimeRx r, .delayReqPeriod p, .delayReqRx p pos a, .delayRespRx p a b c, .timeMapRx a b c,
      .commitRepeat, .nakRx pos cls q, .dictReqRx ⟨pos, q⟩ key w, .dictRespRx pos a b c data, .statusSend, .statusRx st, .telemetrySend,
      .telemetryRx pos q data, .insertionWindowStart, .insertionWindowEnd, .joinRx j, .joinRetry, .joinRefusalRx pos c, .ringTimeLoss,
      .bypassCheck l, .foreignRingTime q, .hopDown p c, .hopRestore p, .hopLockRegained p, .testGrantSend, .testGrantRx q pos,
      .testGrantMissing] →
    exec i s = .next t →
    t.pending = s.pending ∧ t.dev.chan = s.dev.chan ∧ t.dev.now = s.dev.now ∧ t.dev.op = s.dev.op ∧ t.dev.lc = s.dev.lc ∧
    t.dev.grants = s.dev.grants ∧ t.dev.staged = s.dev.staged ∧ t.dev.banked = s.dev.banked ∧ t.dev.admin = s.dev.admin ∧
    t.dev.pe = s.dev.pe ∧ t.dev.fin = s.dev.fin ∧ t.dev.power = s.dev.power ∧ t.dev.ember = s.dev.ember ∧
    (s.dev.darkened = false → t.dev.outs.gate = s.dev.outs.gate ∧ t.dev.outs.iso = s.dev.outs.iso)

/-! ### Self-test, boundary scan, replay -/

/-- A slice that is granted tests one item: one that passes is behind it, one that fails is repeated, and one that
fails again is repaired where Table 14.1 has a spare row, and halts the block with cause 0x0005 elsewhere; a slice not
granted within 5 us is deferred, and one whose block is busy is not granted; an item of test 6 that is not offered is
skipped. The test state holds every gate low with both safe-state outputs asserted; the engine
runs there, and a link check starts with its counts at zero and stops. The results of a full run and of a link check
whose duration is over. The TAP responds in FACTORY and MAINTENANCE only, takes every instruction in the test state
and elsewhere decodes all but BYPASS, IDCODE and SAMPLE/PRELOAD as BYPASS; it changes nothing but its own instruction,
and Test-Logic-Reset selects IDCODE in every state. The states in the test state, the items of test 6, the link
check's first state and the TAP's are the model's readings (log entries 107 to 112). That a command which cannot act
changes nothing is the model's choice (log entry 17). -/
def Obligations.SelfTestReports : Prop :=
  ((∀ (s : State) (r : SliceResult), s.dev.Serving → s.dev.sliceStarts = true →
    (r.granted = false ∨ s.dev.blockBusy = true → Gives (.slicePhase r) s fun t => t.test.asking = some s.dev.now ∧ t.test.sliceEnd = none ∧
      t.test.item = s.dev.test.item) ∧
    (r.granted = true → s.dev.blockBusy = false → r.burst = none → s.dev.nat Obj.TT_TEST_NOW = 6 → r.offered = false →
      s.dev.test.item + 1 < testItems 6 → Gives (.slicePhase r) s fun t => t.test.item = s.dev.test.item + 1 ∧
        itemChan s.dev.test.item ∈ t.test.skipped ∧ t.test.failed = none ∧ t.op = s.dev.op) ∧
    (r.granted = true → s.dev.blockBusy = false → r.burst = none → s.dev.nat Obj.TT_TEST_NOW ≠ 6 ∨ r.offered = true →
      (r.ok = true → s.dev.test.item + 1 < testItems (s.dev.nat Obj.TT_TEST_NOW) → Gives (.slicePhase r) s fun t =>
        t.test.item = s.dev.test.item + 1 ∧ t.test.failed = none ∧ t.test.sliceEnd = some (s.dev.now + 5000) ∧ t.op = s.dev.op) ∧
      (r.ok = false → s.dev.test.failed = none → Gives (.slicePhase r) s fun t =>
        t.test.item = s.dev.test.item ∧ t.test.failed.isSome ∧ t.op = s.dev.op) ∧
      (r.ok = false → s.dev.test.failed.isSome →
        let n := s.dev.nat Obj.TT_TEST_NOW
        if n = 4 ∧ 4 ≤ s.dev.nat Obj.PKG_VARIANT ∧ s.dev.nat Obj.TT_REPAIR_MODE = 1 ∧ r.rows = 1 ∧ s.dev.spares ≠ [] then
          Gives (.slicePhase r) s fun t => t.op = s.dev.op ∧ t.active 0x0701 (testSource 4) = true ∧ r.row ∈ t.test.repaired
        else Gives (.slicePhase r) s fun t => s.dev.HaltsInto t 5 (2 ^ 24 * n + haltItem n s.dev.test.item r.row)))) ∧
  (∀ (s : State) (r : SliceResult), s.dev.Serving → s.dev.sliceStarts = false →
    Gives (.slicePhase r) s fun t => s.dev.Untouched t) ∧
  (∀ s : State, s.dev.Serving →
    (∀ a, s.dev.test.asking = some a → s.dev.now < a + 500 → Gives .sliceGrantTimeout s fun t => s.dev.Untouched t) ∧
    (∀ a, s.dev.test.asking = some a → a + 500 ≤ s.dev.now → Gives .sliceGrantTimeout s fun t => t.test.asking = none ∧
      (s.dev.nat Obj.TT_DEFERRED + 1 < counterMod Obj.TT_DEFERRED → t.nat Obj.TT_DEFERRED = s.dev.nat Obj.TT_DEFERRED + 1)) ∧
    (s.dev.test.sliceEnd.isSome → Gives .sliceEnd s fun t => t.test.sliceEnd = none ∧ t.test.hold = none) ∧
    (s.dev.test.sliceEnd = none → Gives .sliceEnd s fun t => s.dev.Untouched t))) ∧
  (∀ (s : State) (o : Origin),
    (Accepted (.ttEngineEnter o) s o Obj.TT_ENGINE_CONTROL [1] fun _ t =>
      t.nat Obj.TT_ENGINE_STATE = 1 ∧ t.outs.dark ∧ t.outs.asserted ∧ ∀ n, n < 96 → t.drv n = 7) ∧
    (Accepted (.ttEngineRun o) s o Obj.TT_ENGINE_CONTROL [2] fun u t =>
      t.nat Obj.TT_ENGINE_STATE = 2 ∧ u.testState = true) ∧
    (Accepted (.lkStart o) s o Obj.LK_CONTROL [1] fun u t =>
      t.nat Obj.LK_STATE = 2 ∧ t.nat Obj.LK_BITS = 0 ∧ t.nat Obj.LK_ERRORS = 0 ∧ t.test.lkAt = u.now) ∧
    (Accepted (.lkStop o) s o Obj.LK_CONTROL [2] fun u t => t.nat Obj.LK_STATE = 3 ∧ u.nat Obj.LK_STATE = 2)) ∧
  (∀ s : State, s.dev.alive = true → s.dev.power.banked = false →
    (∀ (failed : Fin 8192) (item : Nat), s.dev.nat Obj.TT_ENGINE_STATE = 2 → Gives (.testEngineDone failed item) s fun t =>
      t.nat Obj.TT_ENGINE_RESULT = failed ∧ t.nat Obj.TT_ENGINE_STATE = (if failed.val = 0 then 3 else 4)) ∧
    (∀ (failed : Fin 8192) (item : Nat), s.dev.nat Obj.TT_ENGINE_STATE ≠ 2 →
      Gives (.testEngineDone failed item) s fun t => s.dev.Untouched t) ∧
    (∀ bits errors : Nat, s.dev.nat Obj.LK_STATE ≠ 2 → Gives (.linkCheckDurationEnd bits errors) s fun t => s.dev.Untouched t) ∧
    (∀ bits errors : Nat, s.dev.nat Obj.LK_STATE = 2 →
      (s.dev.test.lkAt + 100000 * s.dev.nat Obj.LK_DURATION_MS ≤ s.dev.now → Gives (.linkCheckDurationEnd bits errors) s fun t =>
        t.nat Obj.LK_STATE = 3 ∧ t.nat Obj.LK_BITS = bits % 2 ^ 64 ∧ t.nat Obj.LK_ERRORS = errors % 2 ^ 64) ∧
      (s.dev.now < s.dev.test.lkAt + 100000 * s.dev.nat Obj.LK_DURATION_MS →
        Gives (.linkCheckDurationEnd bits errors) s fun t => s.dev.Untouched t))) ∧
  ((∀ (s : State) (i : Instr) (code : Nat),
    (i, code) ∈ [(Instr.jtagExtest, 0), (.jtagIdcode, 1), (.jtagSamplePreload, 2), (.jtagClamp, 4), (.jtagHighz, 5),
      (.jtagExtestPulse, 6), (.jtagExtestTrain, 7), (.jtagBypass, 0xFF)] →
    s.dev.power.inReset = false → s.dev.power.banked = false →
    Gives i s fun t => t = { s.dev with ins := t.ins, outs := t.outs, waiters := [] } ∧
      (s.dev.lc = .factory ∨ s.dev.lc = .maintenance → t.ins.jtag = true ∧
        t.ins.tapIr = (if s.dev.testState = true ∨ code = 1 ∨ code = 2 then code else 0xFF)) ∧
      (s.dev.lc ≠ .factory → s.dev.lc ≠ .maintenance → t.ins.jtag = false ∧ t.ins.tapIr = 1)) ∧
  (∀ s : State, Gives .testLogicReset s fun t => t = { s.dev with ins := t.ins, outs := t.outs, waiters := [] } ∧
    t.ins.jtag = false ∧ t.ins.tapIr = 1))

/-- A run of the replay takes up its recorded records one by one: one from before the anchor is passed, a recorded
edge of a field input happens in the run, and with none left the run ends with reason 1; elsewhere nothing happens.
Entering REPLAY resets the block into it; a run starts from the anchor of a loaded extract whose firmware a slot
holds; a discard empties what was loaded; a build starts and ends ready or refused. A part of an extract that follows
the ones before is appended, its last one ends the load as LOADED or REFUSED; a part out of order is answered with
status 0x000A and changes nothing loaded. How a run keeps its time, its objects and its order is the model's reading
(log entries 114 to 119). That a command which cannot act changes nothing is the model's choice (log entry 17). -/
def Obligations.ReplayStatesAdvance : Prop :=
  (∀ s : State, s.dev.power.inReset = false → s.dev.power.banked = false →
    (s.dev.op ≠ .replay ∨ s.dev.nat Obj.REPLAY_STATE ≠ 4 → Gives .replayInput s fun t => s.dev.Untouched t) ∧
    (s.dev.op = .replay → s.dev.nat Obj.REPLAY_STATE = 4 →
      (s.dev.nextInput = none → Gives .replayInput s fun t => t.nat Obj.REPLAY_STATE = 5 ∧ t.nat Obj.REPLAY_END_REASON = 1) ∧
      (∀ x, s.dev.nextInput = some x → x.2.2.at' < s.dev.replay.clock → x.2.2.ty ≠ 0x0C → Gives .replayInput s fun t =>
        t.replay.pos = s.dev.replay.pos + 1 ∧ t.replay.clock = s.dev.replay.clock ∧ t.fin = s.dev.fin) ∧
      (∀ (x : Nat × List Byte × JRec) (k : Fin 32) (on : Bool), s.dev.nextInput = some x → x.2.2.at' = s.dev.replay.clock →
        s.dev.replay.clock < s.dev.nat Obj.REPLAY_STOP_TIME → s.dev.replay.made = [] → s.dev.nat Obj.REPLAY_END_REASON = 0 →
        s.dev.replay.op = .operating → s.dev.nat (Obj.FIN_USE k) ≠ 0 →
        x.2.2.ty = 4 → x.2.2.fields = [(k.val : Int), (b2n on : Int)] → Gives .replayInput s fun t =>
          (t.fi k).rawOn = on ∧ (t.fi k).windowAt = some s.dev.replay.clock ∧ t.replay.pos = s.dev.replay.pos + 1 ∧
          t.now = s.dev.now ∧ t.sent = s.dev.sent ∧ t.outs.dark))) ∧
  ((∀ (s : State) (o : Origin),
    (Accepted (.replayEnter o) s o Obj.REPLAY_CONTROL [1] fun _ t =>
      t.op = .kindling ∧ t.lc = .replay ∧ t.now = 0 ∧ t.nat Obj.RESET_CAUSE = 3) ∧
    (Accepted (.replayStart o) s o Obj.REPLAY_CONTROL [2] fun u t =>
      ∀ i, u.replaySlot (leNat (((anchorOf u.replay.loaded).drop 4).take 4)) = some i → u.imageCause (u.slot i) = 0 →
        (extractSections u.replay.loaded).isSome → t.op = .replay ∧ t.nat Obj.REPLAY_STATE = 4 ∧ t.replay.own.isSome ∧
        t.replay.op = .kindled ∧ t.outs.asserted ∧ t.outs.dark) ∧
    (Accepted (.replayDiscard o) s o Obj.REPLAY_CONTROL [3] fun _ t =>
      t.nat Obj.REPLAY_STATE = 1 ∧ t.replay.loaded = [] ∧ t.nat Obj.REPLAY_LOADED_MIB = 0) ∧
    (Accepted (.xbBuild o) s o Obj.XB_BUILD [1] fun _ t =>
      t.replay.building = true ∧ t.replay.built = [] ∧ t.nat Obj.XB_STATE = 0 ∧ t.nat Obj.XB_SIZE = 0)) ∧
  (∀ s : State, s.dev.power.inReset = false → s.dev.power.banked = false → s.dev.replay.building = false →
    Gives .xbBuildDone s fun t => s.dev.Untouched t) ∧
  (∀ s : State, s.dev.power.inReset = false → s.dev.power.banked = false → s.dev.replay.building = true →
    Gives .xbBuildDone s fun t => t.replay.building = false ∧
      (if s.dev.buildCause = 0 then t.nat Obj.XB_STATE = 1 ∧ t.nat Obj.XB_SIZE = t.replay.built.length
      else t.nat Obj.XB_STATE = 2 ∧ t.nat Obj.XB_CAUSE = s.dev.buildCause))) ∧
  (∀ (s : State) (peer req counter off : Nat) (tag data : List Byte), s.dev.power.inReset = false → s.dev.power.banked = false →
    s.dev.op = .replay → s.dev.lc = .replay → s.dev.portOn = true → s.dev.portShed = false →
    s.dev.sessionRepeat peer counter tag = none → 1 ≤ data.length → data.length ≤ 1024 →
    s.dev.nat Obj.REPLAY_STATE = 1 ∨ s.dev.nat Obj.REPLAY_STATE = 2 →
    (s.dev.sessionCheck peer counter tag (datagram 0x30 req counter (loadBytes off false data)) = 0 →
      (off = s.dev.replay.loaded.length → Gives (.extractLoad peer req counter tag off data) s fun t =>
        t.replay.loaded = s.dev.replay.loaded ++ data ∧ t.nat Obj.REPLAY_STATE = 2 ∧ t.admin.lastCounter = counter ∧
        t.sent = s.dev.sent ++ [.svc peer 0xB0 req 0 []]) ∧
      (off ≠ s.dev.replay.loaded.length → Gives (.extractLoad peer req counter tag off data) s fun t =>
        t.replay = s.dev.replay ∧ t.sent = s.dev.sent ++ [.svc peer 0xB0 req 0x000A []])) ∧
    (s.dev.sessionCheck peer counter tag (datagram 0x30 req counter (loadBytes off true data)) = 0 →
      off = s.dev.replay.loaded.length → Gives (.extractLoadFinal peer req counter tag off data) s fun t =>
        t.replay.loaded = s.dev.replay.loaded ++ data ∧ (t.nat Obj.REPLAY_STATE = 3 ∨ t.nat Obj.REPLAY_STATE = 6) ∧
        (t.nat Obj.REPLAY_STATE = 3 → t.nat Obj.REPLAY_REFUSE_CAUSE = 0 ∧ t.replay.pos = 0) ∧
        (extractSections (s.dev.replay.loaded ++ data) = none → t.nat Obj.REPLAY_STATE = 6 ∧ t.nat Obj.REPLAY_REFUSE_CAUSE = 11)))

/-- In HALT-SAFE, held in reset, or with a run of the replay standing, a command of the lamps, of their supervision,
of the glowworm strings, the matrix and the field inputs changes nothing but what the output stage shows. That these
commands change nothing there is, beyond the rules cited, the model's choice (log entry 17). -/
def Obligations.HaltedFrame : Prop :=
  ∀ (s : State) (ch : Fin 96) (g : Fin 24) (k : Fin 32) (p : Fin 8) (sub : Fin 32) (v w : Nat) (z : Int) (b : Bool) (m : List (Option Nat)) (l : List Nat)
    (ev : PulseEv) (o : OpticalEv) (r : GwReturn) (i : Instr),
    i ∈ [Instr.groupFrameBoundary g b m, .pulseOnEdge ch, .pulseOffEdge ch, .inrushWindowEnd ch, .buckPeakCrossing ⟨ch, sub⟩,
      .buckOffTimeExpiry ch v, .buckPeakTimeout ch, .shortHiCrossing ⟨ch, sub⟩, .softOffComplete ch, .softOffTimeout ch, .latchRetryTimer ch,
      .retryPeriodClean ch, .evidenceClose ch ev, .dcEIntervalEnd ch ev, .darkOpenLoCrossing ⟨ch, sub⟩, .darkOpenLoFall ch,
      .darkDrainSample ch v w, .litWhenDarkDebounce ch, .isolationVerify g l, .probeDue ch, .probeEnd ch b, .warmingPulseJudge ch b v,
      .opticalWindowClose ch o, .lifeUpdateSecond, .deratingUpdate, .recalibrationDay, .ntcConversion g v, .kgndMeasurement g z,
      .gwFrameStart ⟨p, b⟩, .gwReturnJudge p r, .mxFrameStart, .mxSlotStart ⟨l, b⟩, .msyncEdge b, .msyncLoss, .finRawEdge k b, .finDebounceExpiry k,
      .finBreakEnter k, .finBreakExit k, .finUnknownEnd k] →
    s.dev.alive = false → Gives i s fun t => s.dev.Untouched t
end

