-- ==== Sys2Proof/Laws/State.lean ====
section
/-! SUPPORT. What each update of the block leaves as it was: one lemma for each field under each update, and what the
accessors read after an update. -/
namespace Sys2Proof.Machine

/-! ### Sparse tables -/

theorem look_tabDrop {α : Type} (m : Tab α) (k j : Nat) : look (tabDrop m k) j = if j = k then none else look m j := by
  induction m with
  | nil => simp [tabDrop, look]
  | cons e r ih =>
    obtain ⟨i, v⟩ := e
    by_cases h : i = k
    · simp only [tabDrop, if_pos h, ih, look]
      by_cases hj : j = k
      · simp [hj]
      · have : i ≠ j := fun x => hj (by omega)
        simp [hj, this]
    · simp only [tabDrop, if_neg h, look, ih]
      by_cases hj : i = j
      · have : j ≠ k := fun x => h (by omega)
        simp [hj, this]
      · simp [hj]

theorem look_tabIns {α : Type} (m : Tab α) (k j : Nat) (v : α) :
    look (tabIns m k v) j = if j = k then some v else look m j := by
  induction m with
  | nil => by_cases h : k = j <;> simp [tabIns, look, h, eq_comm]
  | cons e r ih =>
    obtain ⟨i, w⟩ := e
    by_cases h : i = k
    · by_cases hj : j = k
      · simp [tabIns, look, h, hj]
      · have : k ≠ j := fun x => hj x.symm
        simp [tabIns, look, h, hj, this]
    · by_cases hk : k < i
      · by_cases hj : j = k
        · simp [tabIns, look, h, hk, hj]
        · have : k ≠ j := fun x => hj x.symm
          simp [tabIns, look, h, hk, hj, this]
      · simp only [tabIns, if_neg h, if_neg hk, look, ih]
        by_cases hj : i = j
        · have : j ≠ k := fun x => h (by omega)
          simp [hj, this]
        · simp [hj]

theorem lookD_tabPut {α : Type} [DecidableEq α] (d : α) (m : Tab α) (k j : Nat) (v : α) :
    lookD d (tabPut d m k v) j = if j = k then v else lookD d m j := by
  by_cases h : v = d <;> by_cases hj : j = k <;> simp [lookD, tabPut, h, hj, look_tabDrop, look_tabIns]

@[simp] theorem lookD_tabPut_same {α : Type} [DecidableEq α] (d : α) (m : Tab α) (k : Nat) (v : α) :
    lookD d (tabPut d m k v) k = v := by simp [lookD_tabPut]

@[simp] theorem lookD_tabPut_ne {α : Type} [DecidableEq α] (d : α) (m : Tab α) {k j : Nat} (v : α) (h : j ≠ k) :
    lookD d (tabPut d m k v) j = lookD d m j := by simp [lookD_tabPut, h]

theorem storeVal_storePut (m : Store) (k j : Nat) (v : Val) :
    storeVal (storePut m k v) j = if j = k then v else storeVal m j := by
  by_cases h : v = objDefault k <;> by_cases hj : j = k <;> simp [storeVal, storePut, h, hj, look_tabDrop, look_tabIns]

/-! ### Reading an object after it is set -/

theorem Dev.val_putVal (d : Dev) (k j : Nat) (v : Val) : (d.putVal k v).val j = if j = k then v else d.val j :=
  storeVal_storePut d.dict k j v

@[simp] theorem Dev.val_putVal_same (d : Dev) (k : Nat) (v : Val) : (d.putVal k v).val k = v := by simp [Dev.val_putVal]

@[simp] theorem Dev.val_putVal_ne (d : Dev) {k j : Nat} (v : Val) (h : j ≠ k) : (d.putVal k v).val j = d.val j := by
  simp [Dev.val_putVal, h]

@[simp] theorem Dev.nat_put_same (d : Dev) (k v : Nat) : (d.put k v).nat k = v := by
  simp [Dev.put, Dev.nat, Dev.num, Val.int]

@[simp] theorem Dev.num_putInt_same (d : Dev) (k : Nat) (v : Int) : (d.putInt k v).num k = v := by
  simp [Dev.putInt, Dev.num, Val.int]

@[simp] theorem Dev.bytesOf_putBytes_same (d : Dev) (k : Nat) (b : List Byte) : (d.putBytes k b).bytesOf k = b := by
  simp [Dev.putBytes, Dev.bytesOf, Val.raw]

theorem Dev.nat_count_same (d : Dev) (k n : Nat) (h : d.nat k + n < counterMod k) : (d.count k n).nat k = d.nat k + n := by
  simp [Dev.count, h]

@[simp] theorem Dev.num_putVal_ne (d : Dev) {j : Nat} (k : Nat) (v : Val) (h : j ≠ k) : (d.putVal k v).num j = d.num j := by
  simp [Dev.num, h]

@[simp] theorem Dev.nat_putVal_ne (d : Dev) {j : Nat} (k : Nat) (v : Val) (h : j ≠ k) : (d.putVal k v).nat j = d.nat j := by
  simp [Dev.nat, Dev.num, h]

@[simp] theorem Dev.bytesOf_putVal_ne (d : Dev) {j : Nat} (k : Nat) (v : Val) (h : j ≠ k) : (d.putVal k v).bytesOf j = d.bytesOf j := by
  simp [Dev.bytesOf, h]

@[simp] theorem Dev.val_put_ne (d : Dev) {j : Nat} (k v : Nat) (h : j ≠ k) : (d.put k v).val j = d.val j := by
  simp [Dev.put, h]

@[simp] theorem Dev.num_put_ne (d : Dev) {j : Nat} (k v : Nat) (h : j ≠ k) : (d.put k v).num j = d.num j := by
  simp [Dev.num, h]

@[simp] theorem Dev.nat_put_ne (d : Dev) {j : Nat} (k v : Nat) (h : j ≠ k) : (d.put k v).nat j = d.nat j := by
  simp [Dev.nat, Dev.num, h]

@[simp] theorem Dev.bytesOf_put_ne (d : Dev) {j : Nat} (k v : Nat) (h : j ≠ k) : (d.put k v).bytesOf j = d.bytesOf j := by
  simp [Dev.bytesOf, h]

@[simp] theorem Dev.val_putInt_ne (d : Dev) {j : Nat} (k : Nat) (v : Int) (h : j ≠ k) : (d.putInt k v).val j = d.val j := by
  simp [Dev.putInt, h]

@[simp] theorem Dev.num_putInt_ne (d : Dev) {j : Nat} (k : Nat) (v : Int) (h : j ≠ k) : (d.putInt k v).num j = d.num j := by
  simp [Dev.num, h]

@[simp] theorem Dev.nat_putInt_ne (d : Dev) {j : Nat} (k : Nat) (v : Int) (h : j ≠ k) : (d.putInt k v).nat j = d.nat j := by
  simp [Dev.nat, Dev.num, h]

@[simp] theorem Dev.bytesOf_putInt_ne (d : Dev) {j : Nat} (k : Nat) (v : Int) (h : j ≠ k) : (d.putInt k v).bytesOf j = d.bytesOf j := by
  simp [Dev.bytesOf, h]

@[simp] theorem Dev.val_putBytes_ne (d : Dev) {j : Nat} (k : Nat) (v : List Byte) (h : j ≠ k) : (d.putBytes k v).val j = d.val j := by
  simp [Dev.putBytes, h]

@[simp] theorem Dev.num_putBytes_ne (d : Dev) {j : Nat} (k : Nat) (v : List Byte) (h : j ≠ k) : (d.putBytes k v).num j = d.num j := by
  simp [Dev.num, h]

@[simp] theorem Dev.nat_putBytes_ne (d : Dev) {j : Nat} (k : Nat) (v : List Byte) (h : j ≠ k) : (d.putBytes k v).nat j = d.nat j := by
  simp [Dev.nat, Dev.num, h]

@[simp] theorem Dev.bytesOf_putBytes_ne (d : Dev) {j : Nat} (k : Nat) (v : List Byte) (h : j ≠ k) : (d.putBytes k v).bytesOf j = d.bytesOf j := by
  simp [Dev.bytesOf, h]

@[simp] theorem Dev.val_count_ne (d : Dev) {j : Nat} (k v : Nat) (h : j ≠ k) : (d.count k v).val j = d.val j := by
  simp [Dev.count, Dev.put, h]

@[simp] theorem Dev.num_count_ne (d : Dev) {j : Nat} (k v : Nat) (h : j ≠ k) : (d.count k v).num j = d.num j := by
  simp [Dev.num, h]

@[simp] theorem Dev.nat_count_ne (d : Dev) {j : Nat} (k v : Nat) (h : j ≠ k) : (d.count k v).nat j = d.nat j := by
  simp [Dev.nat, Dev.num, h]

@[simp] theorem Dev.bytesOf_count_ne (d : Dev) {j : Nat} (k v : Nat) (h : j ≠ k) : (d.count k v).bytesOf j = d.bytesOf j := by
  simp [Dev.bytesOf, h]

@[simp] theorem Dev.val_countWrap_ne (d : Dev) {j : Nat} (k v : Nat) (h : j ≠ k) : (d.countWrap k v).val j = d.val j := by
  simp [Dev.countWrap, Dev.put, h]

@[simp] theorem Dev.num_countWrap_ne (d : Dev) {j : Nat} (k v : Nat) (h : j ≠ k) : (d.countWrap k v).num j = d.num j := by
  simp [Dev.num, h]

@[simp] theorem Dev.nat_countWrap_ne (d : Dev) {j : Nat} (k v : Nat) (h : j ≠ k) : (d.countWrap k v).nat j = d.nat j := by
  simp [Dev.nat, Dev.num, h]

@[simp] theorem Dev.bytesOf_countWrap_ne (d : Dev) {j : Nat} (k v : Nat) (h : j ≠ k) : (d.countWrap k v).bytesOf j = d.bytesOf j := by
  simp [Dev.bytesOf, h]

@[simp] theorem Dev.val_countSat_ne (d : Dev) {j : Nat} (k m v : Nat) (h : j ≠ k) : (d.countSat k m v).val j = d.val j := by
  simp [Dev.countSat, Dev.put, h]

@[simp] theorem Dev.num_countSat_ne (d : Dev) {j : Nat} (k m v : Nat) (h : j ≠ k) : (d.countSat k m v).num j = d.num j := by
  simp [Dev.num, h]

@[simp] theorem Dev.nat_countSat_ne (d : Dev) {j : Nat} (k m v : Nat) (h : j ≠ k) : (d.countSat k m v).nat j = d.nat j := by
  simp [Dev.nat, Dev.num, h]

@[simp] theorem Dev.bytesOf_countSat_ne (d : Dev) {j : Nat} (k m v : Nat) (h : j ≠ k) : (d.countSat k m v).bytesOf j = d.bytesOf j := by
  simp [Dev.bytesOf, h]

/-! ### Fields under updates of the dictionary -/

@[simp] theorem Dev.putVal_now (d : Dev) (k : Nat) (v : Val) : (d.putVal k v).now = d.now := rfl
@[simp] theorem Dev.putVal_ticks (d : Dev) (k : Nat) (v : Val) : (d.putVal k v).ticks = d.ticks := rfl
@[simp] theorem Dev.putVal_op (d : Dev) (k : Nat) (v : Val) : (d.putVal k v).op = d.op := rfl
@[simp] theorem Dev.putVal_lc (d : Dev) (k : Nat) (v : Val) : (d.putVal k v).lc = d.lc := rfl
@[simp] theorem Dev.putVal_banked (d : Dev) (k : Nat) (v : Val) : (d.putVal k v).banked = d.banked := rfl
@[simp] theorem Dev.putVal_staged (d : Dev) (k : Nat) (v : Val) : (d.putVal k v).staged = d.staged := rfl
@[simp] theorem Dev.putVal_sent (d : Dev) (k : Nat) (v : Val) : (d.putVal k v).sent = d.sent := rfl
@[simp] theorem Dev.putVal_digests (d : Dev) (k : Nat) (v : Val) : (d.putVal k v).digests = d.digests := rfl
@[simp] theorem Dev.putVal_asks (d : Dev) (k : Nat) (v : Val) : (d.putVal k v).asks = d.asks := rfl
@[simp] theorem Dev.putVal_waiters (d : Dev) (k : Nat) (v : Val) : (d.putVal k v).waiters = d.waiters := rfl
@[simp] theorem Dev.putVal_freeCount (d : Dev) (k : Nat) (v : Val) : (d.putVal k v).freeCount = d.freeCount := rfl
@[simp] theorem Dev.putVal_outs (d : Dev) (k : Nat) (v : Val) : (d.putVal k v).outs = d.outs := rfl
@[simp] theorem Dev.putVal_ins (d : Dev) (k : Nat) (v : Val) : (d.putVal k v).ins = d.ins := rfl
@[simp] theorem Dev.putVal_rep (d : Dev) (k : Nat) (v : Val) : (d.putVal k v).rep = d.rep := rfl
@[simp] theorem Dev.putVal_jnl (d : Dev) (k : Nat) (v : Val) : (d.putVal k v).jnl = d.jnl := rfl
@[simp] theorem Dev.putVal_ember (d : Dev) (k : Nat) (v : Val) : (d.putVal k v).ember = d.ember := rfl
@[simp] theorem Dev.putVal_lanes (d : Dev) (k : Nat) (v : Val) : (d.putVal k v).lanes = d.lanes := rfl
@[simp] theorem Dev.putVal_grants (d : Dev) (k : Nat) (v : Val) : (d.putVal k v).grants = d.grants := rfl
@[simp] theorem Dev.putVal_chan (d : Dev) (k : Nat) (v : Val) : (d.putVal k v).chan = d.chan := rfl
@[simp] theorem Dev.putVal_life (d : Dev) (k : Nat) (v : Val) : (d.putVal k v).life = d.life := rfl
@[simp] theorem Dev.putVal_grp (d : Dev) (k : Nat) (v : Val) : (d.putVal k v).grp = d.grp := rfl
@[simp] theorem Dev.putVal_sg (d : Dev) (k : Nat) (v : Val) : (d.putVal k v).sg = d.sg := rfl
@[simp] theorem Dev.putVal_silentEntered (d : Dev) (k : Nat) (v : Val) : (d.putVal k v).silentEntered = d.silentEntered := rfl
@[simp] theorem Dev.putVal_pe (d : Dev) (k : Nat) (v : Val) : (d.putVal k v).pe = d.pe := rfl
@[simp] theorem Dev.putVal_gw (d : Dev) (k : Nat) (v : Val) : (d.putVal k v).gw = d.gw := rfl
@[simp] theorem Dev.putVal_mx (d : Dev) (k : Nat) (v : Val) : (d.putVal k v).mx = d.mx := rfl
@[simp] theorem Dev.putVal_fin (d : Dev) (k : Nat) (v : Val) : (d.putVal k v).fin = d.fin := rfl
@[simp] theorem Dev.putVal_ring (d : Dev) (k : Nat) (v : Val) : (d.putVal k v).ring = d.ring := rfl
@[simp] theorem Dev.putVal_cfg (d : Dev) (k : Nat) (v : Val) : (d.putVal k v).cfg = d.cfg := rfl
@[simp] theorem Dev.putVal_guard (d : Dev) (k : Nat) (v : Val) : (d.putVal k v).guard = d.guard := rfl
@[simp] theorem Dev.putVal_power (d : Dev) (k : Nat) (v : Val) : (d.putVal k v).power = d.power := rfl
@[simp] theorem Dev.putVal_admin (d : Dev) (k : Nat) (v : Val) : (d.putVal k v).admin = d.admin := rfl
@[simp] theorem Dev.putVal_test (d : Dev) (k : Nat) (v : Val) : (d.putVal k v).test = d.test := rfl
@[simp] theorem Dev.putVal_replay (d : Dev) (k : Nat) (v : Val) : (d.putVal k v).replay = d.replay := rfl
@[simp] theorem Dev.putVal_ch (d : Dev) (k : Nat) (v : Val) (n : Nat) : (d.putVal k v).ch n = d.ch n := rfl
@[simp] theorem Dev.putVal_lf (d : Dev) (k : Nat) (v : Val) (n : Nat) : (d.putVal k v).lf n = d.lf n := rfl
@[simp] theorem Dev.putVal_gr (d : Dev) (k : Nat) (v : Val) (n : Nat) : (d.putVal k v).gr n = d.gr n := rfl
@[simp] theorem Dev.putVal_sgp (d : Dev) (k : Nat) (v : Val) (n : Nat) : (d.putVal k v).sgp n = d.sgp n := rfl
@[simp] theorem Dev.putVal_eng (d : Dev) (k : Nat) (v : Val) (n : Nat) : (d.putVal k v).eng n = d.eng n := rfl
@[simp] theorem Dev.putVal_port (d : Dev) (k : Nat) (v : Val) (n : Nat) : (d.putVal k v).port n = d.port n := rfl
@[simp] theorem Dev.putVal_fi (d : Dev) (k : Nat) (v : Val) (n : Nat) : (d.putVal k v).fi n = d.fi n := rfl
@[simp] theorem Dev.putVal_ln (d : Dev) (k : Nat) (v : Val) (n : Nat) : (d.putVal k v).ln n = d.ln n := rfl
@[simp] theorem Dev.putVal_cl (d : Dev) (k : Nat) (v : Val) (n : Nat) : (d.putVal k v).cl n = d.cl n := rfl
@[simp] theorem Dev.putVal_fg (d : Dev) (k : Nat) (v : Val) (n : Nat) : (d.putVal k v).fg n = d.fg n := rfl
@[simp] theorem Dev.putVal_hop (d : Dev) (k : Nat) (v : Val) (n : Nat) : (d.putVal k v).hop n = d.hop n := rfl
@[simp] theorem Dev.putVal_pos (d : Dev) (k : Nat) (v : Val) (n : Nat) : (d.putVal k v).pos n = d.pos n := rfl
@[simp] theorem Dev.putVal_slot (d : Dev) (k : Nat) (v : Val) (n : Nat) : (d.putVal k v).slot n = d.slot n := rfl
@[simp] theorem Dev.putVal_gate (d : Dev) (k : Nat) (v : Val) (n : Nat) : (d.putVal k v).gate n = d.gate n := rfl
@[simp] theorem Dev.putVal_iso (d : Dev) (k : Nat) (v : Val) (n : Nat) : (d.putVal k v).iso n = d.iso n := rfl
@[simp] theorem Dev.put_now (d : Dev) (k v : Nat) : (d.put k v).now = d.now := rfl
@[simp] theorem Dev.put_ticks (d : Dev) (k v : Nat) : (d.put k v).ticks = d.ticks := rfl
@[simp] theorem Dev.put_op (d : Dev) (k v : Nat) : (d.put k v).op = d.op := rfl
@[simp] theorem Dev.put_lc (d : Dev) (k v : Nat) : (d.put k v).lc = d.lc := rfl
@[simp] theorem Dev.put_banked (d : Dev) (k v : Nat) : (d.put k v).banked = d.banked := rfl
@[simp] theorem Dev.put_staged (d : Dev) (k v : Nat) : (d.put k v).staged = d.staged := rfl
@[simp] theorem Dev.put_sent (d : Dev) (k v : Nat) : (d.put k v).sent = d.sent := rfl
@[simp] theorem Dev.put_digests (d : Dev) (k v : Nat) : (d.put k v).digests = d.digests := rfl
@[simp] theorem Dev.put_asks (d : Dev) (k v : Nat) : (d.put k v).asks = d.asks := rfl
@[simp] theorem Dev.put_waiters (d : Dev) (k v : Nat) : (d.put k v).waiters = d.waiters := rfl
@[simp] theorem Dev.put_freeCount (d : Dev) (k v : Nat) : (d.put k v).freeCount = d.freeCount := rfl
@[simp] theorem Dev.put_outs (d : Dev) (k v : Nat) : (d.put k v).outs = d.outs := rfl
@[simp] theorem Dev.put_ins (d : Dev) (k v : Nat) : (d.put k v).ins = d.ins := rfl
@[simp] theorem Dev.put_rep (d : Dev) (k v : Nat) : (d.put k v).rep = d.rep := rfl
@[simp] theorem Dev.put_jnl (d : Dev) (k v : Nat) : (d.put k v).jnl = d.jnl := rfl
@[simp] theorem Dev.put_ember (d : Dev) (k v : Nat) : (d.put k v).ember = d.ember := rfl
@[simp] theorem Dev.put_lanes (d : Dev) (k v : Nat) : (d.put k v).lanes = d.lanes := rfl
@[simp] theorem Dev.put_grants (d : Dev) (k v : Nat) : (d.put k v).grants = d.grants := rfl
@[simp] theorem Dev.put_chan (d : Dev) (k v : Nat) : (d.put k v).chan = d.chan := rfl
@[simp] theorem Dev.put_life (d : Dev) (k v : Nat) : (d.put k v).life = d.life := rfl
@[simp] theorem Dev.put_grp (d : Dev) (k v : Nat) : (d.put k v).grp = d.grp := rfl
@[simp] theorem Dev.put_sg (d : Dev) (k v : Nat) : (d.put k v).sg = d.sg := rfl
@[simp] theorem Dev.put_silentEntered (d : Dev) (k v : Nat) : (d.put k v).silentEntered = d.silentEntered := rfl
@[simp] theorem Dev.put_pe (d : Dev) (k v : Nat) : (d.put k v).pe = d.pe := rfl
@[simp] theorem Dev.put_gw (d : Dev) (k v : Nat) : (d.put k v).gw = d.gw := rfl
@[simp] theorem Dev.put_mx (d : Dev) (k v : Nat) : (d.put k v).mx = d.mx := rfl
@[simp] theorem Dev.put_fin (d : Dev) (k v : Nat) : (d.put k v).fin = d.fin := rfl
@[simp] theorem Dev.put_ring (d : Dev) (k v : Nat) : (d.put k v).ring = d.ring := rfl
@[simp] theorem Dev.put_cfg (d : Dev) (k v : Nat) : (d.put k v).cfg = d.cfg := rfl
@[simp] theorem Dev.put_guard (d : Dev) (k v : Nat) : (d.put k v).guard = d.guard := rfl
@[simp] theorem Dev.put_power (d : Dev) (k v : Nat) : (d.put k v).power = d.power := rfl
@[simp] theorem Dev.put_admin (d : Dev) (k v : Nat) : (d.put k v).admin = d.admin := rfl
@[simp] theorem Dev.put_test (d : Dev) (k v : Nat) : (d.put k v).test = d.test := rfl
@[simp] theorem Dev.put_replay (d : Dev) (k v : Nat) : (d.put k v).replay = d.replay := rfl
@[simp] theorem Dev.put_ch (d : Dev) (k v : Nat) (n : Nat) : (d.put k v).ch n = d.ch n := rfl
@[simp] theorem Dev.put_lf (d : Dev) (k v : Nat) (n : Nat) : (d.put k v).lf n = d.lf n := rfl
@[simp] theorem Dev.put_gr (d : Dev) (k v : Nat) (n : Nat) : (d.put k v).gr n = d.gr n := rfl
@[simp] theorem Dev.put_sgp (d : Dev) (k v : Nat) (n : Nat) : (d.put k v).sgp n = d.sgp n := rfl
@[simp] theorem Dev.put_eng (d : Dev) (k v : Nat) (n : Nat) : (d.put k v).eng n = d.eng n := rfl
@[simp] theorem Dev.put_port (d : Dev) (k v : Nat) (n : Nat) : (d.put k v).port n = d.port n := rfl
@[simp] theorem Dev.put_fi (d : Dev) (k v : Nat) (n : Nat) : (d.put k v).fi n = d.fi n := rfl
@[simp] theorem Dev.put_ln (d : Dev) (k v : Nat) (n : Nat) : (d.put k v).ln n = d.ln n := rfl
@[simp] theorem Dev.put_cl (d : Dev) (k v : Nat) (n : Nat) : (d.put k v).cl n = d.cl n := rfl
@[simp] theorem Dev.put_fg (d : Dev) (k v : Nat) (n : Nat) : (d.put k v).fg n = d.fg n := rfl
@[simp] theorem Dev.put_hop (d : Dev) (k v : Nat) (n : Nat) : (d.put k v).hop n = d.hop n := rfl
@[simp] theorem Dev.put_pos (d : Dev) (k v : Nat) (n : Nat) : (d.put k v).pos n = d.pos n := rfl
@[simp] theorem Dev.put_slot (d : Dev) (k v : Nat) (n : Nat) : (d.put k v).slot n = d.slot n := rfl
@[simp] theorem Dev.put_gate (d : Dev) (k v : Nat) (n : Nat) : (d.put k v).gate n = d.gate n := rfl
@[simp] theorem Dev.put_iso (d : Dev) (k v : Nat) (n : Nat) : (d.put k v).iso n = d.iso n := rfl
@[simp] theorem Dev.putInt_now (d : Dev) (k : Nat) (v : Int) : (d.putInt k v).now = d.now := rfl
@[simp] theorem Dev.putInt_ticks (d : Dev) (k : Nat) (v : Int) : (d.putInt k v).ticks = d.ticks := rfl
@[simp] theorem Dev.putInt_op (d : Dev) (k : Nat) (v : Int) : (d.putInt k v).op = d.op := rfl
@[simp] theorem Dev.putInt_lc (d : Dev) (k : Nat) (v : Int) : (d.putInt k v).lc = d.lc := rfl
@[simp] theorem Dev.putInt_banked (d : Dev) (k : Nat) (v : Int) : (d.putInt k v).banked = d.banked := rfl
@[simp] theorem Dev.putInt_staged (d : Dev) (k : Nat) (v : Int) : (d.putInt k v).staged = d.staged := rfl
@[simp] theorem Dev.putInt_sent (d : Dev) (k : Nat) (v : Int) : (d.putInt k v).sent = d.sent := rfl
@[simp] theorem Dev.putInt_digests (d : Dev) (k : Nat) (v : Int) : (d.putInt k v).digests = d.digests := rfl
@[simp] theorem Dev.putInt_asks (d : Dev) (k : Nat) (v : Int) : (d.putInt k v).asks = d.asks := rfl
@[simp] theorem Dev.putInt_waiters (d : Dev) (k : Nat) (v : Int) : (d.putInt k v).waiters = d.waiters := rfl
@[simp] theorem Dev.putInt_freeCount (d : Dev) (k : Nat) (v : Int) : (d.putInt k v).freeCount = d.freeCount := rfl
@[simp] theorem Dev.putInt_outs (d : Dev) (k : Nat) (v : Int) : (d.putInt k v).outs = d.outs := rfl
@[simp] theorem Dev.putInt_ins (d : Dev) (k : Nat) (v : Int) : (d.putInt k v).ins = d.ins := rfl
@[simp] theorem Dev.putInt_rep (d : Dev) (k : Nat) (v : Int) : (d.putInt k v).rep = d.rep := rfl
@[simp] theorem Dev.putInt_jnl (d : Dev) (k : Nat) (v : Int) : (d.putInt k v).jnl = d.jnl := rfl
@[simp] theorem Dev.putInt_ember (d : Dev) (k : Nat) (v : Int) : (d.putInt k v).ember = d.ember := rfl
@[simp] theorem Dev.putInt_lanes (d : Dev) (k : Nat) (v : Int) : (d.putInt k v).lanes = d.lanes := rfl
@[simp] theorem Dev.putInt_grants (d : Dev) (k : Nat) (v : Int) : (d.putInt k v).grants = d.grants := rfl
@[simp] theorem Dev.putInt_chan (d : Dev) (k : Nat) (v : Int) : (d.putInt k v).chan = d.chan := rfl
@[simp] theorem Dev.putInt_life (d : Dev) (k : Nat) (v : Int) : (d.putInt k v).life = d.life := rfl
@[simp] theorem Dev.putInt_grp (d : Dev) (k : Nat) (v : Int) : (d.putInt k v).grp = d.grp := rfl
@[simp] theorem Dev.putInt_sg (d : Dev) (k : Nat) (v : Int) : (d.putInt k v).sg = d.sg := rfl
@[simp] theorem Dev.putInt_silentEntered (d : Dev) (k : Nat) (v : Int) : (d.putInt k v).silentEntered = d.silentEntered := rfl
@[simp] theorem Dev.putInt_pe (d : Dev) (k : Nat) (v : Int) : (d.putInt k v).pe = d.pe := rfl
@[simp] theorem Dev.putInt_gw (d : Dev) (k : Nat) (v : Int) : (d.putInt k v).gw = d.gw := rfl
@[simp] theorem Dev.putInt_mx (d : Dev) (k : Nat) (v : Int) : (d.putInt k v).mx = d.mx := rfl
@[simp] theorem Dev.putInt_fin (d : Dev) (k : Nat) (v : Int) : (d.putInt k v).fin = d.fin := rfl
@[simp] theorem Dev.putInt_ring (d : Dev) (k : Nat) (v : Int) : (d.putInt k v).ring = d.ring := rfl
@[simp] theorem Dev.putInt_cfg (d : Dev) (k : Nat) (v : Int) : (d.putInt k v).cfg = d.cfg := rfl
@[simp] theorem Dev.putInt_guard (d : Dev) (k : Nat) (v : Int) : (d.putInt k v).guard = d.guard := rfl
@[simp] theorem Dev.putInt_power (d : Dev) (k : Nat) (v : Int) : (d.putInt k v).power = d.power := rfl
@[simp] theorem Dev.putInt_admin (d : Dev) (k : Nat) (v : Int) : (d.putInt k v).admin = d.admin := rfl
@[simp] theorem Dev.putInt_test (d : Dev) (k : Nat) (v : Int) : (d.putInt k v).test = d.test := rfl
@[simp] theorem Dev.putInt_replay (d : Dev) (k : Nat) (v : Int) : (d.putInt k v).replay = d.replay := rfl
@[simp] theorem Dev.putInt_ch (d : Dev) (k : Nat) (v : Int) (n : Nat) : (d.putInt k v).ch n = d.ch n := rfl
@[simp] theorem Dev.putInt_lf (d : Dev) (k : Nat) (v : Int) (n : Nat) : (d.putInt k v).lf n = d.lf n := rfl
@[simp] theorem Dev.putInt_gr (d : Dev) (k : Nat) (v : Int) (n : Nat) : (d.putInt k v).gr n = d.gr n := rfl
@[simp] theorem Dev.putInt_sgp (d : Dev) (k : Nat) (v : Int) (n : Nat) : (d.putInt k v).sgp n = d.sgp n := rfl
@[simp] theorem Dev.putInt_eng (d : Dev) (k : Nat) (v : Int) (n : Nat) : (d.putInt k v).eng n = d.eng n := rfl
@[simp] theorem Dev.putInt_port (d : Dev) (k : Nat) (v : Int) (n : Nat) : (d.putInt k v).port n = d.port n := rfl
@[simp] theorem Dev.putInt_fi (d : Dev) (k : Nat) (v : Int) (n : Nat) : (d.putInt k v).fi n = d.fi n := rfl
@[simp] theorem Dev.putInt_ln (d : Dev) (k : Nat) (v : Int) (n : Nat) : (d.putInt k v).ln n = d.ln n := rfl
@[simp] theorem Dev.putInt_cl (d : Dev) (k : Nat) (v : Int) (n : Nat) : (d.putInt k v).cl n = d.cl n := rfl
@[simp] theorem Dev.putInt_fg (d : Dev) (k : Nat) (v : Int) (n : Nat) : (d.putInt k v).fg n = d.fg n := rfl
@[simp] theorem Dev.putInt_hop (d : Dev) (k : Nat) (v : Int) (n : Nat) : (d.putInt k v).hop n = d.hop n := rfl
@[simp] theorem Dev.putInt_pos (d : Dev) (k : Nat) (v : Int) (n : Nat) : (d.putInt k v).pos n = d.pos n := rfl
@[simp] theorem Dev.putInt_slot (d : Dev) (k : Nat) (v : Int) (n : Nat) : (d.putInt k v).slot n = d.slot n := rfl
@[simp] theorem Dev.putInt_gate (d : Dev) (k : Nat) (v : Int) (n : Nat) : (d.putInt k v).gate n = d.gate n := rfl
@[simp] theorem Dev.putInt_iso (d : Dev) (k : Nat) (v : Int) (n : Nat) : (d.putInt k v).iso n = d.iso n := rfl
@[simp] theorem Dev.putBytes_now (d : Dev) (k : Nat) (v : List Byte) : (d.putBytes k v).now = d.now := rfl
@[simp] theorem Dev.putBytes_ticks (d : Dev) (k : Nat) (v : List Byte) : (d.putBytes k v).ticks = d.ticks := rfl
@[simp] theorem Dev.putBytes_op (d : Dev) (k : Nat) (v : List Byte) : (d.putBytes k v).op = d.op := rfl
@[simp] theorem Dev.putBytes_lc (d : Dev) (k : Nat) (v : List Byte) : (d.putBytes k v).lc = d.lc := rfl
@[simp] theorem Dev.putBytes_banked (d : Dev) (k : Nat) (v : List Byte) : (d.putBytes k v).banked = d.banked := rfl
@[simp] theorem Dev.putBytes_staged (d : Dev) (k : Nat) (v : List Byte) : (d.putBytes k v).staged = d.staged := rfl
@[simp] theorem Dev.putBytes_sent (d : Dev) (k : Nat) (v : List Byte) : (d.putBytes k v).sent = d.sent := rfl
@[simp] theorem Dev.putBytes_digests (d : Dev) (k : Nat) (v : List Byte) : (d.putBytes k v).digests = d.digests := rfl
@[simp] theorem Dev.putBytes_asks (d : Dev) (k : Nat) (v : List Byte) : (d.putBytes k v).asks = d.asks := rfl
@[simp] theorem Dev.putBytes_waiters (d : Dev) (k : Nat) (v : List Byte) : (d.putBytes k v).waiters = d.waiters := rfl
@[simp] theorem Dev.putBytes_freeCount (d : Dev) (k : Nat) (v : List Byte) : (d.putBytes k v).freeCount = d.freeCount := rfl
@[simp] theorem Dev.putBytes_outs (d : Dev) (k : Nat) (v : List Byte) : (d.putBytes k v).outs = d.outs := rfl
@[simp] theorem Dev.putBytes_ins (d : Dev) (k : Nat) (v : List Byte) : (d.putBytes k v).ins = d.ins := rfl
@[simp] theorem Dev.putBytes_rep (d : Dev) (k : Nat) (v : List Byte) : (d.putBytes k v).rep = d.rep := rfl
@[simp] theorem Dev.putBytes_jnl (d : Dev) (k : Nat) (v : List Byte) : (d.putBytes k v).jnl = d.jnl := rfl
@[simp] theorem Dev.putBytes_ember (d : Dev) (k : Nat) (v : List Byte) : (d.putBytes k v).ember = d.ember := rfl
@[simp] theorem Dev.putBytes_lanes (d : Dev) (k : Nat) (v : List Byte) : (d.putBytes k v).lanes = d.lanes := rfl
@[simp] theorem Dev.putBytes_grants (d : Dev) (k : Nat) (v : List Byte) : (d.putBytes k v).grants = d.grants := rfl
@[simp] theorem Dev.putBytes_chan (d : Dev) (k : Nat) (v : List Byte) : (d.putBytes k v).chan = d.chan := rfl
@[simp] theorem Dev.putBytes_life (d : Dev) (k : Nat) (v : List Byte) : (d.putBytes k v).life = d.life := rfl
@[simp] theorem Dev.putBytes_grp (d : Dev) (k : Nat) (v : List Byte) : (d.putBytes k v).grp = d.grp := rfl
@[simp] theorem Dev.putBytes_sg (d : Dev) (k : Nat) (v : List Byte) : (d.putBytes k v).sg = d.sg := rfl
@[simp] theorem Dev.putBytes_silentEntered (d : Dev) (k : Nat) (v : List Byte) : (d.putBytes k v).silentEntered = d.silentEntered := rfl
@[simp] theorem Dev.putBytes_pe (d : Dev) (k : Nat) (v : List Byte) : (d.putBytes k v).pe = d.pe := rfl
@[simp] theorem Dev.putBytes_gw (d : Dev) (k : Nat) (v : List Byte) : (d.putBytes k v).gw = d.gw := rfl
@[simp] theorem Dev.putBytes_mx (d : Dev) (k : Nat) (v : List Byte) : (d.putBytes k v).mx = d.mx := rfl
@[simp] theorem Dev.putBytes_fin (d : Dev) (k : Nat) (v : List Byte) : (d.putBytes k v).fin = d.fin := rfl
@[simp] theorem Dev.putBytes_ring (d : Dev) (k : Nat) (v : List Byte) : (d.putBytes k v).ring = d.ring := rfl
@[simp] theorem Dev.putBytes_cfg (d : Dev) (k : Nat) (v : List Byte) : (d.putBytes k v).cfg = d.cfg := rfl
@[simp] theorem Dev.putBytes_guard (d : Dev) (k : Nat) (v : List Byte) : (d.putBytes k v).guard = d.guard := rfl
@[simp] theorem Dev.putBytes_power (d : Dev) (k : Nat) (v : List Byte) : (d.putBytes k v).power = d.power := rfl
@[simp] theorem Dev.putBytes_admin (d : Dev) (k : Nat) (v : List Byte) : (d.putBytes k v).admin = d.admin := rfl
@[simp] theorem Dev.putBytes_test (d : Dev) (k : Nat) (v : List Byte) : (d.putBytes k v).test = d.test := rfl
@[simp] theorem Dev.putBytes_replay (d : Dev) (k : Nat) (v : List Byte) : (d.putBytes k v).replay = d.replay := rfl
@[simp] theorem Dev.putBytes_ch (d : Dev) (k : Nat) (v : List Byte) (n : Nat) : (d.putBytes k v).ch n = d.ch n := rfl
@[simp] theorem Dev.putBytes_lf (d : Dev) (k : Nat) (v : List Byte) (n : Nat) : (d.putBytes k v).lf n = d.lf n := rfl
@[simp] theorem Dev.putBytes_gr (d : Dev) (k : Nat) (v : List Byte) (n : Nat) : (d.putBytes k v).gr n = d.gr n := rfl
@[simp] theorem Dev.putBytes_sgp (d : Dev) (k : Nat) (v : List Byte) (n : Nat) : (d.putBytes k v).sgp n = d.sgp n := rfl
@[simp] theorem Dev.putBytes_eng (d : Dev) (k : Nat) (v : List Byte) (n : Nat) : (d.putBytes k v).eng n = d.eng n := rfl
@[simp] theorem Dev.putBytes_port (d : Dev) (k : Nat) (v : List Byte) (n : Nat) : (d.putBytes k v).port n = d.port n := rfl
@[simp] theorem Dev.putBytes_fi (d : Dev) (k : Nat) (v : List Byte) (n : Nat) : (d.putBytes k v).fi n = d.fi n := rfl
@[simp] theorem Dev.putBytes_ln (d : Dev) (k : Nat) (v : List Byte) (n : Nat) : (d.putBytes k v).ln n = d.ln n := rfl
@[simp] theorem Dev.putBytes_cl (d : Dev) (k : Nat) (v : List Byte) (n : Nat) : (d.putBytes k v).cl n = d.cl n := rfl
@[simp] theorem Dev.putBytes_fg (d : Dev) (k : Nat) (v : List Byte) (n : Nat) : (d.putBytes k v).fg n = d.fg n := rfl
@[simp] theorem Dev.putBytes_hop (d : Dev) (k : Nat) (v : List Byte) (n : Nat) : (d.putBytes k v).hop n = d.hop n := rfl
@[simp] theorem Dev.putBytes_pos (d : Dev) (k : Nat) (v : List Byte) (n : Nat) : (d.putBytes k v).pos n = d.pos n := rfl
@[simp] theorem Dev.putBytes_slot (d : Dev) (k : Nat) (v : List Byte) (n : Nat) : (d.putBytes k v).slot n = d.slot n := rfl
@[simp] theorem Dev.putBytes_gate (d : Dev) (k : Nat) (v : List Byte) (n : Nat) : (d.putBytes k v).gate n = d.gate n := rfl
@[simp] theorem Dev.putBytes_iso (d : Dev) (k : Nat) (v : List Byte) (n : Nat) : (d.putBytes k v).iso n = d.iso n := rfl
@[simp] theorem Dev.count_now (d : Dev) (k v : Nat) : (d.count k v).now = d.now := rfl
@[simp] theorem Dev.count_ticks (d : Dev) (k v : Nat) : (d.count k v).ticks = d.ticks := rfl
@[simp] theorem Dev.count_op (d : Dev) (k v : Nat) : (d.count k v).op = d.op := rfl
@[simp] theorem Dev.count_lc (d : Dev) (k v : Nat) : (d.count k v).lc = d.lc := rfl
@[simp] theorem Dev.count_banked (d : Dev) (k v : Nat) : (d.count k v).banked = d.banked := rfl
@[simp] theorem Dev.count_staged (d : Dev) (k v : Nat) : (d.count k v).staged = d.staged := rfl
@[simp] theorem Dev.count_sent (d : Dev) (k v : Nat) : (d.count k v).sent = d.sent := rfl
@[simp] theorem Dev.count_digests (d : Dev) (k v : Nat) : (d.count k v).digests = d.digests := rfl
@[simp] theorem Dev.count_asks (d : Dev) (k v : Nat) : (d.count k v).asks = d.asks := rfl
@[simp] theorem Dev.count_waiters (d : Dev) (k v : Nat) : (d.count k v).waiters = d.waiters := rfl
@[simp] theorem Dev.count_freeCount (d : Dev) (k v : Nat) : (d.count k v).freeCount = d.freeCount := rfl
@[simp] theorem Dev.count_outs (d : Dev) (k v : Nat) : (d.count k v).outs = d.outs := rfl
@[simp] theorem Dev.count_ins (d : Dev) (k v : Nat) : (d.count k v).ins = d.ins := rfl
@[simp] theorem Dev.count_rep (d : Dev) (k v : Nat) : (d.count k v).rep = d.rep := rfl
@[simp] theorem Dev.count_jnl (d : Dev) (k v : Nat) : (d.count k v).jnl = d.jnl := rfl
@[simp] theorem Dev.count_ember (d : Dev) (k v : Nat) : (d.count k v).ember = d.ember := rfl
@[simp] theorem Dev.count_lanes (d : Dev) (k v : Nat) : (d.count k v).lanes = d.lanes := rfl
@[simp] theorem Dev.count_grants (d : Dev) (k v : Nat) : (d.count k v).grants = d.grants := rfl
@[simp] theorem Dev.count_chan (d : Dev) (k v : Nat) : (d.count k v).chan = d.chan := rfl
@[simp] theorem Dev.count_life (d : Dev) (k v : Nat) : (d.count k v).life = d.life := rfl
@[simp] theorem Dev.count_grp (d : Dev) (k v : Nat) : (d.count k v).grp = d.grp := rfl
@[simp] theorem Dev.count_sg (d : Dev) (k v : Nat) : (d.count k v).sg = d.sg := rfl
@[simp] theorem Dev.count_silentEntered (d : Dev) (k v : Nat) : (d.count k v).silentEntered = d.silentEntered := rfl
@[simp] theorem Dev.count_pe (d : Dev) (k v : Nat) : (d.count k v).pe = d.pe := rfl
@[simp] theorem Dev.count_gw (d : Dev) (k v : Nat) : (d.count k v).gw = d.gw := rfl
@[simp] theorem Dev.count_mx (d : Dev) (k v : Nat) : (d.count k v).mx = d.mx := rfl
@[simp] theorem Dev.count_fin (d : Dev) (k v : Nat) : (d.count k v).fin = d.fin := rfl
@[simp] theorem Dev.count_ring (d : Dev) (k v : Nat) : (d.count k v).ring = d.ring := rfl
@[simp] theorem Dev.count_cfg (d : Dev) (k v : Nat) : (d.count k v).cfg = d.cfg := rfl
@[simp] theorem Dev.count_guard (d : Dev) (k v : Nat) : (d.count k v).guard = d.guard := rfl
@[simp] theorem Dev.count_power (d : Dev) (k v : Nat) : (d.count k v).power = d.power := rfl
@[simp] theorem Dev.count_admin (d : Dev) (k v : Nat) : (d.count k v).admin = d.admin := rfl
@[simp] theorem Dev.count_test (d : Dev) (k v : Nat) : (d.count k v).test = d.test := rfl
@[simp] theorem Dev.count_replay (d : Dev) (k v : Nat) : (d.count k v).replay = d.replay := rfl
@[simp] theorem Dev.count_ch (d : Dev) (k v : Nat) (n : Nat) : (d.count k v).ch n = d.ch n := rfl
@[simp] theorem Dev.count_lf (d : Dev) (k v : Nat) (n : Nat) : (d.count k v).lf n = d.lf n := rfl
@[simp] theorem Dev.count_gr (d : Dev) (k v : Nat) (n : Nat) : (d.count k v).gr n = d.gr n := rfl
@[simp] theorem Dev.count_sgp (d : Dev) (k v : Nat) (n : Nat) : (d.count k v).sgp n = d.sgp n := rfl
@[simp] theorem Dev.count_eng (d : Dev) (k v : Nat) (n : Nat) : (d.count k v).eng n = d.eng n := rfl
@[simp] theorem Dev.count_port (d : Dev) (k v : Nat) (n : Nat) : (d.count k v).port n = d.port n := rfl
@[simp] theorem Dev.count_fi (d : Dev) (k v : Nat) (n : Nat) : (d.count k v).fi n = d.fi n := rfl
@[simp] theorem Dev.count_ln (d : Dev) (k v : Nat) (n : Nat) : (d.count k v).ln n = d.ln n := rfl
@[simp] theorem Dev.count_cl (d : Dev) (k v : Nat) (n : Nat) : (d.count k v).cl n = d.cl n := rfl
@[simp] theorem Dev.count_fg (d : Dev) (k v : Nat) (n : Nat) : (d.count k v).fg n = d.fg n := rfl
@[simp] theorem Dev.count_hop (d : Dev) (k v : Nat) (n : Nat) : (d.count k v).hop n = d.hop n := rfl
@[simp] theorem Dev.count_pos (d : Dev) (k v : Nat) (n : Nat) : (d.count k v).pos n = d.pos n := rfl
@[simp] theorem Dev.count_slot (d : Dev) (k v : Nat) (n : Nat) : (d.count k v).slot n = d.slot n := rfl
@[simp] theorem Dev.count_gate (d : Dev) (k v : Nat) (n : Nat) : (d.count k v).gate n = d.gate n := rfl
@[simp] theorem Dev.count_iso (d : Dev) (k v : Nat) (n : Nat) : (d.count k v).iso n = d.iso n := rfl
@[simp] theorem Dev.countWrap_now (d : Dev) (k v : Nat) : (d.countWrap k v).now = d.now := rfl
@[simp] theorem Dev.countWrap_ticks (d : Dev) (k v : Nat) : (d.countWrap k v).ticks = d.ticks := rfl
@[simp] theorem Dev.countWrap_op (d : Dev) (k v : Nat) : (d.countWrap k v).op = d.op := rfl
@[simp] theorem Dev.countWrap_lc (d : Dev) (k v : Nat) : (d.countWrap k v).lc = d.lc := rfl
@[simp] theorem Dev.countWrap_banked (d : Dev) (k v : Nat) : (d.countWrap k v).banked = d.banked := rfl
@[simp] theorem Dev.countWrap_staged (d : Dev) (k v : Nat) : (d.countWrap k v).staged = d.staged := rfl
@[simp] theorem Dev.countWrap_sent (d : Dev) (k v : Nat) : (d.countWrap k v).sent = d.sent := rfl
@[simp] theorem Dev.countWrap_digests (d : Dev) (k v : Nat) : (d.countWrap k v).digests = d.digests := rfl
@[simp] theorem Dev.countWrap_asks (d : Dev) (k v : Nat) : (d.countWrap k v).asks = d.asks := rfl
@[simp] theorem Dev.countWrap_waiters (d : Dev) (k v : Nat) : (d.countWrap k v).waiters = d.waiters := rfl
@[simp] theorem Dev.countWrap_freeCount (d : Dev) (k v : Nat) : (d.countWrap k v).freeCount = d.freeCount := rfl
@[simp] theorem Dev.countWrap_outs (d : Dev) (k v : Nat) : (d.countWrap k v).outs = d.outs := rfl
@[simp] theorem Dev.countWrap_ins (d : Dev) (k v : Nat) : (d.countWrap k v).ins = d.ins := rfl
@[simp] theorem Dev.countWrap_rep (d : Dev) (k v : Nat) : (d.countWrap k v).rep = d.rep := rfl
@[simp] theorem Dev.countWrap_jnl (d : Dev) (k v : Nat) : (d.countWrap k v).jnl = d.jnl := rfl
@[simp] theorem Dev.countWrap_ember (d : Dev) (k v : Nat) : (d.countWrap k v).ember = d.ember := rfl
@[simp] theorem Dev.countWrap_lanes (d : Dev) (k v : Nat) : (d.countWrap k v).lanes = d.lanes := rfl
@[simp] theorem Dev.countWrap_grants (d : Dev) (k v : Nat) : (d.countWrap k v).grants = d.grants := rfl
@[simp] theorem Dev.countWrap_chan (d : Dev) (k v : Nat) : (d.countWrap k v).chan = d.chan := rfl
@[simp] theorem Dev.countWrap_life (d : Dev) (k v : Nat) : (d.countWrap k v).life = d.life := rfl
@[simp] theorem Dev.countWrap_grp (d : Dev) (k v : Nat) : (d.countWrap k v).grp = d.grp := rfl
@[simp] theorem Dev.countWrap_sg (d : Dev) (k v : Nat) : (d.countWrap k v).sg = d.sg := rfl
@[simp] theorem Dev.countWrap_silentEntered (d : Dev) (k v : Nat) : (d.countWrap k v).silentEntered = d.silentEntered := rfl
@[simp] theorem Dev.countWrap_pe (d : Dev) (k v : Nat) : (d.countWrap k v).pe = d.pe := rfl
@[simp] theorem Dev.countWrap_gw (d : Dev) (k v : Nat) : (d.countWrap k v).gw = d.gw := rfl
@[simp] theorem Dev.countWrap_mx (d : Dev) (k v : Nat) : (d.countWrap k v).mx = d.mx := rfl
@[simp] theorem Dev.countWrap_fin (d : Dev) (k v : Nat) : (d.countWrap k v).fin = d.fin := rfl
@[simp] theorem Dev.countWrap_ring (d : Dev) (k v : Nat) : (d.countWrap k v).ring = d.ring := rfl
@[simp] theorem Dev.countWrap_cfg (d : Dev) (k v : Nat) : (d.countWrap k v).cfg = d.cfg := rfl
@[simp] theorem Dev.countWrap_guard (d : Dev) (k v : Nat) : (d.countWrap k v).guard = d.guard := rfl
@[simp] theorem Dev.countWrap_power (d : Dev) (k v : Nat) : (d.countWrap k v).power = d.power := rfl
@[simp] theorem Dev.countWrap_admin (d : Dev) (k v : Nat) : (d.countWrap k v).admin = d.admin := rfl
@[simp] theorem Dev.countWrap_test (d : Dev) (k v : Nat) : (d.countWrap k v).test = d.test := rfl
@[simp] theorem Dev.countWrap_replay (d : Dev) (k v : Nat) : (d.countWrap k v).replay = d.replay := rfl
@[simp] theorem Dev.countWrap_ch (d : Dev) (k v : Nat) (n : Nat) : (d.countWrap k v).ch n = d.ch n := rfl
@[simp] theorem Dev.countWrap_lf (d : Dev) (k v : Nat) (n : Nat) : (d.countWrap k v).lf n = d.lf n := rfl
@[simp] theorem Dev.countWrap_gr (d : Dev) (k v : Nat) (n : Nat) : (d.countWrap k v).gr n = d.gr n := rfl
@[simp] theorem Dev.countWrap_sgp (d : Dev) (k v : Nat) (n : Nat) : (d.countWrap k v).sgp n = d.sgp n := rfl
@[simp] theorem Dev.countWrap_eng (d : Dev) (k v : Nat) (n : Nat) : (d.countWrap k v).eng n = d.eng n := rfl
@[simp] theorem Dev.countWrap_port (d : Dev) (k v : Nat) (n : Nat) : (d.countWrap k v).port n = d.port n := rfl
@[simp] theorem Dev.countWrap_fi (d : Dev) (k v : Nat) (n : Nat) : (d.countWrap k v).fi n = d.fi n := rfl
@[simp] theorem Dev.countWrap_ln (d : Dev) (k v : Nat) (n : Nat) : (d.countWrap k v).ln n = d.ln n := rfl
@[simp] theorem Dev.countWrap_cl (d : Dev) (k v : Nat) (n : Nat) : (d.countWrap k v).cl n = d.cl n := rfl
@[simp] theorem Dev.countWrap_fg (d : Dev) (k v : Nat) (n : Nat) : (d.countWrap k v).fg n = d.fg n := rfl
@[simp] theorem Dev.countWrap_hop (d : Dev) (k v : Nat) (n : Nat) : (d.countWrap k v).hop n = d.hop n := rfl
@[simp] theorem Dev.countWrap_pos (d : Dev) (k v : Nat) (n : Nat) : (d.countWrap k v).pos n = d.pos n := rfl
@[simp] theorem Dev.countWrap_slot (d : Dev) (k v : Nat) (n : Nat) : (d.countWrap k v).slot n = d.slot n := rfl
@[simp] theorem Dev.countWrap_gate (d : Dev) (k v : Nat) (n : Nat) : (d.countWrap k v).gate n = d.gate n := rfl
@[simp] theorem Dev.countWrap_iso (d : Dev) (k v : Nat) (n : Nat) : (d.countWrap k v).iso n = d.iso n := rfl
@[simp] theorem Dev.countSat_now (d : Dev) (k m v : Nat) : (d.countSat k m v).now = d.now := rfl
@[simp] theorem Dev.countSat_ticks (d : Dev) (k m v : Nat) : (d.countSat k m v).ticks = d.ticks := rfl
@[simp] theorem Dev.countSat_op (d : Dev) (k m v : Nat) : (d.countSat k m v).op = d.op := rfl
@[simp] theorem Dev.countSat_lc (d : Dev) (k m v : Nat) : (d.countSat k m v).lc = d.lc := rfl
@[simp] theorem Dev.countSat_banked (d : Dev) (k m v : Nat) : (d.countSat k m v).banked = d.banked := rfl
@[simp] theorem Dev.countSat_staged (d : Dev) (k m v : Nat) : (d.countSat k m v).staged = d.staged := rfl
@[simp] theorem Dev.countSat_sent (d : Dev) (k m v : Nat) : (d.countSat k m v).sent = d.sent := rfl
@[simp] theorem Dev.countSat_digests (d : Dev) (k m v : Nat) : (d.countSat k m v).digests = d.digests := rfl
@[simp] theorem Dev.countSat_asks (d : Dev) (k m v : Nat) : (d.countSat k m v).asks = d.asks := rfl
@[simp] theorem Dev.countSat_waiters (d : Dev) (k m v : Nat) : (d.countSat k m v).waiters = d.waiters := rfl
@[simp] theorem Dev.countSat_freeCount (d : Dev) (k m v : Nat) : (d.countSat k m v).freeCount = d.freeCount := rfl
@[simp] theorem Dev.countSat_outs (d : Dev) (k m v : Nat) : (d.countSat k m v).outs = d.outs := rfl
@[simp] theorem Dev.countSat_ins (d : Dev) (k m v : Nat) : (d.countSat k m v).ins = d.ins := rfl
@[simp] theorem Dev.countSat_rep (d : Dev) (k m v : Nat) : (d.countSat k m v).rep = d.rep := rfl
@[simp] theorem Dev.countSat_jnl (d : Dev) (k m v : Nat) : (d.countSat k m v).jnl = d.jnl := rfl
@[simp] theorem Dev.countSat_ember (d : Dev) (k m v : Nat) : (d.countSat k m v).ember = d.ember := rfl
@[simp] theorem Dev.countSat_lanes (d : Dev) (k m v : Nat) : (d.countSat k m v).lanes = d.lanes := rfl
@[simp] theorem Dev.countSat_grants (d : Dev) (k m v : Nat) : (d.countSat k m v).grants = d.grants := rfl
@[simp] theorem Dev.countSat_chan (d : Dev) (k m v : Nat) : (d.countSat k m v).chan = d.chan := rfl
@[simp] theorem Dev.countSat_life (d : Dev) (k m v : Nat) : (d.countSat k m v).life = d.life := rfl
@[simp] theorem Dev.countSat_grp (d : Dev) (k m v : Nat) : (d.countSat k m v).grp = d.grp := rfl
@[simp] theorem Dev.countSat_sg (d : Dev) (k m v : Nat) : (d.countSat k m v).sg = d.sg := rfl
@[simp] theorem Dev.countSat_silentEntered (d : Dev) (k m v : Nat) : (d.countSat k m v).silentEntered = d.silentEntered := rfl
@[simp] theorem Dev.countSat_pe (d : Dev) (k m v : Nat) : (d.countSat k m v).pe = d.pe := rfl
@[simp] theorem Dev.countSat_gw (d : Dev) (k m v : Nat) : (d.countSat k m v).gw = d.gw := rfl
@[simp] theorem Dev.countSat_mx (d : Dev) (k m v : Nat) : (d.countSat k m v).mx = d.mx := rfl
@[simp] theorem Dev.countSat_fin (d : Dev) (k m v : Nat) : (d.countSat k m v).fin = d.fin := rfl
@[simp] theorem Dev.countSat_ring (d : Dev) (k m v : Nat) : (d.countSat k m v).ring = d.ring := rfl
@[simp] theorem Dev.countSat_cfg (d : Dev) (k m v : Nat) : (d.countSat k m v).cfg = d.cfg := rfl
@[simp] theorem Dev.countSat_guard (d : Dev) (k m v : Nat) : (d.countSat k m v).guard = d.guard := rfl
@[simp] theorem Dev.countSat_power (d : Dev) (k m v : Nat) : (d.countSat k m v).power = d.power := rfl
@[simp] theorem Dev.countSat_admin (d : Dev) (k m v : Nat) : (d.countSat k m v).admin = d.admin := rfl
@[simp] theorem Dev.countSat_test (d : Dev) (k m v : Nat) : (d.countSat k m v).test = d.test := rfl
@[simp] theorem Dev.countSat_replay (d : Dev) (k m v : Nat) : (d.countSat k m v).replay = d.replay := rfl
@[simp] theorem Dev.countSat_ch (d : Dev) (k m v : Nat) (n : Nat) : (d.countSat k m v).ch n = d.ch n := rfl
@[simp] theorem Dev.countSat_lf (d : Dev) (k m v : Nat) (n : Nat) : (d.countSat k m v).lf n = d.lf n := rfl
@[simp] theorem Dev.countSat_gr (d : Dev) (k m v : Nat) (n : Nat) : (d.countSat k m v).gr n = d.gr n := rfl
@[simp] theorem Dev.countSat_sgp (d : Dev) (k m v : Nat) (n : Nat) : (d.countSat k m v).sgp n = d.sgp n := rfl
@[simp] theorem Dev.countSat_eng (d : Dev) (k m v : Nat) (n : Nat) : (d.countSat k m v).eng n = d.eng n := rfl
@[simp] theorem Dev.countSat_port (d : Dev) (k m v : Nat) (n : Nat) : (d.countSat k m v).port n = d.port n := rfl
@[simp] theorem Dev.countSat_fi (d : Dev) (k m v : Nat) (n : Nat) : (d.countSat k m v).fi n = d.fi n := rfl
@[simp] theorem Dev.countSat_ln (d : Dev) (k m v : Nat) (n : Nat) : (d.countSat k m v).ln n = d.ln n := rfl
@[simp] theorem Dev.countSat_cl (d : Dev) (k m v : Nat) (n : Nat) : (d.countSat k m v).cl n = d.cl n := rfl
@[simp] theorem Dev.countSat_fg (d : Dev) (k m v : Nat) (n : Nat) : (d.countSat k m v).fg n = d.fg n := rfl
@[simp] theorem Dev.countSat_hop (d : Dev) (k m v : Nat) (n : Nat) : (d.countSat k m v).hop n = d.hop n := rfl
@[simp] theorem Dev.countSat_pos (d : Dev) (k m v : Nat) (n : Nat) : (d.countSat k m v).pos n = d.pos n := rfl
@[simp] theorem Dev.countSat_slot (d : Dev) (k m v : Nat) (n : Nat) : (d.countSat k m v).slot n = d.slot n := rfl
@[simp] theorem Dev.countSat_gate (d : Dev) (k m v : Nat) (n : Nat) : (d.countSat k m v).gate n = d.gate n := rfl
@[simp] theorem Dev.countSat_iso (d : Dev) (k m v : Nat) (n : Nat) : (d.countSat k m v).iso n = d.iso n := rfl

/-! ### Fields and objects under updates of an entity -/

@[simp] theorem Dev.setCh_now (d : Dev) (n : Nat) (c : Chan) : (d.setCh n c).now = d.now := rfl
@[simp] theorem Dev.setCh_ticks (d : Dev) (n : Nat) (c : Chan) : (d.setCh n c).ticks = d.ticks := rfl
@[simp] theorem Dev.setCh_op (d : Dev) (n : Nat) (c : Chan) : (d.setCh n c).op = d.op := rfl
@[simp] theorem Dev.setCh_lc (d : Dev) (n : Nat) (c : Chan) : (d.setCh n c).lc = d.lc := rfl
@[simp] theorem Dev.setCh_dict (d : Dev) (n : Nat) (c : Chan) : (d.setCh n c).dict = d.dict := rfl
@[simp] theorem Dev.setCh_banked (d : Dev) (n : Nat) (c : Chan) : (d.setCh n c).banked = d.banked := rfl
@[simp] theorem Dev.setCh_staged (d : Dev) (n : Nat) (c : Chan) : (d.setCh n c).staged = d.staged := rfl
@[simp] theorem Dev.setCh_sent (d : Dev) (n : Nat) (c : Chan) : (d.setCh n c).sent = d.sent := rfl
@[simp] theorem Dev.setCh_digests (d : Dev) (n : Nat) (c : Chan) : (d.setCh n c).digests = d.digests := rfl
@[simp] theorem Dev.setCh_asks (d : Dev) (n : Nat) (c : Chan) : (d.setCh n c).asks = d.asks := rfl
@[simp] theorem Dev.setCh_waiters (d : Dev) (n : Nat) (c : Chan) : (d.setCh n c).waiters = d.waiters := rfl
@[simp] theorem Dev.setCh_freeCount (d : Dev) (n : Nat) (c : Chan) : (d.setCh n c).freeCount = d.freeCount := rfl
@[simp] theorem Dev.setCh_outs (d : Dev) (n : Nat) (c : Chan) : (d.setCh n c).outs = d.outs := rfl
@[simp] theorem Dev.setCh_ins (d : Dev) (n : Nat) (c : Chan) : (d.setCh n c).ins = d.ins := rfl
@[simp] theorem Dev.setCh_rep (d : Dev) (n : Nat) (c : Chan) : (d.setCh n c).rep = d.rep := rfl
@[simp] theorem Dev.setCh_jnl (d : Dev) (n : Nat) (c : Chan) : (d.setCh n c).jnl = d.jnl := rfl
@[simp] theorem Dev.setCh_ember (d : Dev) (n : Nat) (c : Chan) : (d.setCh n c).ember = d.ember := rfl
@[simp] theorem Dev.setCh_lanes (d : Dev) (n : Nat) (c : Chan) : (d.setCh n c).lanes = d.lanes := rfl
@[simp] theorem Dev.setCh_grants (d : Dev) (n : Nat) (c : Chan) : (d.setCh n c).grants = d.grants := rfl
@[simp] theorem Dev.setCh_life (d : Dev) (n : Nat) (c : Chan) : (d.setCh n c).life = d.life := rfl
@[simp] theorem Dev.setCh_grp (d : Dev) (n : Nat) (c : Chan) : (d.setCh n c).grp = d.grp := rfl
@[simp] theorem Dev.setCh_sg (d : Dev) (n : Nat) (c : Chan) : (d.setCh n c).sg = d.sg := rfl
@[simp] theorem Dev.setCh_silentEntered (d : Dev) (n : Nat) (c : Chan) : (d.setCh n c).silentEntered = d.silentEntered := rfl
@[simp] theorem Dev.setCh_pe (d : Dev) (n : Nat) (c : Chan) : (d.setCh n c).pe = d.pe := rfl
@[simp] theorem Dev.setCh_gw (d : Dev) (n : Nat) (c : Chan) : (d.setCh n c).gw = d.gw := rfl
@[simp] theorem Dev.setCh_mx (d : Dev) (n : Nat) (c : Chan) : (d.setCh n c).mx = d.mx := rfl
@[simp] theorem Dev.setCh_fin (d : Dev) (n : Nat) (c : Chan) : (d.setCh n c).fin = d.fin := rfl
@[simp] theorem Dev.setCh_ring (d : Dev) (n : Nat) (c : Chan) : (d.setCh n c).ring = d.ring := rfl
@[simp] theorem Dev.setCh_cfg (d : Dev) (n : Nat) (c : Chan) : (d.setCh n c).cfg = d.cfg := rfl
@[simp] theorem Dev.setCh_guard (d : Dev) (n : Nat) (c : Chan) : (d.setCh n c).guard = d.guard := rfl
@[simp] theorem Dev.setCh_power (d : Dev) (n : Nat) (c : Chan) : (d.setCh n c).power = d.power := rfl
@[simp] theorem Dev.setCh_admin (d : Dev) (n : Nat) (c : Chan) : (d.setCh n c).admin = d.admin := rfl
@[simp] theorem Dev.setCh_test (d : Dev) (n : Nat) (c : Chan) : (d.setCh n c).test = d.test := rfl
@[simp] theorem Dev.setCh_replay (d : Dev) (n : Nat) (c : Chan) : (d.setCh n c).replay = d.replay := rfl
@[simp] theorem Dev.setCh_val (d : Dev) (n : Nat) (c : Chan) (k : Nat) : (d.setCh n c).val k = d.val k := rfl
@[simp] theorem Dev.setCh_num (d : Dev) (n : Nat) (c : Chan) (k : Nat) : (d.setCh n c).num k = d.num k := rfl
@[simp] theorem Dev.setCh_nat (d : Dev) (n : Nat) (c : Chan) (k : Nat) : (d.setCh n c).nat k = d.nat k := rfl
@[simp] theorem Dev.setCh_bytesOf (d : Dev) (n : Nat) (c : Chan) (k : Nat) : (d.setCh n c).bytesOf k = d.bytesOf k := rfl
@[simp] theorem Dev.setCh_lf (d : Dev) (n : Nat) (c : Chan) (m : Nat) : (d.setCh n c).lf m = d.lf m := rfl
@[simp] theorem Dev.setCh_gr (d : Dev) (n : Nat) (c : Chan) (m : Nat) : (d.setCh n c).gr m = d.gr m := rfl
@[simp] theorem Dev.setCh_sgp (d : Dev) (n : Nat) (c : Chan) (m : Nat) : (d.setCh n c).sgp m = d.sgp m := rfl
@[simp] theorem Dev.setCh_eng (d : Dev) (n : Nat) (c : Chan) (m : Nat) : (d.setCh n c).eng m = d.eng m := rfl
@[simp] theorem Dev.setCh_port (d : Dev) (n : Nat) (c : Chan) (m : Nat) : (d.setCh n c).port m = d.port m := rfl
@[simp] theorem Dev.setCh_fi (d : Dev) (n : Nat) (c : Chan) (m : Nat) : (d.setCh n c).fi m = d.fi m := rfl
@[simp] theorem Dev.setCh_ln (d : Dev) (n : Nat) (c : Chan) (m : Nat) : (d.setCh n c).ln m = d.ln m := rfl
@[simp] theorem Dev.setCh_cl (d : Dev) (n : Nat) (c : Chan) (m : Nat) : (d.setCh n c).cl m = d.cl m := rfl
@[simp] theorem Dev.setCh_fg (d : Dev) (n : Nat) (c : Chan) (m : Nat) : (d.setCh n c).fg m = d.fg m := rfl
@[simp] theorem Dev.setCh_hop (d : Dev) (n : Nat) (c : Chan) (m : Nat) : (d.setCh n c).hop m = d.hop m := rfl
@[simp] theorem Dev.setCh_pos (d : Dev) (n : Nat) (c : Chan) (m : Nat) : (d.setCh n c).pos m = d.pos m := rfl
@[simp] theorem Dev.setCh_slot (d : Dev) (n : Nat) (c : Chan) (m : Nat) : (d.setCh n c).slot m = d.slot m := rfl
@[simp] theorem Dev.setCh_gate (d : Dev) (n : Nat) (c : Chan) (m : Nat) : (d.setCh n c).gate m = d.gate m := rfl
@[simp] theorem Dev.setCh_iso (d : Dev) (n : Nat) (c : Chan) (m : Nat) : (d.setCh n c).iso m = d.iso m := rfl
@[simp] theorem Dev.setCh_ch_same (d : Dev) (n : Nat) (c : Chan) : (d.setCh n c).ch n = c := by
  simp [Dev.setCh, Dev.ch]
@[simp] theorem Dev.setCh_ch_ne (d : Dev) {n m : Nat} (c : Chan) (h : m ≠ n) : (d.setCh n c).ch m = d.ch m := by
  simp [Dev.setCh, Dev.ch, h]
@[simp] theorem Dev.setLf_now (d : Dev) (n : Nat) (c : LifeSt) : (d.setLf n c).now = d.now := rfl
@[simp] theorem Dev.setLf_ticks (d : Dev) (n : Nat) (c : LifeSt) : (d.setLf n c).ticks = d.ticks := rfl
@[simp] theorem Dev.setLf_op (d : Dev) (n : Nat) (c : LifeSt) : (d.setLf n c).op = d.op := rfl
@[simp] theorem Dev.setLf_lc (d : Dev) (n : Nat) (c : LifeSt) : (d.setLf n c).lc = d.lc := rfl
@[simp] theorem Dev.setLf_dict (d : Dev) (n : Nat) (c : LifeSt) : (d.setLf n c).dict = d.dict := rfl
@[simp] theorem Dev.setLf_banked (d : Dev) (n : Nat) (c : LifeSt) : (d.setLf n c).banked = d.banked := rfl
@[simp] theorem Dev.setLf_staged (d : Dev) (n : Nat) (c : LifeSt) : (d.setLf n c).staged = d.staged := rfl
@[simp] theorem Dev.setLf_sent (d : Dev) (n : Nat) (c : LifeSt) : (d.setLf n c).sent = d.sent := rfl
@[simp] theorem Dev.setLf_digests (d : Dev) (n : Nat) (c : LifeSt) : (d.setLf n c).digests = d.digests := rfl
@[simp] theorem Dev.setLf_asks (d : Dev) (n : Nat) (c : LifeSt) : (d.setLf n c).asks = d.asks := rfl
@[simp] theorem Dev.setLf_waiters (d : Dev) (n : Nat) (c : LifeSt) : (d.setLf n c).waiters = d.waiters := rfl
@[simp] theorem Dev.setLf_freeCount (d : Dev) (n : Nat) (c : LifeSt) : (d.setLf n c).freeCount = d.freeCount := rfl
@[simp] theorem Dev.setLf_outs (d : Dev) (n : Nat) (c : LifeSt) : (d.setLf n c).outs = d.outs := rfl
@[simp] theorem Dev.setLf_ins (d : Dev) (n : Nat) (c : LifeSt) : (d.setLf n c).ins = d.ins := rfl
@[simp] theorem Dev.setLf_rep (d : Dev) (n : Nat) (c : LifeSt) : (d.setLf n c).rep = d.rep := rfl
@[simp] theorem Dev.setLf_jnl (d : Dev) (n : Nat) (c : LifeSt) : (d.setLf n c).jnl = d.jnl := rfl
@[simp] theorem Dev.setLf_ember (d : Dev) (n : Nat) (c : LifeSt) : (d.setLf n c).ember = d.ember := rfl
@[simp] theorem Dev.setLf_lanes (d : Dev) (n : Nat) (c : LifeSt) : (d.setLf n c).lanes = d.lanes := rfl
@[simp] theorem Dev.setLf_grants (d : Dev) (n : Nat) (c : LifeSt) : (d.setLf n c).grants = d.grants := rfl
@[simp] theorem Dev.setLf_chan (d : Dev) (n : Nat) (c : LifeSt) : (d.setLf n c).chan = d.chan := rfl
@[simp] theorem Dev.setLf_grp (d : Dev) (n : Nat) (c : LifeSt) : (d.setLf n c).grp = d.grp := rfl
@[simp] theorem Dev.setLf_sg (d : Dev) (n : Nat) (c : LifeSt) : (d.setLf n c).sg = d.sg := rfl
@[simp] theorem Dev.setLf_silentEntered (d : Dev) (n : Nat) (c : LifeSt) : (d.setLf n c).silentEntered = d.silentEntered := rfl
@[simp] theorem Dev.setLf_pe (d : Dev) (n : Nat) (c : LifeSt) : (d.setLf n c).pe = d.pe := rfl
@[simp] theorem Dev.setLf_gw (d : Dev) (n : Nat) (c : LifeSt) : (d.setLf n c).gw = d.gw := rfl
@[simp] theorem Dev.setLf_mx (d : Dev) (n : Nat) (c : LifeSt) : (d.setLf n c).mx = d.mx := rfl
@[simp] theorem Dev.setLf_fin (d : Dev) (n : Nat) (c : LifeSt) : (d.setLf n c).fin = d.fin := rfl
@[simp] theorem Dev.setLf_ring (d : Dev) (n : Nat) (c : LifeSt) : (d.setLf n c).ring = d.ring := rfl
@[simp] theorem Dev.setLf_cfg (d : Dev) (n : Nat) (c : LifeSt) : (d.setLf n c).cfg = d.cfg := rfl
@[simp] theorem Dev.setLf_guard (d : Dev) (n : Nat) (c : LifeSt) : (d.setLf n c).guard = d.guard := rfl
@[simp] theorem Dev.setLf_power (d : Dev) (n : Nat) (c : LifeSt) : (d.setLf n c).power = d.power := rfl
@[simp] theorem Dev.setLf_admin (d : Dev) (n : Nat) (c : LifeSt) : (d.setLf n c).admin = d.admin := rfl
@[simp] theorem Dev.setLf_test (d : Dev) (n : Nat) (c : LifeSt) : (d.setLf n c).test = d.test := rfl
@[simp] theorem Dev.setLf_replay (d : Dev) (n : Nat) (c : LifeSt) : (d.setLf n c).replay = d.replay := rfl
@[simp] theorem Dev.setLf_val (d : Dev) (n : Nat) (c : LifeSt) (k : Nat) : (d.setLf n c).val k = d.val k := rfl
@[simp] theorem Dev.setLf_num (d : Dev) (n : Nat) (c : LifeSt) (k : Nat) : (d.setLf n c).num k = d.num k := rfl
@[simp] theorem Dev.setLf_nat (d : Dev) (n : Nat) (c : LifeSt) (k : Nat) : (d.setLf n c).nat k = d.nat k := rfl
@[simp] theorem Dev.setLf_bytesOf (d : Dev) (n : Nat) (c : LifeSt) (k : Nat) : (d.setLf n c).bytesOf k = d.bytesOf k := rfl
@[simp] theorem Dev.setLf_ch (d : Dev) (n : Nat) (c : LifeSt) (m : Nat) : (d.setLf n c).ch m = d.ch m := rfl
@[simp] theorem Dev.setLf_gr (d : Dev) (n : Nat) (c : LifeSt) (m : Nat) : (d.setLf n c).gr m = d.gr m := rfl
@[simp] theorem Dev.setLf_sgp (d : Dev) (n : Nat) (c : LifeSt) (m : Nat) : (d.setLf n c).sgp m = d.sgp m := rfl
@[simp] theorem Dev.setLf_eng (d : Dev) (n : Nat) (c : LifeSt) (m : Nat) : (d.setLf n c).eng m = d.eng m := rfl
@[simp] theorem Dev.setLf_port (d : Dev) (n : Nat) (c : LifeSt) (m : Nat) : (d.setLf n c).port m = d.port m := rfl
@[simp] theorem Dev.setLf_fi (d : Dev) (n : Nat) (c : LifeSt) (m : Nat) : (d.setLf n c).fi m = d.fi m := rfl
@[simp] theorem Dev.setLf_ln (d : Dev) (n : Nat) (c : LifeSt) (m : Nat) : (d.setLf n c).ln m = d.ln m := rfl
@[simp] theorem Dev.setLf_cl (d : Dev) (n : Nat) (c : LifeSt) (m : Nat) : (d.setLf n c).cl m = d.cl m := rfl
@[simp] theorem Dev.setLf_fg (d : Dev) (n : Nat) (c : LifeSt) (m : Nat) : (d.setLf n c).fg m = d.fg m := rfl
@[simp] theorem Dev.setLf_hop (d : Dev) (n : Nat) (c : LifeSt) (m : Nat) : (d.setLf n c).hop m = d.hop m := rfl
@[simp] theorem Dev.setLf_pos (d : Dev) (n : Nat) (c : LifeSt) (m : Nat) : (d.setLf n c).pos m = d.pos m := rfl
@[simp] theorem Dev.setLf_slot (d : Dev) (n : Nat) (c : LifeSt) (m : Nat) : (d.setLf n c).slot m = d.slot m := rfl
@[simp] theorem Dev.setLf_gate (d : Dev) (n : Nat) (c : LifeSt) (m : Nat) : (d.setLf n c).gate m = d.gate m := rfl
@[simp] theorem Dev.setLf_iso (d : Dev) (n : Nat) (c : LifeSt) (m : Nat) : (d.setLf n c).iso m = d.iso m := rfl
@[simp] theorem Dev.setLf_lf_same (d : Dev) (n : Nat) (c : LifeSt) : (d.setLf n c).lf n = c := by
  simp [Dev.setLf, Dev.lf]
@[simp] theorem Dev.setLf_lf_ne (d : Dev) {n m : Nat} (c : LifeSt) (h : m ≠ n) : (d.setLf n c).lf m = d.lf m := by
  simp [Dev.setLf, Dev.lf, h]
@[simp] theorem Dev.setGr_now (d : Dev) (n : Nat) (c : Grp) : (d.setGr n c).now = d.now := rfl
@[simp] theorem Dev.setGr_ticks (d : Dev) (n : Nat) (c : Grp) : (d.setGr n c).ticks = d.ticks := rfl
@[simp] theorem Dev.setGr_op (d : Dev) (n : Nat) (c : Grp) : (d.setGr n c).op = d.op := rfl
@[simp] theorem Dev.setGr_lc (d : Dev) (n : Nat) (c : Grp) : (d.setGr n c).lc = d.lc := rfl
@[simp] theorem Dev.setGr_dict (d : Dev) (n : Nat) (c : Grp) : (d.setGr n c).dict = d.dict := rfl
@[simp] theorem Dev.setGr_banked (d : Dev) (n : Nat) (c : Grp) : (d.setGr n c).banked = d.banked := rfl
@[simp] theorem Dev.setGr_staged (d : Dev) (n : Nat) (c : Grp) : (d.setGr n c).staged = d.staged := rfl
@[simp] theorem Dev.setGr_sent (d : Dev) (n : Nat) (c : Grp) : (d.setGr n c).sent = d.sent := rfl
@[simp] theorem Dev.setGr_digests (d : Dev) (n : Nat) (c : Grp) : (d.setGr n c).digests = d.digests := rfl
@[simp] theorem Dev.setGr_asks (d : Dev) (n : Nat) (c : Grp) : (d.setGr n c).asks = d.asks := rfl
@[simp] theorem Dev.setGr_waiters (d : Dev) (n : Nat) (c : Grp) : (d.setGr n c).waiters = d.waiters := rfl
@[simp] theorem Dev.setGr_freeCount (d : Dev) (n : Nat) (c : Grp) : (d.setGr n c).freeCount = d.freeCount := rfl
@[simp] theorem Dev.setGr_outs (d : Dev) (n : Nat) (c : Grp) : (d.setGr n c).outs = d.outs := rfl
@[simp] theorem Dev.setGr_ins (d : Dev) (n : Nat) (c : Grp) : (d.setGr n c).ins = d.ins := rfl
@[simp] theorem Dev.setGr_rep (d : Dev) (n : Nat) (c : Grp) : (d.setGr n c).rep = d.rep := rfl
@[simp] theorem Dev.setGr_jnl (d : Dev) (n : Nat) (c : Grp) : (d.setGr n c).jnl = d.jnl := rfl
@[simp] theorem Dev.setGr_ember (d : Dev) (n : Nat) (c : Grp) : (d.setGr n c).ember = d.ember := rfl
@[simp] theorem Dev.setGr_lanes (d : Dev) (n : Nat) (c : Grp) : (d.setGr n c).lanes = d.lanes := rfl
@[simp] theorem Dev.setGr_grants (d : Dev) (n : Nat) (c : Grp) : (d.setGr n c).grants = d.grants := rfl
@[simp] theorem Dev.setGr_chan (d : Dev) (n : Nat) (c : Grp) : (d.setGr n c).chan = d.chan := rfl
@[simp] theorem Dev.setGr_life (d : Dev) (n : Nat) (c : Grp) : (d.setGr n c).life = d.life := rfl
@[simp] theorem Dev.setGr_sg (d : Dev) (n : Nat) (c : Grp) : (d.setGr n c).sg = d.sg := rfl
@[simp] theorem Dev.setGr_silentEntered (d : Dev) (n : Nat) (c : Grp) : (d.setGr n c).silentEntered = d.silentEntered := rfl
@[simp] theorem Dev.setGr_pe (d : Dev) (n : Nat) (c : Grp) : (d.setGr n c).pe = d.pe := rfl
@[simp] theorem Dev.setGr_gw (d : Dev) (n : Nat) (c : Grp) : (d.setGr n c).gw = d.gw := rfl
@[simp] theorem Dev.setGr_mx (d : Dev) (n : Nat) (c : Grp) : (d.setGr n c).mx = d.mx := rfl
@[simp] theorem Dev.setGr_fin (d : Dev) (n : Nat) (c : Grp) : (d.setGr n c).fin = d.fin := rfl
@[simp] theorem Dev.setGr_ring (d : Dev) (n : Nat) (c : Grp) : (d.setGr n c).ring = d.ring := rfl
@[simp] theorem Dev.setGr_cfg (d : Dev) (n : Nat) (c : Grp) : (d.setGr n c).cfg = d.cfg := rfl
@[simp] theorem Dev.setGr_guard (d : Dev) (n : Nat) (c : Grp) : (d.setGr n c).guard = d.guard := rfl
@[simp] theorem Dev.setGr_power (d : Dev) (n : Nat) (c : Grp) : (d.setGr n c).power = d.power := rfl
@[simp] theorem Dev.setGr_admin (d : Dev) (n : Nat) (c : Grp) : (d.setGr n c).admin = d.admin := rfl
@[simp] theorem Dev.setGr_test (d : Dev) (n : Nat) (c : Grp) : (d.setGr n c).test = d.test := rfl
@[simp] theorem Dev.setGr_replay (d : Dev) (n : Nat) (c : Grp) : (d.setGr n c).replay = d.replay := rfl
@[simp] theorem Dev.setGr_val (d : Dev) (n : Nat) (c : Grp) (k : Nat) : (d.setGr n c).val k = d.val k := rfl
@[simp] theorem Dev.setGr_num (d : Dev) (n : Nat) (c : Grp) (k : Nat) : (d.setGr n c).num k = d.num k := rfl
@[simp] theorem Dev.setGr_nat (d : Dev) (n : Nat) (c : Grp) (k : Nat) : (d.setGr n c).nat k = d.nat k := rfl
@[simp] theorem Dev.setGr_bytesOf (d : Dev) (n : Nat) (c : Grp) (k : Nat) : (d.setGr n c).bytesOf k = d.bytesOf k := rfl
@[simp] theorem Dev.setGr_ch (d : Dev) (n : Nat) (c : Grp) (m : Nat) : (d.setGr n c).ch m = d.ch m := rfl
@[simp] theorem Dev.setGr_lf (d : Dev) (n : Nat) (c : Grp) (m : Nat) : (d.setGr n c).lf m = d.lf m := rfl
@[simp] theorem Dev.setGr_sgp (d : Dev) (n : Nat) (c : Grp) (m : Nat) : (d.setGr n c).sgp m = d.sgp m := rfl
@[simp] theorem Dev.setGr_eng (d : Dev) (n : Nat) (c : Grp) (m : Nat) : (d.setGr n c).eng m = d.eng m := rfl
@[simp] theorem Dev.setGr_port (d : Dev) (n : Nat) (c : Grp) (m : Nat) : (d.setGr n c).port m = d.port m := rfl
@[simp] theorem Dev.setGr_fi (d : Dev) (n : Nat) (c : Grp) (m : Nat) : (d.setGr n c).fi m = d.fi m := rfl
@[simp] theorem Dev.setGr_ln (d : Dev) (n : Nat) (c : Grp) (m : Nat) : (d.setGr n c).ln m = d.ln m := rfl
@[simp] theorem Dev.setGr_cl (d : Dev) (n : Nat) (c : Grp) (m : Nat) : (d.setGr n c).cl m = d.cl m := rfl
@[simp] theorem Dev.setGr_fg (d : Dev) (n : Nat) (c : Grp) (m : Nat) : (d.setGr n c).fg m = d.fg m := rfl
@[simp] theorem Dev.setGr_hop (d : Dev) (n : Nat) (c : Grp) (m : Nat) : (d.setGr n c).hop m = d.hop m := rfl
@[simp] theorem Dev.setGr_pos (d : Dev) (n : Nat) (c : Grp) (m : Nat) : (d.setGr n c).pos m = d.pos m := rfl
@[simp] theorem Dev.setGr_slot (d : Dev) (n : Nat) (c : Grp) (m : Nat) : (d.setGr n c).slot m = d.slot m := rfl
@[simp] theorem Dev.setGr_gate (d : Dev) (n : Nat) (c : Grp) (m : Nat) : (d.setGr n c).gate m = d.gate m := rfl
@[simp] theorem Dev.setGr_iso (d : Dev) (n : Nat) (c : Grp) (m : Nat) : (d.setGr n c).iso m = d.iso m := rfl
@[simp] theorem Dev.setGr_gr_same (d : Dev) (n : Nat) (c : Grp) : (d.setGr n c).gr n = c := by
  simp [Dev.setGr, Dev.gr]
@[simp] theorem Dev.setGr_gr_ne (d : Dev) {n m : Nat} (c : Grp) (h : m ≠ n) : (d.setGr n c).gr m = d.gr m := by
  simp [Dev.setGr, Dev.gr, h]
@[simp] theorem Dev.setSgp_now (d : Dev) (n : Nat) (c : SigGrp) : (d.setSgp n c).now = d.now := rfl
@[simp] theorem Dev.setSgp_ticks (d : Dev) (n : Nat) (c : SigGrp) : (d.setSgp n c).ticks = d.ticks := rfl
@[simp] theorem Dev.setSgp_op (d : Dev) (n : Nat) (c : SigGrp) : (d.setSgp n c).op = d.op := rfl
@[simp] theorem Dev.setSgp_lc (d : Dev) (n : Nat) (c : SigGrp) : (d.setSgp n c).lc = d.lc := rfl
@[simp] theorem Dev.setSgp_dict (d : Dev) (n : Nat) (c : SigGrp) : (d.setSgp n c).dict = d.dict := rfl
@[simp] theorem Dev.setSgp_banked (d : Dev) (n : Nat) (c : SigGrp) : (d.setSgp n c).banked = d.banked := rfl
@[simp] theorem Dev.setSgp_staged (d : Dev) (n : Nat) (c : SigGrp) : (d.setSgp n c).staged = d.staged := rfl
@[simp] theorem Dev.setSgp_sent (d : Dev) (n : Nat) (c : SigGrp) : (d.setSgp n c).sent = d.sent := rfl
@[simp] theorem Dev.setSgp_digests (d : Dev) (n : Nat) (c : SigGrp) : (d.setSgp n c).digests = d.digests := rfl
@[simp] theorem Dev.setSgp_asks (d : Dev) (n : Nat) (c : SigGrp) : (d.setSgp n c).asks = d.asks := rfl
@[simp] theorem Dev.setSgp_waiters (d : Dev) (n : Nat) (c : SigGrp) : (d.setSgp n c).waiters = d.waiters := rfl
@[simp] theorem Dev.setSgp_freeCount (d : Dev) (n : Nat) (c : SigGrp) : (d.setSgp n c).freeCount = d.freeCount := rfl
@[simp] theorem Dev.setSgp_outs (d : Dev) (n : Nat) (c : SigGrp) : (d.setSgp n c).outs = d.outs := rfl
@[simp] theorem Dev.setSgp_ins (d : Dev) (n : Nat) (c : SigGrp) : (d.setSgp n c).ins = d.ins := rfl
@[simp] theorem Dev.setSgp_rep (d : Dev) (n : Nat) (c : SigGrp) : (d.setSgp n c).rep = d.rep := rfl
@[simp] theorem Dev.setSgp_jnl (d : Dev) (n : Nat) (c : SigGrp) : (d.setSgp n c).jnl = d.jnl := rfl
@[simp] theorem Dev.setSgp_ember (d : Dev) (n : Nat) (c : SigGrp) : (d.setSgp n c).ember = d.ember := rfl
@[simp] theorem Dev.setSgp_lanes (d : Dev) (n : Nat) (c : SigGrp) : (d.setSgp n c).lanes = d.lanes := rfl
@[simp] theorem Dev.setSgp_grants (d : Dev) (n : Nat) (c : SigGrp) : (d.setSgp n c).grants = d.grants := rfl
@[simp] theorem Dev.setSgp_chan (d : Dev) (n : Nat) (c : SigGrp) : (d.setSgp n c).chan = d.chan := rfl
@[simp] theorem Dev.setSgp_life (d : Dev) (n : Nat) (c : SigGrp) : (d.setSgp n c).life = d.life := rfl
@[simp] theorem Dev.setSgp_grp (d : Dev) (n : Nat) (c : SigGrp) : (d.setSgp n c).grp = d.grp := rfl
@[simp] theorem Dev.setSgp_silentEntered (d : Dev) (n : Nat) (c : SigGrp) : (d.setSgp n c).silentEntered = d.silentEntered := rfl
@[simp] theorem Dev.setSgp_pe (d : Dev) (n : Nat) (c : SigGrp) : (d.setSgp n c).pe = d.pe := rfl
@[simp] theorem Dev.setSgp_gw (d : Dev) (n : Nat) (c : SigGrp) : (d.setSgp n c).gw = d.gw := rfl
@[simp] theorem Dev.setSgp_mx (d : Dev) (n : Nat) (c : SigGrp) : (d.setSgp n c).mx = d.mx := rfl
@[simp] theorem Dev.setSgp_fin (d : Dev) (n : Nat) (c : SigGrp) : (d.setSgp n c).fin = d.fin := rfl
@[simp] theorem Dev.setSgp_ring (d : Dev) (n : Nat) (c : SigGrp) : (d.setSgp n c).ring = d.ring := rfl
@[simp] theorem Dev.setSgp_cfg (d : Dev) (n : Nat) (c : SigGrp) : (d.setSgp n c).cfg = d.cfg := rfl
@[simp] theorem Dev.setSgp_guard (d : Dev) (n : Nat) (c : SigGrp) : (d.setSgp n c).guard = d.guard := rfl
@[simp] theorem Dev.setSgp_power (d : Dev) (n : Nat) (c : SigGrp) : (d.setSgp n c).power = d.power := rfl
@[simp] theorem Dev.setSgp_admin (d : Dev) (n : Nat) (c : SigGrp) : (d.setSgp n c).admin = d.admin := rfl
@[simp] theorem Dev.setSgp_test (d : Dev) (n : Nat) (c : SigGrp) : (d.setSgp n c).test = d.test := rfl
@[simp] theorem Dev.setSgp_replay (d : Dev) (n : Nat) (c : SigGrp) : (d.setSgp n c).replay = d.replay := rfl
@[simp] theorem Dev.setSgp_val (d : Dev) (n : Nat) (c : SigGrp) (k : Nat) : (d.setSgp n c).val k = d.val k := rfl
@[simp] theorem Dev.setSgp_num (d : Dev) (n : Nat) (c : SigGrp) (k : Nat) : (d.setSgp n c).num k = d.num k := rfl
@[simp] theorem Dev.setSgp_nat (d : Dev) (n : Nat) (c : SigGrp) (k : Nat) : (d.setSgp n c).nat k = d.nat k := rfl
@[simp] theorem Dev.setSgp_bytesOf (d : Dev) (n : Nat) (c : SigGrp) (k : Nat) : (d.setSgp n c).bytesOf k = d.bytesOf k := rfl
@[simp] theorem Dev.setSgp_ch (d : Dev) (n : Nat) (c : SigGrp) (m : Nat) : (d.setSgp n c).ch m = d.ch m := rfl
@[simp] theorem Dev.setSgp_lf (d : Dev) (n : Nat) (c : SigGrp) (m : Nat) : (d.setSgp n c).lf m = d.lf m := rfl
@[simp] theorem Dev.setSgp_gr (d : Dev) (n : Nat) (c : SigGrp) (m : Nat) : (d.setSgp n c).gr m = d.gr m := rfl
@[simp] theorem Dev.setSgp_eng (d : Dev) (n : Nat) (c : SigGrp) (m : Nat) : (d.setSgp n c).eng m = d.eng m := rfl
@[simp] theorem Dev.setSgp_port (d : Dev) (n : Nat) (c : SigGrp) (m : Nat) : (d.setSgp n c).port m = d.port m := rfl
@[simp] theorem Dev.setSgp_fi (d : Dev) (n : Nat) (c : SigGrp) (m : Nat) : (d.setSgp n c).fi m = d.fi m := rfl
@[simp] theorem Dev.setSgp_ln (d : Dev) (n : Nat) (c : SigGrp) (m : Nat) : (d.setSgp n c).ln m = d.ln m := rfl
@[simp] theorem Dev.setSgp_cl (d : Dev) (n : Nat) (c : SigGrp) (m : Nat) : (d.setSgp n c).cl m = d.cl m := rfl
@[simp] theorem Dev.setSgp_fg (d : Dev) (n : Nat) (c : SigGrp) (m : Nat) : (d.setSgp n c).fg m = d.fg m := rfl
@[simp] theorem Dev.setSgp_hop (d : Dev) (n : Nat) (c : SigGrp) (m : Nat) : (d.setSgp n c).hop m = d.hop m := rfl
@[simp] theorem Dev.setSgp_pos (d : Dev) (n : Nat) (c : SigGrp) (m : Nat) : (d.setSgp n c).pos m = d.pos m := rfl
@[simp] theorem Dev.setSgp_slot (d : Dev) (n : Nat) (c : SigGrp) (m : Nat) : (d.setSgp n c).slot m = d.slot m := rfl
@[simp] theorem Dev.setSgp_gate (d : Dev) (n : Nat) (c : SigGrp) (m : Nat) : (d.setSgp n c).gate m = d.gate m := rfl
@[simp] theorem Dev.setSgp_iso (d : Dev) (n : Nat) (c : SigGrp) (m : Nat) : (d.setSgp n c).iso m = d.iso m := rfl
@[simp] theorem Dev.setSgp_sgp_same (d : Dev) (n : Nat) (c : SigGrp) : (d.setSgp n c).sgp n = c := by
  simp [Dev.setSgp, Dev.sgp]
@[simp] theorem Dev.setSgp_sgp_ne (d : Dev) {n m : Nat} (c : SigGrp) (h : m ≠ n) : (d.setSgp n c).sgp m = d.sgp m := by
  simp [Dev.setSgp, Dev.sgp, h]
@[simp] theorem Dev.setEng_now (d : Dev) (n : Nat) (c : Pe) : (d.setEng n c).now = d.now := rfl
@[simp] theorem Dev.setEng_ticks (d : Dev) (n : Nat) (c : Pe) : (d.setEng n c).ticks = d.ticks := rfl
@[simp] theorem Dev.setEng_op (d : Dev) (n : Nat) (c : Pe) : (d.setEng n c).op = d.op := rfl
@[simp] theorem Dev.setEng_lc (d : Dev) (n : Nat) (c : Pe) : (d.setEng n c).lc = d.lc := rfl
@[simp] theorem Dev.setEng_dict (d : Dev) (n : Nat) (c : Pe) : (d.setEng n c).dict = d.dict := rfl
@[simp] theorem Dev.setEng_banked (d : Dev) (n : Nat) (c : Pe) : (d.setEng n c).banked = d.banked := rfl
@[simp] theorem Dev.setEng_staged (d : Dev) (n : Nat) (c : Pe) : (d.setEng n c).staged = d.staged := rfl
@[simp] theorem Dev.setEng_sent (d : Dev) (n : Nat) (c : Pe) : (d.setEng n c).sent = d.sent := rfl
@[simp] theorem Dev.setEng_digests (d : Dev) (n : Nat) (c : Pe) : (d.setEng n c).digests = d.digests := rfl
@[simp] theorem Dev.setEng_asks (d : Dev) (n : Nat) (c : Pe) : (d.setEng n c).asks = d.asks := rfl
@[simp] theorem Dev.setEng_waiters (d : Dev) (n : Nat) (c : Pe) : (d.setEng n c).waiters = d.waiters := rfl
@[simp] theorem Dev.setEng_freeCount (d : Dev) (n : Nat) (c : Pe) : (d.setEng n c).freeCount = d.freeCount := rfl
@[simp] theorem Dev.setEng_outs (d : Dev) (n : Nat) (c : Pe) : (d.setEng n c).outs = d.outs := rfl
@[simp] theorem Dev.setEng_ins (d : Dev) (n : Nat) (c : Pe) : (d.setEng n c).ins = d.ins := rfl
@[simp] theorem Dev.setEng_rep (d : Dev) (n : Nat) (c : Pe) : (d.setEng n c).rep = d.rep := rfl
@[simp] theorem Dev.setEng_jnl (d : Dev) (n : Nat) (c : Pe) : (d.setEng n c).jnl = d.jnl := rfl
@[simp] theorem Dev.setEng_ember (d : Dev) (n : Nat) (c : Pe) : (d.setEng n c).ember = d.ember := rfl
@[simp] theorem Dev.setEng_lanes (d : Dev) (n : Nat) (c : Pe) : (d.setEng n c).lanes = d.lanes := rfl
@[simp] theorem Dev.setEng_grants (d : Dev) (n : Nat) (c : Pe) : (d.setEng n c).grants = d.grants := rfl
@[simp] theorem Dev.setEng_chan (d : Dev) (n : Nat) (c : Pe) : (d.setEng n c).chan = d.chan := rfl
@[simp] theorem Dev.setEng_life (d : Dev) (n : Nat) (c : Pe) : (d.setEng n c).life = d.life := rfl
@[simp] theorem Dev.setEng_grp (d : Dev) (n : Nat) (c : Pe) : (d.setEng n c).grp = d.grp := rfl
@[simp] theorem Dev.setEng_sg (d : Dev) (n : Nat) (c : Pe) : (d.setEng n c).sg = d.sg := rfl
@[simp] theorem Dev.setEng_silentEntered (d : Dev) (n : Nat) (c : Pe) : (d.setEng n c).silentEntered = d.silentEntered := rfl
@[simp] theorem Dev.setEng_gw (d : Dev) (n : Nat) (c : Pe) : (d.setEng n c).gw = d.gw := rfl
@[simp] theorem Dev.setEng_mx (d : Dev) (n : Nat) (c : Pe) : (d.setEng n c).mx = d.mx := rfl
@[simp] theorem Dev.setEng_fin (d : Dev) (n : Nat) (c : Pe) : (d.setEng n c).fin = d.fin := rfl
@[simp] theorem Dev.setEng_ring (d : Dev) (n : Nat) (c : Pe) : (d.setEng n c).ring = d.ring := rfl
@[simp] theorem Dev.setEng_cfg (d : Dev) (n : Nat) (c : Pe) : (d.setEng n c).cfg = d.cfg := rfl
@[simp] theorem Dev.setEng_guard (d : Dev) (n : Nat) (c : Pe) : (d.setEng n c).guard = d.guard := rfl
@[simp] theorem Dev.setEng_power (d : Dev) (n : Nat) (c : Pe) : (d.setEng n c).power = d.power := rfl
@[simp] theorem Dev.setEng_admin (d : Dev) (n : Nat) (c : Pe) : (d.setEng n c).admin = d.admin := rfl
@[simp] theorem Dev.setEng_test (d : Dev) (n : Nat) (c : Pe) : (d.setEng n c).test = d.test := rfl
@[simp] theorem Dev.setEng_replay (d : Dev) (n : Nat) (c : Pe) : (d.setEng n c).replay = d.replay := rfl
@[simp] theorem Dev.setEng_val (d : Dev) (n : Nat) (c : Pe) (k : Nat) : (d.setEng n c).val k = d.val k := rfl
@[simp] theorem Dev.setEng_num (d : Dev) (n : Nat) (c : Pe) (k : Nat) : (d.setEng n c).num k = d.num k := rfl
@[simp] theorem Dev.setEng_nat (d : Dev) (n : Nat) (c : Pe) (k : Nat) : (d.setEng n c).nat k = d.nat k := rfl
@[simp] theorem Dev.setEng_bytesOf (d : Dev) (n : Nat) (c : Pe) (k : Nat) : (d.setEng n c).bytesOf k = d.bytesOf k := rfl
@[simp] theorem Dev.setEng_ch (d : Dev) (n : Nat) (c : Pe) (m : Nat) : (d.setEng n c).ch m = d.ch m := rfl
@[simp] theorem Dev.setEng_lf (d : Dev) (n : Nat) (c : Pe) (m : Nat) : (d.setEng n c).lf m = d.lf m := rfl
@[simp] theorem Dev.setEng_gr (d : Dev) (n : Nat) (c : Pe) (m : Nat) : (d.setEng n c).gr m = d.gr m := rfl
@[simp] theorem Dev.setEng_sgp (d : Dev) (n : Nat) (c : Pe) (m : Nat) : (d.setEng n c).sgp m = d.sgp m := rfl
@[simp] theorem Dev.setEng_port (d : Dev) (n : Nat) (c : Pe) (m : Nat) : (d.setEng n c).port m = d.port m := rfl
@[simp] theorem Dev.setEng_fi (d : Dev) (n : Nat) (c : Pe) (m : Nat) : (d.setEng n c).fi m = d.fi m := rfl
@[simp] theorem Dev.setEng_ln (d : Dev) (n : Nat) (c : Pe) (m : Nat) : (d.setEng n c).ln m = d.ln m := rfl
@[simp] theorem Dev.setEng_cl (d : Dev) (n : Nat) (c : Pe) (m : Nat) : (d.setEng n c).cl m = d.cl m := rfl
@[simp] theorem Dev.setEng_fg (d : Dev) (n : Nat) (c : Pe) (m : Nat) : (d.setEng n c).fg m = d.fg m := rfl
@[simp] theorem Dev.setEng_hop (d : Dev) (n : Nat) (c : Pe) (m : Nat) : (d.setEng n c).hop m = d.hop m := rfl
@[simp] theorem Dev.setEng_pos (d : Dev) (n : Nat) (c : Pe) (m : Nat) : (d.setEng n c).pos m = d.pos m := rfl
@[simp] theorem Dev.setEng_slot (d : Dev) (n : Nat) (c : Pe) (m : Nat) : (d.setEng n c).slot m = d.slot m := rfl
@[simp] theorem Dev.setEng_gate (d : Dev) (n : Nat) (c : Pe) (m : Nat) : (d.setEng n c).gate m = d.gate m := rfl
@[simp] theorem Dev.setEng_iso (d : Dev) (n : Nat) (c : Pe) (m : Nat) : (d.setEng n c).iso m = d.iso m := rfl
@[simp] theorem Dev.setEng_eng_same (d : Dev) (n : Nat) (c : Pe) : (d.setEng n c).eng n = c := by
  simp [Dev.setEng, Dev.eng]
@[simp] theorem Dev.setEng_eng_ne (d : Dev) {n m : Nat} (c : Pe) (h : m ≠ n) : (d.setEng n c).eng m = d.eng m := by
  simp [Dev.setEng, Dev.eng, h]
@[simp] theorem Dev.setPort_now (d : Dev) (n : Nat) (c : Gw) : (d.setPort n c).now = d.now := rfl
@[simp] theorem Dev.setPort_ticks (d : Dev) (n : Nat) (c : Gw) : (d.setPort n c).ticks = d.ticks := rfl
@[simp] theorem Dev.setPort_op (d : Dev) (n : Nat) (c : Gw) : (d.setPort n c).op = d.op := rfl
@[simp] theorem Dev.setPort_lc (d : Dev) (n : Nat) (c : Gw) : (d.setPort n c).lc = d.lc := rfl
@[simp] theorem Dev.setPort_dict (d : Dev) (n : Nat) (c : Gw) : (d.setPort n c).dict = d.dict := rfl
@[simp] theorem Dev.setPort_banked (d : Dev) (n : Nat) (c : Gw) : (d.setPort n c).banked = d.banked := rfl
@[simp] theorem Dev.setPort_staged (d : Dev) (n : Nat) (c : Gw) : (d.setPort n c).staged = d.staged := rfl
@[simp] theorem Dev.setPort_sent (d : Dev) (n : Nat) (c : Gw) : (d.setPort n c).sent = d.sent := rfl
@[simp] theorem Dev.setPort_digests (d : Dev) (n : Nat) (c : Gw) : (d.setPort n c).digests = d.digests := rfl
@[simp] theorem Dev.setPort_asks (d : Dev) (n : Nat) (c : Gw) : (d.setPort n c).asks = d.asks := rfl
@[simp] theorem Dev.setPort_waiters (d : Dev) (n : Nat) (c : Gw) : (d.setPort n c).waiters = d.waiters := rfl
@[simp] theorem Dev.setPort_freeCount (d : Dev) (n : Nat) (c : Gw) : (d.setPort n c).freeCount = d.freeCount := rfl
@[simp] theorem Dev.setPort_outs (d : Dev) (n : Nat) (c : Gw) : (d.setPort n c).outs = d.outs := rfl
@[simp] theorem Dev.setPort_ins (d : Dev) (n : Nat) (c : Gw) : (d.setPort n c).ins = d.ins := rfl
@[simp] theorem Dev.setPort_rep (d : Dev) (n : Nat) (c : Gw) : (d.setPort n c).rep = d.rep := rfl
@[simp] theorem Dev.setPort_jnl (d : Dev) (n : Nat) (c : Gw) : (d.setPort n c).jnl = d.jnl := rfl
@[simp] theorem Dev.setPort_ember (d : Dev) (n : Nat) (c : Gw) : (d.setPort n c).ember = d.ember := rfl
@[simp] theorem Dev.setPort_lanes (d : Dev) (n : Nat) (c : Gw) : (d.setPort n c).lanes = d.lanes := rfl
@[simp] theorem Dev.setPort_grants (d : Dev) (n : Nat) (c : Gw) : (d.setPort n c).grants = d.grants := rfl
@[simp] theorem Dev.setPort_chan (d : Dev) (n : Nat) (c : Gw) : (d.setPort n c).chan = d.chan := rfl
@[simp] theorem Dev.setPort_life (d : Dev) (n : Nat) (c : Gw) : (d.setPort n c).life = d.life := rfl
@[simp] theorem Dev.setPort_grp (d : Dev) (n : Nat) (c : Gw) : (d.setPort n c).grp = d.grp := rfl
@[simp] theorem Dev.setPort_sg (d : Dev) (n : Nat) (c : Gw) : (d.setPort n c).sg = d.sg := rfl
@[simp] theorem Dev.setPort_silentEntered (d : Dev) (n : Nat) (c : Gw) : (d.setPort n c).silentEntered = d.silentEntered := rfl
@[simp] theorem Dev.setPort_pe (d : Dev) (n : Nat) (c : Gw) : (d.setPort n c).pe = d.pe := rfl
@[simp] theorem Dev.setPort_mx (d : Dev) (n : Nat) (c : Gw) : (d.setPort n c).mx = d.mx := rfl
@[simp] theorem Dev.setPort_fin (d : Dev) (n : Nat) (c : Gw) : (d.setPort n c).fin = d.fin := rfl
@[simp] theorem Dev.setPort_ring (d : Dev) (n : Nat) (c : Gw) : (d.setPort n c).ring = d.ring := rfl
@[simp] theorem Dev.setPort_cfg (d : Dev) (n : Nat) (c : Gw) : (d.setPort n c).cfg = d.cfg := rfl
@[simp] theorem Dev.setPort_guard (d : Dev) (n : Nat) (c : Gw) : (d.setPort n c).guard = d.guard := rfl
@[simp] theorem Dev.setPort_power (d : Dev) (n : Nat) (c : Gw) : (d.setPort n c).power = d.power := rfl
@[simp] theorem Dev.setPort_admin (d : Dev) (n : Nat) (c : Gw) : (d.setPort n c).admin = d.admin := rfl
@[simp] theorem Dev.setPort_test (d : Dev) (n : Nat) (c : Gw) : (d.setPort n c).test = d.test := rfl
@[simp] theorem Dev.setPort_replay (d : Dev) (n : Nat) (c : Gw) : (d.setPort n c).replay = d.replay := rfl
@[simp] theorem Dev.setPort_val (d : Dev) (n : Nat) (c : Gw) (k : Nat) : (d.setPort n c).val k = d.val k := rfl
@[simp] theorem Dev.setPort_num (d : Dev) (n : Nat) (c : Gw) (k : Nat) : (d.setPort n c).num k = d.num k := rfl
@[simp] theorem Dev.setPort_nat (d : Dev) (n : Nat) (c : Gw) (k : Nat) : (d.setPort n c).nat k = d.nat k := rfl
@[simp] theorem Dev.setPort_bytesOf (d : Dev) (n : Nat) (c : Gw) (k : Nat) : (d.setPort n c).bytesOf k = d.bytesOf k := rfl
@[simp] theorem Dev.setPort_ch (d : Dev) (n : Nat) (c : Gw) (m : Nat) : (d.setPort n c).ch m = d.ch m := rfl
@[simp] theorem Dev.setPort_lf (d : Dev) (n : Nat) (c : Gw) (m : Nat) : (d.setPort n c).lf m = d.lf m := rfl
@[simp] theorem Dev.setPort_gr (d : Dev) (n : Nat) (c : Gw) (m : Nat) : (d.setPort n c).gr m = d.gr m := rfl
@[simp] theorem Dev.setPort_sgp (d : Dev) (n : Nat) (c : Gw) (m : Nat) : (d.setPort n c).sgp m = d.sgp m := rfl
@[simp] theorem Dev.setPort_eng (d : Dev) (n : Nat) (c : Gw) (m : Nat) : (d.setPort n c).eng m = d.eng m := rfl
@[simp] theorem Dev.setPort_fi (d : Dev) (n : Nat) (c : Gw) (m : Nat) : (d.setPort n c).fi m = d.fi m := rfl
@[simp] theorem Dev.setPort_ln (d : Dev) (n : Nat) (c : Gw) (m : Nat) : (d.setPort n c).ln m = d.ln m := rfl
@[simp] theorem Dev.setPort_cl (d : Dev) (n : Nat) (c : Gw) (m : Nat) : (d.setPort n c).cl m = d.cl m := rfl
@[simp] theorem Dev.setPort_fg (d : Dev) (n : Nat) (c : Gw) (m : Nat) : (d.setPort n c).fg m = d.fg m := rfl
@[simp] theorem Dev.setPort_hop (d : Dev) (n : Nat) (c : Gw) (m : Nat) : (d.setPort n c).hop m = d.hop m := rfl
@[simp] theorem Dev.setPort_pos (d : Dev) (n : Nat) (c : Gw) (m : Nat) : (d.setPort n c).pos m = d.pos m := rfl
@[simp] theorem Dev.setPort_slot (d : Dev) (n : Nat) (c : Gw) (m : Nat) : (d.setPort n c).slot m = d.slot m := rfl
@[simp] theorem Dev.setPort_gate (d : Dev) (n : Nat) (c : Gw) (m : Nat) : (d.setPort n c).gate m = d.gate m := rfl
@[simp] theorem Dev.setPort_iso (d : Dev) (n : Nat) (c : Gw) (m : Nat) : (d.setPort n c).iso m = d.iso m := rfl
@[simp] theorem Dev.setPort_port_same (d : Dev) (n : Nat) (c : Gw) : (d.setPort n c).port n = c := by
  simp [Dev.setPort, Dev.port]
@[simp] theorem Dev.setPort_port_ne (d : Dev) {n m : Nat} (c : Gw) (h : m ≠ n) : (d.setPort n c).port m = d.port m := by
  simp [Dev.setPort, Dev.port, h]
@[simp] theorem Dev.setFi_now (d : Dev) (n : Nat) (c : Fin') : (d.setFi n c).now = d.now := rfl
@[simp] theorem Dev.setFi_ticks (d : Dev) (n : Nat) (c : Fin') : (d.setFi n c).ticks = d.ticks := rfl
@[simp] theorem Dev.setFi_op (d : Dev) (n : Nat) (c : Fin') : (d.setFi n c).op = d.op := rfl
@[simp] theorem Dev.setFi_lc (d : Dev) (n : Nat) (c : Fin') : (d.setFi n c).lc = d.lc := rfl
@[simp] theorem Dev.setFi_dict (d : Dev) (n : Nat) (c : Fin') : (d.setFi n c).dict = d.dict := rfl
@[simp] theorem Dev.setFi_banked (d : Dev) (n : Nat) (c : Fin') : (d.setFi n c).banked = d.banked := rfl
@[simp] theorem Dev.setFi_staged (d : Dev) (n : Nat) (c : Fin') : (d.setFi n c).staged = d.staged := rfl
@[simp] theorem Dev.setFi_sent (d : Dev) (n : Nat) (c : Fin') : (d.setFi n c).sent = d.sent := rfl
@[simp] theorem Dev.setFi_digests (d : Dev) (n : Nat) (c : Fin') : (d.setFi n c).digests = d.digests := rfl
@[simp] theorem Dev.setFi_asks (d : Dev) (n : Nat) (c : Fin') : (d.setFi n c).asks = d.asks := rfl
@[simp] theorem Dev.setFi_waiters (d : Dev) (n : Nat) (c : Fin') : (d.setFi n c).waiters = d.waiters := rfl
@[simp] theorem Dev.setFi_freeCount (d : Dev) (n : Nat) (c : Fin') : (d.setFi n c).freeCount = d.freeCount := rfl
@[simp] theorem Dev.setFi_outs (d : Dev) (n : Nat) (c : Fin') : (d.setFi n c).outs = d.outs := rfl
@[simp] theorem Dev.setFi_ins (d : Dev) (n : Nat) (c : Fin') : (d.setFi n c).ins = d.ins := rfl
@[simp] theorem Dev.setFi_rep (d : Dev) (n : Nat) (c : Fin') : (d.setFi n c).rep = d.rep := rfl
@[simp] theorem Dev.setFi_jnl (d : Dev) (n : Nat) (c : Fin') : (d.setFi n c).jnl = d.jnl := rfl
@[simp] theorem Dev.setFi_ember (d : Dev) (n : Nat) (c : Fin') : (d.setFi n c).ember = d.ember := rfl
@[simp] theorem Dev.setFi_lanes (d : Dev) (n : Nat) (c : Fin') : (d.setFi n c).lanes = d.lanes := rfl
@[simp] theorem Dev.setFi_grants (d : Dev) (n : Nat) (c : Fin') : (d.setFi n c).grants = d.grants := rfl
@[simp] theorem Dev.setFi_chan (d : Dev) (n : Nat) (c : Fin') : (d.setFi n c).chan = d.chan := rfl
@[simp] theorem Dev.setFi_life (d : Dev) (n : Nat) (c : Fin') : (d.setFi n c).life = d.life := rfl
@[simp] theorem Dev.setFi_grp (d : Dev) (n : Nat) (c : Fin') : (d.setFi n c).grp = d.grp := rfl
@[simp] theorem Dev.setFi_sg (d : Dev) (n : Nat) (c : Fin') : (d.setFi n c).sg = d.sg := rfl
@[simp] theorem Dev.setFi_silentEntered (d : Dev) (n : Nat) (c : Fin') : (d.setFi n c).silentEntered = d.silentEntered := rfl
@[simp] theorem Dev.setFi_pe (d : Dev) (n : Nat) (c : Fin') : (d.setFi n c).pe = d.pe := rfl
@[simp] theorem Dev.setFi_gw (d : Dev) (n : Nat) (c : Fin') : (d.setFi n c).gw = d.gw := rfl
@[simp] theorem Dev.setFi_mx (d : Dev) (n : Nat) (c : Fin') : (d.setFi n c).mx = d.mx := rfl
@[simp] theorem Dev.setFi_ring (d : Dev) (n : Nat) (c : Fin') : (d.setFi n c).ring = d.ring := rfl
@[simp] theorem Dev.setFi_cfg (d : Dev) (n : Nat) (c : Fin') : (d.setFi n c).cfg = d.cfg := rfl
@[simp] theorem Dev.setFi_guard (d : Dev) (n : Nat) (c : Fin') : (d.setFi n c).guard = d.guard := rfl
@[simp] theorem Dev.setFi_power (d : Dev) (n : Nat) (c : Fin') : (d.setFi n c).power = d.power := rfl
@[simp] theorem Dev.setFi_admin (d : Dev) (n : Nat) (c : Fin') : (d.setFi n c).admin = d.admin := rfl
@[simp] theorem Dev.setFi_test (d : Dev) (n : Nat) (c : Fin') : (d.setFi n c).test = d.test := rfl
@[simp] theorem Dev.setFi_replay (d : Dev) (n : Nat) (c : Fin') : (d.setFi n c).replay = d.replay := rfl
@[simp] theorem Dev.setFi_val (d : Dev) (n : Nat) (c : Fin') (k : Nat) : (d.setFi n c).val k = d.val k := rfl
@[simp] theorem Dev.setFi_num (d : Dev) (n : Nat) (c : Fin') (k : Nat) : (d.setFi n c).num k = d.num k := rfl
@[simp] theorem Dev.setFi_nat (d : Dev) (n : Nat) (c : Fin') (k : Nat) : (d.setFi n c).nat k = d.nat k := rfl
@[simp] theorem Dev.setFi_bytesOf (d : Dev) (n : Nat) (c : Fin') (k : Nat) : (d.setFi n c).bytesOf k = d.bytesOf k := rfl
@[simp] theorem Dev.setFi_ch (d : Dev) (n : Nat) (c : Fin') (m : Nat) : (d.setFi n c).ch m = d.ch m := rfl
@[simp] theorem Dev.setFi_lf (d : Dev) (n : Nat) (c : Fin') (m : Nat) : (d.setFi n c).lf m = d.lf m := rfl
@[simp] theorem Dev.setFi_gr (d : Dev) (n : Nat) (c : Fin') (m : Nat) : (d.setFi n c).gr m = d.gr m := rfl
@[simp] theorem Dev.setFi_sgp (d : Dev) (n : Nat) (c : Fin') (m : Nat) : (d.setFi n c).sgp m = d.sgp m := rfl
@[simp] theorem Dev.setFi_eng (d : Dev) (n : Nat) (c : Fin') (m : Nat) : (d.setFi n c).eng m = d.eng m := rfl
@[simp] theorem Dev.setFi_port (d : Dev) (n : Nat) (c : Fin') (m : Nat) : (d.setFi n c).port m = d.port m := rfl
@[simp] theorem Dev.setFi_ln (d : Dev) (n : Nat) (c : Fin') (m : Nat) : (d.setFi n c).ln m = d.ln m := rfl
@[simp] theorem Dev.setFi_cl (d : Dev) (n : Nat) (c : Fin') (m : Nat) : (d.setFi n c).cl m = d.cl m := rfl
@[simp] theorem Dev.setFi_fg (d : Dev) (n : Nat) (c : Fin') (m : Nat) : (d.setFi n c).fg m = d.fg m := rfl
@[simp] theorem Dev.setFi_hop (d : Dev) (n : Nat) (c : Fin') (m : Nat) : (d.setFi n c).hop m = d.hop m := rfl
@[simp] theorem Dev.setFi_pos (d : Dev) (n : Nat) (c : Fin') (m : Nat) : (d.setFi n c).pos m = d.pos m := rfl
@[simp] theorem Dev.setFi_slot (d : Dev) (n : Nat) (c : Fin') (m : Nat) : (d.setFi n c).slot m = d.slot m := rfl
@[simp] theorem Dev.setFi_gate (d : Dev) (n : Nat) (c : Fin') (m : Nat) : (d.setFi n c).gate m = d.gate m := rfl
@[simp] theorem Dev.setFi_iso (d : Dev) (n : Nat) (c : Fin') (m : Nat) : (d.setFi n c).iso m = d.iso m := rfl
@[simp] theorem Dev.setFi_fi_same (d : Dev) (n : Nat) (c : Fin') : (d.setFi n c).fi n = c := by
  simp [Dev.setFi, Dev.fi]
@[simp] theorem Dev.setFi_fi_ne (d : Dev) {n m : Nat} (c : Fin') (h : m ≠ n) : (d.setFi n c).fi m = d.fi m := by
  simp [Dev.setFi, Dev.fi, h]
@[simp] theorem Dev.setLn_now (d : Dev) (n : Nat) (c : LaneSt) : (d.setLn n c).now = d.now := rfl
@[simp] theorem Dev.setLn_ticks (d : Dev) (n : Nat) (c : LaneSt) : (d.setLn n c).ticks = d.ticks := rfl
@[simp] theorem Dev.setLn_op (d : Dev) (n : Nat) (c : LaneSt) : (d.setLn n c).op = d.op := rfl
@[simp] theorem Dev.setLn_lc (d : Dev) (n : Nat) (c : LaneSt) : (d.setLn n c).lc = d.lc := rfl
@[simp] theorem Dev.setLn_dict (d : Dev) (n : Nat) (c : LaneSt) : (d.setLn n c).dict = d.dict := rfl
@[simp] theorem Dev.setLn_banked (d : Dev) (n : Nat) (c : LaneSt) : (d.setLn n c).banked = d.banked := rfl
@[simp] theorem Dev.setLn_staged (d : Dev) (n : Nat) (c : LaneSt) : (d.setLn n c).staged = d.staged := rfl
@[simp] theorem Dev.setLn_sent (d : Dev) (n : Nat) (c : LaneSt) : (d.setLn n c).sent = d.sent := rfl
@[simp] theorem Dev.setLn_digests (d : Dev) (n : Nat) (c : LaneSt) : (d.setLn n c).digests = d.digests := rfl
@[simp] theorem Dev.setLn_asks (d : Dev) (n : Nat) (c : LaneSt) : (d.setLn n c).asks = d.asks := rfl
@[simp] theorem Dev.setLn_waiters (d : Dev) (n : Nat) (c : LaneSt) : (d.setLn n c).waiters = d.waiters := rfl
@[simp] theorem Dev.setLn_freeCount (d : Dev) (n : Nat) (c : LaneSt) : (d.setLn n c).freeCount = d.freeCount := rfl
@[simp] theorem Dev.setLn_outs (d : Dev) (n : Nat) (c : LaneSt) : (d.setLn n c).outs = d.outs := rfl
@[simp] theorem Dev.setLn_ins (d : Dev) (n : Nat) (c : LaneSt) : (d.setLn n c).ins = d.ins := rfl
@[simp] theorem Dev.setLn_rep (d : Dev) (n : Nat) (c : LaneSt) : (d.setLn n c).rep = d.rep := rfl
@[simp] theorem Dev.setLn_jnl (d : Dev) (n : Nat) (c : LaneSt) : (d.setLn n c).jnl = d.jnl := rfl
@[simp] theorem Dev.setLn_ember (d : Dev) (n : Nat) (c : LaneSt) : (d.setLn n c).ember = d.ember := rfl
@[simp] theorem Dev.setLn_grants (d : Dev) (n : Nat) (c : LaneSt) : (d.setLn n c).grants = d.grants := rfl
@[simp] theorem Dev.setLn_chan (d : Dev) (n : Nat) (c : LaneSt) : (d.setLn n c).chan = d.chan := rfl
@[simp] theorem Dev.setLn_life (d : Dev) (n : Nat) (c : LaneSt) : (d.setLn n c).life = d.life := rfl
@[simp] theorem Dev.setLn_grp (d : Dev) (n : Nat) (c : LaneSt) : (d.setLn n c).grp = d.grp := rfl
@[simp] theorem Dev.setLn_sg (d : Dev) (n : Nat) (c : LaneSt) : (d.setLn n c).sg = d.sg := rfl
@[simp] theorem Dev.setLn_silentEntered (d : Dev) (n : Nat) (c : LaneSt) : (d.setLn n c).silentEntered = d.silentEntered := rfl
@[simp] theorem Dev.setLn_pe (d : Dev) (n : Nat) (c : LaneSt) : (d.setLn n c).pe = d.pe := rfl
@[simp] theorem Dev.setLn_gw (d : Dev) (n : Nat) (c : LaneSt) : (d.setLn n c).gw = d.gw := rfl
@[simp] theorem Dev.setLn_mx (d : Dev) (n : Nat) (c : LaneSt) : (d.setLn n c).mx = d.mx := rfl
@[simp] theorem Dev.setLn_fin (d : Dev) (n : Nat) (c : LaneSt) : (d.setLn n c).fin = d.fin := rfl
@[simp] theorem Dev.setLn_ring (d : Dev) (n : Nat) (c : LaneSt) : (d.setLn n c).ring = d.ring := rfl
@[simp] theorem Dev.setLn_cfg (d : Dev) (n : Nat) (c : LaneSt) : (d.setLn n c).cfg = d.cfg := rfl
@[simp] theorem Dev.setLn_guard (d : Dev) (n : Nat) (c : LaneSt) : (d.setLn n c).guard = d.guard := rfl
@[simp] theorem Dev.setLn_power (d : Dev) (n : Nat) (c : LaneSt) : (d.setLn n c).power = d.power := rfl
@[simp] theorem Dev.setLn_admin (d : Dev) (n : Nat) (c : LaneSt) : (d.setLn n c).admin = d.admin := rfl
@[simp] theorem Dev.setLn_test (d : Dev) (n : Nat) (c : LaneSt) : (d.setLn n c).test = d.test := rfl
@[simp] theorem Dev.setLn_replay (d : Dev) (n : Nat) (c : LaneSt) : (d.setLn n c).replay = d.replay := rfl
@[simp] theorem Dev.setLn_val (d : Dev) (n : Nat) (c : LaneSt) (k : Nat) : (d.setLn n c).val k = d.val k := rfl
@[simp] theorem Dev.setLn_num (d : Dev) (n : Nat) (c : LaneSt) (k : Nat) : (d.setLn n c).num k = d.num k := rfl
@[simp] theorem Dev.setLn_nat (d : Dev) (n : Nat) (c : LaneSt) (k : Nat) : (d.setLn n c).nat k = d.nat k := rfl
@[simp] theorem Dev.setLn_bytesOf (d : Dev) (n : Nat) (c : LaneSt) (k : Nat) : (d.setLn n c).bytesOf k = d.bytesOf k := rfl
@[simp] theorem Dev.setLn_ch (d : Dev) (n : Nat) (c : LaneSt) (m : Nat) : (d.setLn n c).ch m = d.ch m := rfl
@[simp] theorem Dev.setLn_lf (d : Dev) (n : Nat) (c : LaneSt) (m : Nat) : (d.setLn n c).lf m = d.lf m := rfl
@[simp] theorem Dev.setLn_gr (d : Dev) (n : Nat) (c : LaneSt) (m : Nat) : (d.setLn n c).gr m = d.gr m := rfl
@[simp] theorem Dev.setLn_sgp (d : Dev) (n : Nat) (c : LaneSt) (m : Nat) : (d.setLn n c).sgp m = d.sgp m := rfl
@[simp] theorem Dev.setLn_eng (d : Dev) (n : Nat) (c : LaneSt) (m : Nat) : (d.setLn n c).eng m = d.eng m := rfl
@[simp] theorem Dev.setLn_port (d : Dev) (n : Nat) (c : LaneSt) (m : Nat) : (d.setLn n c).port m = d.port m := rfl
@[simp] theorem Dev.setLn_fi (d : Dev) (n : Nat) (c : LaneSt) (m : Nat) : (d.setLn n c).fi m = d.fi m := rfl
@[simp] theorem Dev.setLn_cl (d : Dev) (n : Nat) (c : LaneSt) (m : Nat) : (d.setLn n c).cl m = d.cl m := rfl
@[simp] theorem Dev.setLn_fg (d : Dev) (n : Nat) (c : LaneSt) (m : Nat) : (d.setLn n c).fg m = d.fg m := rfl
@[simp] theorem Dev.setLn_hop (d : Dev) (n : Nat) (c : LaneSt) (m : Nat) : (d.setLn n c).hop m = d.hop m := rfl
@[simp] theorem Dev.setLn_pos (d : Dev) (n : Nat) (c : LaneSt) (m : Nat) : (d.setLn n c).pos m = d.pos m := rfl
@[simp] theorem Dev.setLn_slot (d : Dev) (n : Nat) (c : LaneSt) (m : Nat) : (d.setLn n c).slot m = d.slot m := rfl
@[simp] theorem Dev.setLn_gate (d : Dev) (n : Nat) (c : LaneSt) (m : Nat) : (d.setLn n c).gate m = d.gate m := rfl
@[simp] theorem Dev.setLn_iso (d : Dev) (n : Nat) (c : LaneSt) (m : Nat) : (d.setLn n c).iso m = d.iso m := rfl
@[simp] theorem Dev.setLn_ln_same (d : Dev) (n : Nat) (c : LaneSt) : (d.setLn n c).ln n = c := by
  simp [Dev.setLn, Dev.ln]
@[simp] theorem Dev.setLn_ln_ne (d : Dev) {n m : Nat} (c : LaneSt) (h : m ≠ n) : (d.setLn n c).ln m = d.ln m := by
  simp [Dev.setLn, Dev.ln, h]
@[simp] theorem Dev.setCl_now (d : Dev) (n : Nat) (c : Client) : (d.setCl n c).now = d.now := rfl
@[simp] theorem Dev.setCl_ticks (d : Dev) (n : Nat) (c : Client) : (d.setCl n c).ticks = d.ticks := rfl
@[simp] theorem Dev.setCl_op (d : Dev) (n : Nat) (c : Client) : (d.setCl n c).op = d.op := rfl
@[simp] theorem Dev.setCl_lc (d : Dev) (n : Nat) (c : Client) : (d.setCl n c).lc = d.lc := rfl
@[simp] theorem Dev.setCl_dict (d : Dev) (n : Nat) (c : Client) : (d.setCl n c).dict = d.dict := rfl
@[simp] theorem Dev.setCl_banked (d : Dev) (n : Nat) (c : Client) : (d.setCl n c).banked = d.banked := rfl
@[simp] theorem Dev.setCl_staged (d : Dev) (n : Nat) (c : Client) : (d.setCl n c).staged = d.staged := rfl
@[simp] theorem Dev.setCl_sent (d : Dev) (n : Nat) (c : Client) : (d.setCl n c).sent = d.sent := rfl
@[simp] theorem Dev.setCl_digests (d : Dev) (n : Nat) (c : Client) : (d.setCl n c).digests = d.digests := rfl
@[simp] theorem Dev.setCl_asks (d : Dev) (n : Nat) (c : Client) : (d.setCl n c).asks = d.asks := rfl
@[simp] theorem Dev.setCl_waiters (d : Dev) (n : Nat) (c : Client) : (d.setCl n c).waiters = d.waiters := rfl
@[simp] theorem Dev.setCl_freeCount (d : Dev) (n : Nat) (c : Client) : (d.setCl n c).freeCount = d.freeCount := rfl
@[simp] theorem Dev.setCl_outs (d : Dev) (n : Nat) (c : Client) : (d.setCl n c).outs = d.outs := rfl
@[simp] theorem Dev.setCl_ins (d : Dev) (n : Nat) (c : Client) : (d.setCl n c).ins = d.ins := rfl
@[simp] theorem Dev.setCl_rep (d : Dev) (n : Nat) (c : Client) : (d.setCl n c).rep = d.rep := rfl
@[simp] theorem Dev.setCl_jnl (d : Dev) (n : Nat) (c : Client) : (d.setCl n c).jnl = d.jnl := rfl
@[simp] theorem Dev.setCl_ember (d : Dev) (n : Nat) (c : Client) : (d.setCl n c).ember = d.ember := rfl
@[simp] theorem Dev.setCl_grants (d : Dev) (n : Nat) (c : Client) : (d.setCl n c).grants = d.grants := rfl
@[simp] theorem Dev.setCl_chan (d : Dev) (n : Nat) (c : Client) : (d.setCl n c).chan = d.chan := rfl
@[simp] theorem Dev.setCl_life (d : Dev) (n : Nat) (c : Client) : (d.setCl n c).life = d.life := rfl
@[simp] theorem Dev.setCl_grp (d : Dev) (n : Nat) (c : Client) : (d.setCl n c).grp = d.grp := rfl
@[simp] theorem Dev.setCl_sg (d : Dev) (n : Nat) (c : Client) : (d.setCl n c).sg = d.sg := rfl
@[simp] theorem Dev.setCl_silentEntered (d : Dev) (n : Nat) (c : Client) : (d.setCl n c).silentEntered = d.silentEntered := rfl
@[simp] theorem Dev.setCl_pe (d : Dev) (n : Nat) (c : Client) : (d.setCl n c).pe = d.pe := rfl
@[simp] theorem Dev.setCl_gw (d : Dev) (n : Nat) (c : Client) : (d.setCl n c).gw = d.gw := rfl
@[simp] theorem Dev.setCl_mx (d : Dev) (n : Nat) (c : Client) : (d.setCl n c).mx = d.mx := rfl
@[simp] theorem Dev.setCl_fin (d : Dev) (n : Nat) (c : Client) : (d.setCl n c).fin = d.fin := rfl
@[simp] theorem Dev.setCl_ring (d : Dev) (n : Nat) (c : Client) : (d.setCl n c).ring = d.ring := rfl
@[simp] theorem Dev.setCl_cfg (d : Dev) (n : Nat) (c : Client) : (d.setCl n c).cfg = d.cfg := rfl
@[simp] theorem Dev.setCl_guard (d : Dev) (n : Nat) (c : Client) : (d.setCl n c).guard = d.guard := rfl
@[simp] theorem Dev.setCl_power (d : Dev) (n : Nat) (c : Client) : (d.setCl n c).power = d.power := rfl
@[simp] theorem Dev.setCl_admin (d : Dev) (n : Nat) (c : Client) : (d.setCl n c).admin = d.admin := rfl
@[simp] theorem Dev.setCl_test (d : Dev) (n : Nat) (c : Client) : (d.setCl n c).test = d.test := rfl
@[simp] theorem Dev.setCl_replay (d : Dev) (n : Nat) (c : Client) : (d.setCl n c).replay = d.replay := rfl
@[simp] theorem Dev.setCl_val (d : Dev) (n : Nat) (c : Client) (k : Nat) : (d.setCl n c).val k = d.val k := rfl
@[simp] theorem Dev.setCl_num (d : Dev) (n : Nat) (c : Client) (k : Nat) : (d.setCl n c).num k = d.num k := rfl
@[simp] theorem Dev.setCl_nat (d : Dev) (n : Nat) (c : Client) (k : Nat) : (d.setCl n c).nat k = d.nat k := rfl
@[simp] theorem Dev.setCl_bytesOf (d : Dev) (n : Nat) (c : Client) (k : Nat) : (d.setCl n c).bytesOf k = d.bytesOf k := rfl
@[simp] theorem Dev.setCl_ch (d : Dev) (n : Nat) (c : Client) (m : Nat) : (d.setCl n c).ch m = d.ch m := rfl
@[simp] theorem Dev.setCl_lf (d : Dev) (n : Nat) (c : Client) (m : Nat) : (d.setCl n c).lf m = d.lf m := rfl
@[simp] theorem Dev.setCl_gr (d : Dev) (n : Nat) (c : Client) (m : Nat) : (d.setCl n c).gr m = d.gr m := rfl
@[simp] theorem Dev.setCl_sgp (d : Dev) (n : Nat) (c : Client) (m : Nat) : (d.setCl n c).sgp m = d.sgp m := rfl
@[simp] theorem Dev.setCl_eng (d : Dev) (n : Nat) (c : Client) (m : Nat) : (d.setCl n c).eng m = d.eng m := rfl
@[simp] theorem Dev.setCl_port (d : Dev) (n : Nat) (c : Client) (m : Nat) : (d.setCl n c).port m = d.port m := rfl
@[simp] theorem Dev.setCl_fi (d : Dev) (n : Nat) (c : Client) (m : Nat) : (d.setCl n c).fi m = d.fi m := rfl
@[simp] theorem Dev.setCl_ln (d : Dev) (n : Nat) (c : Client) (m : Nat) : (d.setCl n c).ln m = d.ln m := rfl
@[simp] theorem Dev.setCl_fg (d : Dev) (n : Nat) (c : Client) (m : Nat) : (d.setCl n c).fg m = d.fg m := rfl
@[simp] theorem Dev.setCl_hop (d : Dev) (n : Nat) (c : Client) (m : Nat) : (d.setCl n c).hop m = d.hop m := rfl
@[simp] theorem Dev.setCl_pos (d : Dev) (n : Nat) (c : Client) (m : Nat) : (d.setCl n c).pos m = d.pos m := rfl
@[simp] theorem Dev.setCl_slot (d : Dev) (n : Nat) (c : Client) (m : Nat) : (d.setCl n c).slot m = d.slot m := rfl
@[simp] theorem Dev.setCl_gate (d : Dev) (n : Nat) (c : Client) (m : Nat) : (d.setCl n c).gate m = d.gate m := rfl
@[simp] theorem Dev.setCl_iso (d : Dev) (n : Nat) (c : Client) (m : Nat) : (d.setCl n c).iso m = d.iso m := rfl
@[simp] theorem Dev.setCl_cl_same (d : Dev) (n : Nat) (c : Client) : (d.setCl n c).cl n = c := by
  simp [Dev.setCl, Dev.cl]
@[simp] theorem Dev.setCl_cl_ne (d : Dev) {n m : Nat} (c : Client) (h : m ≠ n) : (d.setCl n c).cl m = d.cl m := by
  simp [Dev.setCl, Dev.cl, h]
@[simp] theorem Dev.setFg_now (d : Dev) (n : Nat) (c : Fence) : (d.setFg n c).now = d.now := rfl
@[simp] theorem Dev.setFg_ticks (d : Dev) (n : Nat) (c : Fence) : (d.setFg n c).ticks = d.ticks := rfl
@[simp] theorem Dev.setFg_op (d : Dev) (n : Nat) (c : Fence) : (d.setFg n c).op = d.op := rfl
@[simp] theorem Dev.setFg_lc (d : Dev) (n : Nat) (c : Fence) : (d.setFg n c).lc = d.lc := rfl
@[simp] theorem Dev.setFg_dict (d : Dev) (n : Nat) (c : Fence) : (d.setFg n c).dict = d.dict := rfl
@[simp] theorem Dev.setFg_banked (d : Dev) (n : Nat) (c : Fence) : (d.setFg n c).banked = d.banked := rfl
@[simp] theorem Dev.setFg_staged (d : Dev) (n : Nat) (c : Fence) : (d.setFg n c).staged = d.staged := rfl
@[simp] theorem Dev.setFg_sent (d : Dev) (n : Nat) (c : Fence) : (d.setFg n c).sent = d.sent := rfl
@[simp] theorem Dev.setFg_digests (d : Dev) (n : Nat) (c : Fence) : (d.setFg n c).digests = d.digests := rfl
@[simp] theorem Dev.setFg_asks (d : Dev) (n : Nat) (c : Fence) : (d.setFg n c).asks = d.asks := rfl
@[simp] theorem Dev.setFg_waiters (d : Dev) (n : Nat) (c : Fence) : (d.setFg n c).waiters = d.waiters := rfl
@[simp] theorem Dev.setFg_freeCount (d : Dev) (n : Nat) (c : Fence) : (d.setFg n c).freeCount = d.freeCount := rfl
@[simp] theorem Dev.setFg_outs (d : Dev) (n : Nat) (c : Fence) : (d.setFg n c).outs = d.outs := rfl
@[simp] theorem Dev.setFg_ins (d : Dev) (n : Nat) (c : Fence) : (d.setFg n c).ins = d.ins := rfl
@[simp] theorem Dev.setFg_rep (d : Dev) (n : Nat) (c : Fence) : (d.setFg n c).rep = d.rep := rfl
@[simp] theorem Dev.setFg_jnl (d : Dev) (n : Nat) (c : Fence) : (d.setFg n c).jnl = d.jnl := rfl
@[simp] theorem Dev.setFg_ember (d : Dev) (n : Nat) (c : Fence) : (d.setFg n c).ember = d.ember := rfl
@[simp] theorem Dev.setFg_grants (d : Dev) (n : Nat) (c : Fence) : (d.setFg n c).grants = d.grants := rfl
@[simp] theorem Dev.setFg_chan (d : Dev) (n : Nat) (c : Fence) : (d.setFg n c).chan = d.chan := rfl
@[simp] theorem Dev.setFg_life (d : Dev) (n : Nat) (c : Fence) : (d.setFg n c).life = d.life := rfl
@[simp] theorem Dev.setFg_grp (d : Dev) (n : Nat) (c : Fence) : (d.setFg n c).grp = d.grp := rfl
@[simp] theorem Dev.setFg_sg (d : Dev) (n : Nat) (c : Fence) : (d.setFg n c).sg = d.sg := rfl
@[simp] theorem Dev.setFg_silentEntered (d : Dev) (n : Nat) (c : Fence) : (d.setFg n c).silentEntered = d.silentEntered := rfl
@[simp] theorem Dev.setFg_pe (d : Dev) (n : Nat) (c : Fence) : (d.setFg n c).pe = d.pe := rfl
@[simp] theorem Dev.setFg_gw (d : Dev) (n : Nat) (c : Fence) : (d.setFg n c).gw = d.gw := rfl
@[simp] theorem Dev.setFg_mx (d : Dev) (n : Nat) (c : Fence) : (d.setFg n c).mx = d.mx := rfl
@[simp] theorem Dev.setFg_fin (d : Dev) (n : Nat) (c : Fence) : (d.setFg n c).fin = d.fin := rfl
@[simp] theorem Dev.setFg_ring (d : Dev) (n : Nat) (c : Fence) : (d.setFg n c).ring = d.ring := rfl
@[simp] theorem Dev.setFg_cfg (d : Dev) (n : Nat) (c : Fence) : (d.setFg n c).cfg = d.cfg := rfl
@[simp] theorem Dev.setFg_guard (d : Dev) (n : Nat) (c : Fence) : (d.setFg n c).guard = d.guard := rfl
@[simp] theorem Dev.setFg_power (d : Dev) (n : Nat) (c : Fence) : (d.setFg n c).power = d.power := rfl
@[simp] theorem Dev.setFg_admin (d : Dev) (n : Nat) (c : Fence) : (d.setFg n c).admin = d.admin := rfl
@[simp] theorem Dev.setFg_test (d : Dev) (n : Nat) (c : Fence) : (d.setFg n c).test = d.test := rfl
@[simp] theorem Dev.setFg_replay (d : Dev) (n : Nat) (c : Fence) : (d.setFg n c).replay = d.replay := rfl
@[simp] theorem Dev.setFg_val (d : Dev) (n : Nat) (c : Fence) (k : Nat) : (d.setFg n c).val k = d.val k := rfl
@[simp] theorem Dev.setFg_num (d : Dev) (n : Nat) (c : Fence) (k : Nat) : (d.setFg n c).num k = d.num k := rfl
@[simp] theorem Dev.setFg_nat (d : Dev) (n : Nat) (c : Fence) (k : Nat) : (d.setFg n c).nat k = d.nat k := rfl
@[simp] theorem Dev.setFg_bytesOf (d : Dev) (n : Nat) (c : Fence) (k : Nat) : (d.setFg n c).bytesOf k = d.bytesOf k := rfl
@[simp] theorem Dev.setFg_ch (d : Dev) (n : Nat) (c : Fence) (m : Nat) : (d.setFg n c).ch m = d.ch m := rfl
@[simp] theorem Dev.setFg_lf (d : Dev) (n : Nat) (c : Fence) (m : Nat) : (d.setFg n c).lf m = d.lf m := rfl
@[simp] theorem Dev.setFg_gr (d : Dev) (n : Nat) (c : Fence) (m : Nat) : (d.setFg n c).gr m = d.gr m := rfl
@[simp] theorem Dev.setFg_sgp (d : Dev) (n : Nat) (c : Fence) (m : Nat) : (d.setFg n c).sgp m = d.sgp m := rfl
@[simp] theorem Dev.setFg_eng (d : Dev) (n : Nat) (c : Fence) (m : Nat) : (d.setFg n c).eng m = d.eng m := rfl
@[simp] theorem Dev.setFg_port (d : Dev) (n : Nat) (c : Fence) (m : Nat) : (d.setFg n c).port m = d.port m := rfl
@[simp] theorem Dev.setFg_fi (d : Dev) (n : Nat) (c : Fence) (m : Nat) : (d.setFg n c).fi m = d.fi m := rfl
@[simp] theorem Dev.setFg_ln (d : Dev) (n : Nat) (c : Fence) (m : Nat) : (d.setFg n c).ln m = d.ln m := rfl
@[simp] theorem Dev.setFg_cl (d : Dev) (n : Nat) (c : Fence) (m : Nat) : (d.setFg n c).cl m = d.cl m := rfl
@[simp] theorem Dev.setFg_hop (d : Dev) (n : Nat) (c : Fence) (m : Nat) : (d.setFg n c).hop m = d.hop m := rfl
@[simp] theorem Dev.setFg_pos (d : Dev) (n : Nat) (c : Fence) (m : Nat) : (d.setFg n c).pos m = d.pos m := rfl
@[simp] theorem Dev.setFg_slot (d : Dev) (n : Nat) (c : Fence) (m : Nat) : (d.setFg n c).slot m = d.slot m := rfl
@[simp] theorem Dev.setFg_gate (d : Dev) (n : Nat) (c : Fence) (m : Nat) : (d.setFg n c).gate m = d.gate m := rfl
@[simp] theorem Dev.setFg_iso (d : Dev) (n : Nat) (c : Fence) (m : Nat) : (d.setFg n c).iso m = d.iso m := rfl
@[simp] theorem Dev.setFg_fg_same (d : Dev) (n : Nat) (c : Fence) : (d.setFg n c).fg n = c := by
  simp [Dev.setFg, Dev.fg]
@[simp] theorem Dev.setFg_fg_ne (d : Dev) {n m : Nat} (c : Fence) (h : m ≠ n) : (d.setFg n c).fg m = d.fg m := by
  simp [Dev.setFg, Dev.fg, h]
@[simp] theorem Dev.setHop_now (d : Dev) (n : Nat) (c : Hop) : (d.setHop n c).now = d.now := rfl
@[simp] theorem Dev.setHop_ticks (d : Dev) (n : Nat) (c : Hop) : (d.setHop n c).ticks = d.ticks := rfl
@[simp] theorem Dev.setHop_op (d : Dev) (n : Nat) (c : Hop) : (d.setHop n c).op = d.op := rfl
@[simp] theorem Dev.setHop_lc (d : Dev) (n : Nat) (c : Hop) : (d.setHop n c).lc = d.lc := rfl
@[simp] theorem Dev.setHop_dict (d : Dev) (n : Nat) (c : Hop) : (d.setHop n c).dict = d.dict := rfl
@[simp] theorem Dev.setHop_banked (d : Dev) (n : Nat) (c : Hop) : (d.setHop n c).banked = d.banked := rfl
@[simp] theorem Dev.setHop_staged (d : Dev) (n : Nat) (c : Hop) : (d.setHop n c).staged = d.staged := rfl
@[simp] theorem Dev.setHop_sent (d : Dev) (n : Nat) (c : Hop) : (d.setHop n c).sent = d.sent := rfl
@[simp] theorem Dev.setHop_digests (d : Dev) (n : Nat) (c : Hop) : (d.setHop n c).digests = d.digests := rfl
@[simp] theorem Dev.setHop_asks (d : Dev) (n : Nat) (c : Hop) : (d.setHop n c).asks = d.asks := rfl
@[simp] theorem Dev.setHop_waiters (d : Dev) (n : Nat) (c : Hop) : (d.setHop n c).waiters = d.waiters := rfl
@[simp] theorem Dev.setHop_freeCount (d : Dev) (n : Nat) (c : Hop) : (d.setHop n c).freeCount = d.freeCount := rfl
@[simp] theorem Dev.setHop_outs (d : Dev) (n : Nat) (c : Hop) : (d.setHop n c).outs = d.outs := rfl
@[simp] theorem Dev.setHop_ins (d : Dev) (n : Nat) (c : Hop) : (d.setHop n c).ins = d.ins := rfl
@[simp] theorem Dev.setHop_rep (d : Dev) (n : Nat) (c : Hop) : (d.setHop n c).rep = d.rep := rfl
@[simp] theorem Dev.setHop_jnl (d : Dev) (n : Nat) (c : Hop) : (d.setHop n c).jnl = d.jnl := rfl
@[simp] theorem Dev.setHop_ember (d : Dev) (n : Nat) (c : Hop) : (d.setHop n c).ember = d.ember := rfl
@[simp] theorem Dev.setHop_lanes (d : Dev) (n : Nat) (c : Hop) : (d.setHop n c).lanes = d.lanes := rfl
@[simp] theorem Dev.setHop_grants (d : Dev) (n : Nat) (c : Hop) : (d.setHop n c).grants = d.grants := rfl
@[simp] theorem Dev.setHop_chan (d : Dev) (n : Nat) (c : Hop) : (d.setHop n c).chan = d.chan := rfl
@[simp] theorem Dev.setHop_life (d : Dev) (n : Nat) (c : Hop) : (d.setHop n c).life = d.life := rfl
@[simp] theorem Dev.setHop_grp (d : Dev) (n : Nat) (c : Hop) : (d.setHop n c).grp = d.grp := rfl
@[simp] theorem Dev.setHop_sg (d : Dev) (n : Nat) (c : Hop) : (d.setHop n c).sg = d.sg := rfl
@[simp] theorem Dev.setHop_silentEntered (d : Dev) (n : Nat) (c : Hop) : (d.setHop n c).silentEntered = d.silentEntered := rfl
@[simp] theorem Dev.setHop_pe (d : Dev) (n : Nat) (c : Hop) : (d.setHop n c).pe = d.pe := rfl
@[simp] theorem Dev.setHop_gw (d : Dev) (n : Nat) (c : Hop) : (d.setHop n c).gw = d.gw := rfl
@[simp] theorem Dev.setHop_mx (d : Dev) (n : Nat) (c : Hop) : (d.setHop n c).mx = d.mx := rfl
@[simp] theorem Dev.setHop_fin (d : Dev) (n : Nat) (c : Hop) : (d.setHop n c).fin = d.fin := rfl
@[simp] theorem Dev.setHop_cfg (d : Dev) (n : Nat) (c : Hop) : (d.setHop n c).cfg = d.cfg := rfl
@[simp] theorem Dev.setHop_guard (d : Dev) (n : Nat) (c : Hop) : (d.setHop n c).guard = d.guard := rfl
@[simp] theorem Dev.setHop_power (d : Dev) (n : Nat) (c : Hop) : (d.setHop n c).power = d.power := rfl
@[simp] theorem Dev.setHop_admin (d : Dev) (n : Nat) (c : Hop) : (d.setHop n c).admin = d.admin := rfl
@[simp] theorem Dev.setHop_test (d : Dev) (n : Nat) (c : Hop) : (d.setHop n c).test = d.test := rfl
@[simp] theorem Dev.setHop_replay (d : Dev) (n : Nat) (c : Hop) : (d.setHop n c).replay = d.replay := rfl
@[simp] theorem Dev.setHop_val (d : Dev) (n : Nat) (c : Hop) (k : Nat) : (d.setHop n c).val k = d.val k := rfl
@[simp] theorem Dev.setHop_num (d : Dev) (n : Nat) (c : Hop) (k : Nat) : (d.setHop n c).num k = d.num k := rfl
@[simp] theorem Dev.setHop_nat (d : Dev) (n : Nat) (c : Hop) (k : Nat) : (d.setHop n c).nat k = d.nat k := rfl
@[simp] theorem Dev.setHop_bytesOf (d : Dev) (n : Nat) (c : Hop) (k : Nat) : (d.setHop n c).bytesOf k = d.bytesOf k := rfl
@[simp] theorem Dev.setHop_ch (d : Dev) (n : Nat) (c : Hop) (m : Nat) : (d.setHop n c).ch m = d.ch m := rfl
@[simp] theorem Dev.setHop_lf (d : Dev) (n : Nat) (c : Hop) (m : Nat) : (d.setHop n c).lf m = d.lf m := rfl
@[simp] theorem Dev.setHop_gr (d : Dev) (n : Nat) (c : Hop) (m : Nat) : (d.setHop n c).gr m = d.gr m := rfl
@[simp] theorem Dev.setHop_sgp (d : Dev) (n : Nat) (c : Hop) (m : Nat) : (d.setHop n c).sgp m = d.sgp m := rfl
@[simp] theorem Dev.setHop_eng (d : Dev) (n : Nat) (c : Hop) (m : Nat) : (d.setHop n c).eng m = d.eng m := rfl
@[simp] theorem Dev.setHop_port (d : Dev) (n : Nat) (c : Hop) (m : Nat) : (d.setHop n c).port m = d.port m := rfl
@[simp] theorem Dev.setHop_fi (d : Dev) (n : Nat) (c : Hop) (m : Nat) : (d.setHop n c).fi m = d.fi m := rfl
@[simp] theorem Dev.setHop_ln (d : Dev) (n : Nat) (c : Hop) (m : Nat) : (d.setHop n c).ln m = d.ln m := rfl
@[simp] theorem Dev.setHop_cl (d : Dev) (n : Nat) (c : Hop) (m : Nat) : (d.setHop n c).cl m = d.cl m := rfl
@[simp] theorem Dev.setHop_fg (d : Dev) (n : Nat) (c : Hop) (m : Nat) : (d.setHop n c).fg m = d.fg m := rfl
@[simp] theorem Dev.setHop_pos (d : Dev) (n : Nat) (c : Hop) (m : Nat) : (d.setHop n c).pos m = d.pos m := rfl
@[simp] theorem Dev.setHop_slot (d : Dev) (n : Nat) (c : Hop) (m : Nat) : (d.setHop n c).slot m = d.slot m := rfl
@[simp] theorem Dev.setHop_gate (d : Dev) (n : Nat) (c : Hop) (m : Nat) : (d.setHop n c).gate m = d.gate m := rfl
@[simp] theorem Dev.setHop_iso (d : Dev) (n : Nat) (c : Hop) (m : Nat) : (d.setHop n c).iso m = d.iso m := rfl
@[simp] theorem Dev.setHop_hop_same (d : Dev) (n : Nat) (c : Hop) : (d.setHop n c).hop n = c := by
  simp [Dev.setHop, Dev.hop]
@[simp] theorem Dev.setHop_hop_ne (d : Dev) {n m : Nat} (c : Hop) (h : m ≠ n) : (d.setHop n c).hop m = d.hop m := by
  simp [Dev.setHop, Dev.hop, h]
@[simp] theorem Dev.setPos_now (d : Dev) (n : Nat) (c : Pos) : (d.setPos n c).now = d.now := rfl
@[simp] theorem Dev.setPos_ticks (d : Dev) (n : Nat) (c : Pos) : (d.setPos n c).ticks = d.ticks := rfl
@[simp] theorem Dev.setPos_op (d : Dev) (n : Nat) (c : Pos) : (d.setPos n c).op = d.op := rfl
@[simp] theorem Dev.setPos_lc (d : Dev) (n : Nat) (c : Pos) : (d.setPos n c).lc = d.lc := rfl
@[simp] theorem Dev.setPos_dict (d : Dev) (n : Nat) (c : Pos) : (d.setPos n c).dict = d.dict := rfl
@[simp] theorem Dev.setPos_banked (d : Dev) (n : Nat) (c : Pos) : (d.setPos n c).banked = d.banked := rfl
@[simp] theorem Dev.setPos_staged (d : Dev) (n : Nat) (c : Pos) : (d.setPos n c).staged = d.staged := rfl
@[simp] theorem Dev.setPos_sent (d : Dev) (n : Nat) (c : Pos) : (d.setPos n c).sent = d.sent := rfl
@[simp] theorem Dev.setPos_digests (d : Dev) (n : Nat) (c : Pos) : (d.setPos n c).digests = d.digests := rfl
@[simp] theorem Dev.setPos_asks (d : Dev) (n : Nat) (c : Pos) : (d.setPos n c).asks = d.asks := rfl
@[simp] theorem Dev.setPos_waiters (d : Dev) (n : Nat) (c : Pos) : (d.setPos n c).waiters = d.waiters := rfl
@[simp] theorem Dev.setPos_freeCount (d : Dev) (n : Nat) (c : Pos) : (d.setPos n c).freeCount = d.freeCount := rfl
@[simp] theorem Dev.setPos_outs (d : Dev) (n : Nat) (c : Pos) : (d.setPos n c).outs = d.outs := rfl
@[simp] theorem Dev.setPos_ins (d : Dev) (n : Nat) (c : Pos) : (d.setPos n c).ins = d.ins := rfl
@[simp] theorem Dev.setPos_rep (d : Dev) (n : Nat) (c : Pos) : (d.setPos n c).rep = d.rep := rfl
@[simp] theorem Dev.setPos_jnl (d : Dev) (n : Nat) (c : Pos) : (d.setPos n c).jnl = d.jnl := rfl
@[simp] theorem Dev.setPos_ember (d : Dev) (n : Nat) (c : Pos) : (d.setPos n c).ember = d.ember := rfl
@[simp] theorem Dev.setPos_lanes (d : Dev) (n : Nat) (c : Pos) : (d.setPos n c).lanes = d.lanes := rfl
@[simp] theorem Dev.setPos_grants (d : Dev) (n : Nat) (c : Pos) : (d.setPos n c).grants = d.grants := rfl
@[simp] theorem Dev.setPos_chan (d : Dev) (n : Nat) (c : Pos) : (d.setPos n c).chan = d.chan := rfl
@[simp] theorem Dev.setPos_life (d : Dev) (n : Nat) (c : Pos) : (d.setPos n c).life = d.life := rfl
@[simp] theorem Dev.setPos_grp (d : Dev) (n : Nat) (c : Pos) : (d.setPos n c).grp = d.grp := rfl
@[simp] theorem Dev.setPos_sg (d : Dev) (n : Nat) (c : Pos) : (d.setPos n c).sg = d.sg := rfl
@[simp] theorem Dev.setPos_silentEntered (d : Dev) (n : Nat) (c : Pos) : (d.setPos n c).silentEntered = d.silentEntered := rfl
@[simp] theorem Dev.setPos_pe (d : Dev) (n : Nat) (c : Pos) : (d.setPos n c).pe = d.pe := rfl
@[simp] theorem Dev.setPos_gw (d : Dev) (n : Nat) (c : Pos) : (d.setPos n c).gw = d.gw := rfl
@[simp] theorem Dev.setPos_mx (d : Dev) (n : Nat) (c : Pos) : (d.setPos n c).mx = d.mx := rfl
@[simp] theorem Dev.setPos_fin (d : Dev) (n : Nat) (c : Pos) : (d.setPos n c).fin = d.fin := rfl
@[simp] theorem Dev.setPos_cfg (d : Dev) (n : Nat) (c : Pos) : (d.setPos n c).cfg = d.cfg := rfl
@[simp] theorem Dev.setPos_guard (d : Dev) (n : Nat) (c : Pos) : (d.setPos n c).guard = d.guard := rfl
@[simp] theorem Dev.setPos_power (d : Dev) (n : Nat) (c : Pos) : (d.setPos n c).power = d.power := rfl
@[simp] theorem Dev.setPos_admin (d : Dev) (n : Nat) (c : Pos) : (d.setPos n c).admin = d.admin := rfl
@[simp] theorem Dev.setPos_test (d : Dev) (n : Nat) (c : Pos) : (d.setPos n c).test = d.test := rfl
@[simp] theorem Dev.setPos_replay (d : Dev) (n : Nat) (c : Pos) : (d.setPos n c).replay = d.replay := rfl
@[simp] theorem Dev.setPos_val (d : Dev) (n : Nat) (c : Pos) (k : Nat) : (d.setPos n c).val k = d.val k := rfl
@[simp] theorem Dev.setPos_num (d : Dev) (n : Nat) (c : Pos) (k : Nat) : (d.setPos n c).num k = d.num k := rfl
@[simp] theorem Dev.setPos_nat (d : Dev) (n : Nat) (c : Pos) (k : Nat) : (d.setPos n c).nat k = d.nat k := rfl
@[simp] theorem Dev.setPos_bytesOf (d : Dev) (n : Nat) (c : Pos) (k : Nat) : (d.setPos n c).bytesOf k = d.bytesOf k := rfl
@[simp] theorem Dev.setPos_ch (d : Dev) (n : Nat) (c : Pos) (m : Nat) : (d.setPos n c).ch m = d.ch m := rfl
@[simp] theorem Dev.setPos_lf (d : Dev) (n : Nat) (c : Pos) (m : Nat) : (d.setPos n c).lf m = d.lf m := rfl
@[simp] theorem Dev.setPos_gr (d : Dev) (n : Nat) (c : Pos) (m : Nat) : (d.setPos n c).gr m = d.gr m := rfl
@[simp] theorem Dev.setPos_sgp (d : Dev) (n : Nat) (c : Pos) (m : Nat) : (d.setPos n c).sgp m = d.sgp m := rfl
@[simp] theorem Dev.setPos_eng (d : Dev) (n : Nat) (c : Pos) (m : Nat) : (d.setPos n c).eng m = d.eng m := rfl
@[simp] theorem Dev.setPos_port (d : Dev) (n : Nat) (c : Pos) (m : Nat) : (d.setPos n c).port m = d.port m := rfl
@[simp] theorem Dev.setPos_fi (d : Dev) (n : Nat) (c : Pos) (m : Nat) : (d.setPos n c).fi m = d.fi m := rfl
@[simp] theorem Dev.setPos_ln (d : Dev) (n : Nat) (c : Pos) (m : Nat) : (d.setPos n c).ln m = d.ln m := rfl
@[simp] theorem Dev.setPos_cl (d : Dev) (n : Nat) (c : Pos) (m : Nat) : (d.setPos n c).cl m = d.cl m := rfl
@[simp] theorem Dev.setPos_fg (d : Dev) (n : Nat) (c : Pos) (m : Nat) : (d.setPos n c).fg m = d.fg m := rfl
@[simp] theorem Dev.setPos_hop (d : Dev) (n : Nat) (c : Pos) (m : Nat) : (d.setPos n c).hop m = d.hop m := rfl
@[simp] theorem Dev.setPos_slot (d : Dev) (n : Nat) (c : Pos) (m : Nat) : (d.setPos n c).slot m = d.slot m := rfl
@[simp] theorem Dev.setPos_gate (d : Dev) (n : Nat) (c : Pos) (m : Nat) : (d.setPos n c).gate m = d.gate m := rfl
@[simp] theorem Dev.setPos_iso (d : Dev) (n : Nat) (c : Pos) (m : Nat) : (d.setPos n c).iso m = d.iso m := rfl
@[simp] theorem Dev.setPos_pos_same (d : Dev) (n : Nat) (c : Pos) : (d.setPos n c).pos n = c := by
  simp [Dev.setPos, Dev.pos]
@[simp] theorem Dev.setPos_pos_ne (d : Dev) {n m : Nat} (c : Pos) (h : m ≠ n) : (d.setPos n c).pos m = d.pos m := by
  simp [Dev.setPos, Dev.pos, h]
@[simp] theorem Dev.setSlot_now (d : Dev) (n : Nat) (c : Slot) : (d.setSlot n c).now = d.now := rfl
@[simp] theorem Dev.setSlot_ticks (d : Dev) (n : Nat) (c : Slot) : (d.setSlot n c).ticks = d.ticks := rfl
@[simp] theorem Dev.setSlot_op (d : Dev) (n : Nat) (c : Slot) : (d.setSlot n c).op = d.op := rfl
@[simp] theorem Dev.setSlot_lc (d : Dev) (n : Nat) (c : Slot) : (d.setSlot n c).lc = d.lc := rfl
@[simp] theorem Dev.setSlot_dict (d : Dev) (n : Nat) (c : Slot) : (d.setSlot n c).dict = d.dict := rfl
@[simp] theorem Dev.setSlot_banked (d : Dev) (n : Nat) (c : Slot) : (d.setSlot n c).banked = d.banked := rfl
@[simp] theorem Dev.setSlot_staged (d : Dev) (n : Nat) (c : Slot) : (d.setSlot n c).staged = d.staged := rfl
@[simp] theorem Dev.setSlot_sent (d : Dev) (n : Nat) (c : Slot) : (d.setSlot n c).sent = d.sent := rfl
@[simp] theorem Dev.setSlot_digests (d : Dev) (n : Nat) (c : Slot) : (d.setSlot n c).digests = d.digests := rfl
@[simp] theorem Dev.setSlot_asks (d : Dev) (n : Nat) (c : Slot) : (d.setSlot n c).asks = d.asks := rfl
@[simp] theorem Dev.setSlot_waiters (d : Dev) (n : Nat) (c : Slot) : (d.setSlot n c).waiters = d.waiters := rfl
@[simp] theorem Dev.setSlot_freeCount (d : Dev) (n : Nat) (c : Slot) : (d.setSlot n c).freeCount = d.freeCount := rfl
@[simp] theorem Dev.setSlot_outs (d : Dev) (n : Nat) (c : Slot) : (d.setSlot n c).outs = d.outs := rfl
@[simp] theorem Dev.setSlot_ins (d : Dev) (n : Nat) (c : Slot) : (d.setSlot n c).ins = d.ins := rfl
@[simp] theorem Dev.setSlot_rep (d : Dev) (n : Nat) (c : Slot) : (d.setSlot n c).rep = d.rep := rfl
@[simp] theorem Dev.setSlot_jnl (d : Dev) (n : Nat) (c : Slot) : (d.setSlot n c).jnl = d.jnl := rfl
@[simp] theorem Dev.setSlot_ember (d : Dev) (n : Nat) (c : Slot) : (d.setSlot n c).ember = d.ember := rfl
@[simp] theorem Dev.setSlot_lanes (d : Dev) (n : Nat) (c : Slot) : (d.setSlot n c).lanes = d.lanes := rfl
@[simp] theorem Dev.setSlot_grants (d : Dev) (n : Nat) (c : Slot) : (d.setSlot n c).grants = d.grants := rfl
@[simp] theorem Dev.setSlot_chan (d : Dev) (n : Nat) (c : Slot) : (d.setSlot n c).chan = d.chan := rfl
@[simp] theorem Dev.setSlot_life (d : Dev) (n : Nat) (c : Slot) : (d.setSlot n c).life = d.life := rfl
@[simp] theorem Dev.setSlot_grp (d : Dev) (n : Nat) (c : Slot) : (d.setSlot n c).grp = d.grp := rfl
@[simp] theorem Dev.setSlot_sg (d : Dev) (n : Nat) (c : Slot) : (d.setSlot n c).sg = d.sg := rfl
@[simp] theorem Dev.setSlot_silentEntered (d : Dev) (n : Nat) (c : Slot) : (d.setSlot n c).silentEntered = d.silentEntered := rfl
@[simp] theorem Dev.setSlot_pe (d : Dev) (n : Nat) (c : Slot) : (d.setSlot n c).pe = d.pe := rfl
@[simp] theorem Dev.setSlot_gw (d : Dev) (n : Nat) (c : Slot) : (d.setSlot n c).gw = d.gw := rfl
@[simp] theorem Dev.setSlot_mx (d : Dev) (n : Nat) (c : Slot) : (d.setSlot n c).mx = d.mx := rfl
@[simp] theorem Dev.setSlot_fin (d : Dev) (n : Nat) (c : Slot) : (d.setSlot n c).fin = d.fin := rfl
@[simp] theorem Dev.setSlot_ring (d : Dev) (n : Nat) (c : Slot) : (d.setSlot n c).ring = d.ring := rfl
@[simp] theorem Dev.setSlot_cfg (d : Dev) (n : Nat) (c : Slot) : (d.setSlot n c).cfg = d.cfg := rfl
@[simp] theorem Dev.setSlot_guard (d : Dev) (n : Nat) (c : Slot) : (d.setSlot n c).guard = d.guard := rfl
@[simp] theorem Dev.setSlot_power (d : Dev) (n : Nat) (c : Slot) : (d.setSlot n c).power = d.power := rfl
@[simp] theorem Dev.setSlot_test (d : Dev) (n : Nat) (c : Slot) : (d.setSlot n c).test = d.test := rfl
@[simp] theorem Dev.setSlot_replay (d : Dev) (n : Nat) (c : Slot) : (d.setSlot n c).replay = d.replay := rfl
@[simp] theorem Dev.setSlot_val (d : Dev) (n : Nat) (c : Slot) (k : Nat) : (d.setSlot n c).val k = d.val k := rfl
@[simp] theorem Dev.setSlot_num (d : Dev) (n : Nat) (c : Slot) (k : Nat) : (d.setSlot n c).num k = d.num k := rfl
@[simp] theorem Dev.setSlot_nat (d : Dev) (n : Nat) (c : Slot) (k : Nat) : (d.setSlot n c).nat k = d.nat k := rfl
@[simp] theorem Dev.setSlot_bytesOf (d : Dev) (n : Nat) (c : Slot) (k : Nat) : (d.setSlot n c).bytesOf k = d.bytesOf k := rfl
@[simp] theorem Dev.setSlot_ch (d : Dev) (n : Nat) (c : Slot) (m : Nat) : (d.setSlot n c).ch m = d.ch m := rfl
@[simp] theorem Dev.setSlot_lf (d : Dev) (n : Nat) (c : Slot) (m : Nat) : (d.setSlot n c).lf m = d.lf m := rfl
@[simp] theorem Dev.setSlot_gr (d : Dev) (n : Nat) (c : Slot) (m : Nat) : (d.setSlot n c).gr m = d.gr m := rfl
@[simp] theorem Dev.setSlot_sgp (d : Dev) (n : Nat) (c : Slot) (m : Nat) : (d.setSlot n c).sgp m = d.sgp m := rfl
@[simp] theorem Dev.setSlot_eng (d : Dev) (n : Nat) (c : Slot) (m : Nat) : (d.setSlot n c).eng m = d.eng m := rfl
@[simp] theorem Dev.setSlot_port (d : Dev) (n : Nat) (c : Slot) (m : Nat) : (d.setSlot n c).port m = d.port m := rfl
@[simp] theorem Dev.setSlot_fi (d : Dev) (n : Nat) (c : Slot) (m : Nat) : (d.setSlot n c).fi m = d.fi m := rfl
@[simp] theorem Dev.setSlot_ln (d : Dev) (n : Nat) (c : Slot) (m : Nat) : (d.setSlot n c).ln m = d.ln m := rfl
@[simp] theorem Dev.setSlot_cl (d : Dev) (n : Nat) (c : Slot) (m : Nat) : (d.setSlot n c).cl m = d.cl m := rfl
@[simp] theorem Dev.setSlot_fg (d : Dev) (n : Nat) (c : Slot) (m : Nat) : (d.setSlot n c).fg m = d.fg m := rfl
@[simp] theorem Dev.setSlot_hop (d : Dev) (n : Nat) (c : Slot) (m : Nat) : (d.setSlot n c).hop m = d.hop m := rfl
@[simp] theorem Dev.setSlot_pos (d : Dev) (n : Nat) (c : Slot) (m : Nat) : (d.setSlot n c).pos m = d.pos m := rfl
@[simp] theorem Dev.setSlot_gate (d : Dev) (n : Nat) (c : Slot) (m : Nat) : (d.setSlot n c).gate m = d.gate m := rfl
@[simp] theorem Dev.setSlot_iso (d : Dev) (n : Nat) (c : Slot) (m : Nat) : (d.setSlot n c).iso m = d.iso m := rfl
@[simp] theorem Dev.setSlot_slot_same (d : Dev) (n : Nat) (c : Slot) : (d.setSlot n c).slot n = c := by
  simp [Dev.setSlot, Dev.slot]
@[simp] theorem Dev.setSlot_slot_ne (d : Dev) {n m : Nat} (c : Slot) (h : m ≠ n) : (d.setSlot n c).slot m = d.slot m := by
  simp [Dev.setSlot, Dev.slot, h]
@[simp] theorem Dev.setGate_now (d : Dev) (n : Nat) (c : GateLevel) : (d.setGate n c).now = d.now := rfl
@[simp] theorem Dev.setGate_ticks (d : Dev) (n : Nat) (c : GateLevel) : (d.setGate n c).ticks = d.ticks := rfl
@[simp] theorem Dev.setGate_op (d : Dev) (n : Nat) (c : GateLevel) : (d.setGate n c).op = d.op := rfl
@[simp] theorem Dev.setGate_lc (d : Dev) (n : Nat) (c : GateLevel) : (d.setGate n c).lc = d.lc := rfl
@[simp] theorem Dev.setGate_dict (d : Dev) (n : Nat) (c : GateLevel) : (d.setGate n c).dict = d.dict := rfl
@[simp] theorem Dev.setGate_banked (d : Dev) (n : Nat) (c : GateLevel) : (d.setGate n c).banked = d.banked := rfl
@[simp] theorem Dev.setGate_staged (d : Dev) (n : Nat) (c : GateLevel) : (d.setGate n c).staged = d.staged := rfl
@[simp] theorem Dev.setGate_sent (d : Dev) (n : Nat) (c : GateLevel) : (d.setGate n c).sent = d.sent := rfl
@[simp] theorem Dev.setGate_digests (d : Dev) (n : Nat) (c : GateLevel) : (d.setGate n c).digests = d.digests := rfl
@[simp] theorem Dev.setGate_asks (d : Dev) (n : Nat) (c : GateLevel) : (d.setGate n c).asks = d.asks := rfl
@[simp] theorem Dev.setGate_waiters (d : Dev) (n : Nat) (c : GateLevel) : (d.setGate n c).waiters = d.waiters := rfl
@[simp] theorem Dev.setGate_freeCount (d : Dev) (n : Nat) (c : GateLevel) : (d.setGate n c).freeCount = d.freeCount := rfl
@[simp] theorem Dev.setGate_ins (d : Dev) (n : Nat) (c : GateLevel) : (d.setGate n c).ins = d.ins := rfl
@[simp] theorem Dev.setGate_rep (d : Dev) (n : Nat) (c : GateLevel) : (d.setGate n c).rep = d.rep := rfl
@[simp] theorem Dev.setGate_jnl (d : Dev) (n : Nat) (c : GateLevel) : (d.setGate n c).jnl = d.jnl := rfl
@[simp] theorem Dev.setGate_ember (d : Dev) (n : Nat) (c : GateLevel) : (d.setGate n c).ember = d.ember := rfl
@[simp] theorem Dev.setGate_lanes (d : Dev) (n : Nat) (c : GateLevel) : (d.setGate n c).lanes = d.lanes := rfl
@[simp] theorem Dev.setGate_grants (d : Dev) (n : Nat) (c : GateLevel) : (d.setGate n c).grants = d.grants := rfl
@[simp] theorem Dev.setGate_chan (d : Dev) (n : Nat) (c : GateLevel) : (d.setGate n c).chan = d.chan := rfl
@[simp] theorem Dev.setGate_life (d : Dev) (n : Nat) (c : GateLevel) : (d.setGate n c).life = d.life := rfl
@[simp] theorem Dev.setGate_grp (d : Dev) (n : Nat) (c : GateLevel) : (d.setGate n c).grp = d.grp := rfl
@[simp] theorem Dev.setGate_sg (d : Dev) (n : Nat) (c : GateLevel) : (d.setGate n c).sg = d.sg := rfl
@[simp] theorem Dev.setGate_silentEntered (d : Dev) (n : Nat) (c : GateLevel) : (d.setGate n c).silentEntered = d.silentEntered := rfl
@[simp] theorem Dev.setGate_pe (d : Dev) (n : Nat) (c : GateLevel) : (d.setGate n c).pe = d.pe := rfl
@[simp] theorem Dev.setGate_gw (d : Dev) (n : Nat) (c : GateLevel) : (d.setGate n c).gw = d.gw := rfl
@[simp] theorem Dev.setGate_mx (d : Dev) (n : Nat) (c : GateLevel) : (d.setGate n c).mx = d.mx := rfl
@[simp] theorem Dev.setGate_fin (d : Dev) (n : Nat) (c : GateLevel) : (d.setGate n c).fin = d.fin := rfl
@[simp] theorem Dev.setGate_ring (d : Dev) (n : Nat) (c : GateLevel) : (d.setGate n c).ring = d.ring := rfl
@[simp] theorem Dev.setGate_cfg (d : Dev) (n : Nat) (c : GateLevel) : (d.setGate n c).cfg = d.cfg := rfl
@[simp] theorem Dev.setGate_guard (d : Dev) (n : Nat) (c : GateLevel) : (d.setGate n c).guard = d.guard := rfl
@[simp] theorem Dev.setGate_power (d : Dev) (n : Nat) (c : GateLevel) : (d.setGate n c).power = d.power := rfl
@[simp] theorem Dev.setGate_admin (d : Dev) (n : Nat) (c : GateLevel) : (d.setGate n c).admin = d.admin := rfl
@[simp] theorem Dev.setGate_test (d : Dev) (n : Nat) (c : GateLevel) : (d.setGate n c).test = d.test := rfl
@[simp] theorem Dev.setGate_replay (d : Dev) (n : Nat) (c : GateLevel) : (d.setGate n c).replay = d.replay := rfl
@[simp] theorem Dev.setGate_val (d : Dev) (n : Nat) (c : GateLevel) (k : Nat) : (d.setGate n c).val k = d.val k := rfl
@[simp] theorem Dev.setGate_num (d : Dev) (n : Nat) (c : GateLevel) (k : Nat) : (d.setGate n c).num k = d.num k := rfl
@[simp] theorem Dev.setGate_nat (d : Dev) (n : Nat) (c : GateLevel) (k : Nat) : (d.setGate n c).nat k = d.nat k := rfl
@[simp] theorem Dev.setGate_bytesOf (d : Dev) (n : Nat) (c : GateLevel) (k : Nat) : (d.setGate n c).bytesOf k = d.bytesOf k := rfl
@[simp] theorem Dev.setGate_ch (d : Dev) (n : Nat) (c : GateLevel) (m : Nat) : (d.setGate n c).ch m = d.ch m := rfl
@[simp] theorem Dev.setGate_lf (d : Dev) (n : Nat) (c : GateLevel) (m : Nat) : (d.setGate n c).lf m = d.lf m := rfl
@[simp] theorem Dev.setGate_gr (d : Dev) (n : Nat) (c : GateLevel) (m : Nat) : (d.setGate n c).gr m = d.gr m := rfl
@[simp] theorem Dev.setGate_sgp (d : Dev) (n : Nat) (c : GateLevel) (m : Nat) : (d.setGate n c).sgp m = d.sgp m := rfl
@[simp] theorem Dev.setGate_eng (d : Dev) (n : Nat) (c : GateLevel) (m : Nat) : (d.setGate n c).eng m = d.eng m := rfl
@[simp] theorem Dev.setGate_port (d : Dev) (n : Nat) (c : GateLevel) (m : Nat) : (d.setGate n c).port m = d.port m := rfl
@[simp] theorem Dev.setGate_fi (d : Dev) (n : Nat) (c : GateLevel) (m : Nat) : (d.setGate n c).fi m = d.fi m := rfl
@[simp] theorem Dev.setGate_ln (d : Dev) (n : Nat) (c : GateLevel) (m : Nat) : (d.setGate n c).ln m = d.ln m := rfl
@[simp] theorem Dev.setGate_cl (d : Dev) (n : Nat) (c : GateLevel) (m : Nat) : (d.setGate n c).cl m = d.cl m := rfl
@[simp] theorem Dev.setGate_fg (d : Dev) (n : Nat) (c : GateLevel) (m : Nat) : (d.setGate n c).fg m = d.fg m := rfl
@[simp] theorem Dev.setGate_hop (d : Dev) (n : Nat) (c : GateLevel) (m : Nat) : (d.setGate n c).hop m = d.hop m := rfl
@[simp] theorem Dev.setGate_pos (d : Dev) (n : Nat) (c : GateLevel) (m : Nat) : (d.setGate n c).pos m = d.pos m := rfl
@[simp] theorem Dev.setGate_slot (d : Dev) (n : Nat) (c : GateLevel) (m : Nat) : (d.setGate n c).slot m = d.slot m := rfl
@[simp] theorem Dev.setGate_iso (d : Dev) (n : Nat) (c : GateLevel) (m : Nat) : (d.setGate n c).iso m = d.iso m := rfl
@[simp] theorem Dev.setGate_gate_same (d : Dev) (n : Nat) (c : GateLevel) : (d.setGate n c).gate n = c := by
  simp [Dev.setGate, Dev.gate]
@[simp] theorem Dev.setGate_gate_ne (d : Dev) {n m : Nat} (c : GateLevel) (h : m ≠ n) : (d.setGate n c).gate m = d.gate m := by
  simp [Dev.setGate, Dev.gate, h]
@[simp] theorem Dev.setIso_now (d : Dev) (n : Nat) (c : Tri) : (d.setIso n c).now = d.now := rfl
@[simp] theorem Dev.setIso_ticks (d : Dev) (n : Nat) (c : Tri) : (d.setIso n c).ticks = d.ticks := rfl
@[simp] theorem Dev.setIso_op (d : Dev) (n : Nat) (c : Tri) : (d.setIso n c).op = d.op := rfl
@[simp] theorem Dev.setIso_lc (d : Dev) (n : Nat) (c : Tri) : (d.setIso n c).lc = d.lc := rfl
@[simp] theorem Dev.setIso_dict (d : Dev) (n : Nat) (c : Tri) : (d.setIso n c).dict = d.dict := rfl
@[simp] theorem Dev.setIso_banked (d : Dev) (n : Nat) (c : Tri) : (d.setIso n c).banked = d.banked := rfl
@[simp] theorem Dev.setIso_staged (d : Dev) (n : Nat) (c : Tri) : (d.setIso n c).staged = d.staged := rfl
@[simp] theorem Dev.setIso_sent (d : Dev) (n : Nat) (c : Tri) : (d.setIso n c).sent = d.sent := rfl
@[simp] theorem Dev.setIso_digests (d : Dev) (n : Nat) (c : Tri) : (d.setIso n c).digests = d.digests := rfl
@[simp] theorem Dev.setIso_asks (d : Dev) (n : Nat) (c : Tri) : (d.setIso n c).asks = d.asks := rfl
@[simp] theorem Dev.setIso_waiters (d : Dev) (n : Nat) (c : Tri) : (d.setIso n c).waiters = d.waiters := rfl
@[simp] theorem Dev.setIso_freeCount (d : Dev) (n : Nat) (c : Tri) : (d.setIso n c).freeCount = d.freeCount := rfl
@[simp] theorem Dev.setIso_ins (d : Dev) (n : Nat) (c : Tri) : (d.setIso n c).ins = d.ins := rfl
@[simp] theorem Dev.setIso_rep (d : Dev) (n : Nat) (c : Tri) : (d.setIso n c).rep = d.rep := rfl
@[simp] theorem Dev.setIso_jnl (d : Dev) (n : Nat) (c : Tri) : (d.setIso n c).jnl = d.jnl := rfl
@[simp] theorem Dev.setIso_ember (d : Dev) (n : Nat) (c : Tri) : (d.setIso n c).ember = d.ember := rfl
@[simp] theorem Dev.setIso_lanes (d : Dev) (n : Nat) (c : Tri) : (d.setIso n c).lanes = d.lanes := rfl
@[simp] theorem Dev.setIso_grants (d : Dev) (n : Nat) (c : Tri) : (d.setIso n c).grants = d.grants := rfl
@[simp] theorem Dev.setIso_chan (d : Dev) (n : Nat) (c : Tri) : (d.setIso n c).chan = d.chan := rfl
@[simp] theorem Dev.setIso_life (d : Dev) (n : Nat) (c : Tri) : (d.setIso n c).life = d.life := rfl
@[simp] theorem Dev.setIso_grp (d : Dev) (n : Nat) (c : Tri) : (d.setIso n c).grp = d.grp := rfl
@[simp] theorem Dev.setIso_sg (d : Dev) (n : Nat) (c : Tri) : (d.setIso n c).sg = d.sg := rfl
@[simp] theorem Dev.setIso_silentEntered (d : Dev) (n : Nat) (c : Tri) : (d.setIso n c).silentEntered = d.silentEntered := rfl
@[simp] theorem Dev.setIso_pe (d : Dev) (n : Nat) (c : Tri) : (d.setIso n c).pe = d.pe := rfl
@[simp] theorem Dev.setIso_gw (d : Dev) (n : Nat) (c : Tri) : (d.setIso n c).gw = d.gw := rfl
@[simp] theorem Dev.setIso_mx (d : Dev) (n : Nat) (c : Tri) : (d.setIso n c).mx = d.mx := rfl
@[simp] theorem Dev.setIso_fin (d : Dev) (n : Nat) (c : Tri) : (d.setIso n c).fin = d.fin := rfl
@[simp] theorem Dev.setIso_ring (d : Dev) (n : Nat) (c : Tri) : (d.setIso n c).ring = d.ring := rfl
@[simp] theorem Dev.setIso_cfg (d : Dev) (n : Nat) (c : Tri) : (d.setIso n c).cfg = d.cfg := rfl
@[simp] theorem Dev.setIso_guard (d : Dev) (n : Nat) (c : Tri) : (d.setIso n c).guard = d.guard := rfl
@[simp] theorem Dev.setIso_power (d : Dev) (n : Nat) (c : Tri) : (d.setIso n c).power = d.power := rfl
@[simp] theorem Dev.setIso_admin (d : Dev) (n : Nat) (c : Tri) : (d.setIso n c).admin = d.admin := rfl
@[simp] theorem Dev.setIso_test (d : Dev) (n : Nat) (c : Tri) : (d.setIso n c).test = d.test := rfl
@[simp] theorem Dev.setIso_replay (d : Dev) (n : Nat) (c : Tri) : (d.setIso n c).replay = d.replay := rfl
@[simp] theorem Dev.setIso_val (d : Dev) (n : Nat) (c : Tri) (k : Nat) : (d.setIso n c).val k = d.val k := rfl
@[simp] theorem Dev.setIso_num (d : Dev) (n : Nat) (c : Tri) (k : Nat) : (d.setIso n c).num k = d.num k := rfl
@[simp] theorem Dev.setIso_nat (d : Dev) (n : Nat) (c : Tri) (k : Nat) : (d.setIso n c).nat k = d.nat k := rfl
@[simp] theorem Dev.setIso_bytesOf (d : Dev) (n : Nat) (c : Tri) (k : Nat) : (d.setIso n c).bytesOf k = d.bytesOf k := rfl
@[simp] theorem Dev.setIso_ch (d : Dev) (n : Nat) (c : Tri) (m : Nat) : (d.setIso n c).ch m = d.ch m := rfl
@[simp] theorem Dev.setIso_lf (d : Dev) (n : Nat) (c : Tri) (m : Nat) : (d.setIso n c).lf m = d.lf m := rfl
@[simp] theorem Dev.setIso_gr (d : Dev) (n : Nat) (c : Tri) (m : Nat) : (d.setIso n c).gr m = d.gr m := rfl
@[simp] theorem Dev.setIso_sgp (d : Dev) (n : Nat) (c : Tri) (m : Nat) : (d.setIso n c).sgp m = d.sgp m := rfl
@[simp] theorem Dev.setIso_eng (d : Dev) (n : Nat) (c : Tri) (m : Nat) : (d.setIso n c).eng m = d.eng m := rfl
@[simp] theorem Dev.setIso_port (d : Dev) (n : Nat) (c : Tri) (m : Nat) : (d.setIso n c).port m = d.port m := rfl
@[simp] theorem Dev.setIso_fi (d : Dev) (n : Nat) (c : Tri) (m : Nat) : (d.setIso n c).fi m = d.fi m := rfl
@[simp] theorem Dev.setIso_ln (d : Dev) (n : Nat) (c : Tri) (m : Nat) : (d.setIso n c).ln m = d.ln m := rfl
@[simp] theorem Dev.setIso_cl (d : Dev) (n : Nat) (c : Tri) (m : Nat) : (d.setIso n c).cl m = d.cl m := rfl
@[simp] theorem Dev.setIso_fg (d : Dev) (n : Nat) (c : Tri) (m : Nat) : (d.setIso n c).fg m = d.fg m := rfl
@[simp] theorem Dev.setIso_hop (d : Dev) (n : Nat) (c : Tri) (m : Nat) : (d.setIso n c).hop m = d.hop m := rfl
@[simp] theorem Dev.setIso_pos (d : Dev) (n : Nat) (c : Tri) (m : Nat) : (d.setIso n c).pos m = d.pos m := rfl
@[simp] theorem Dev.setIso_slot (d : Dev) (n : Nat) (c : Tri) (m : Nat) : (d.setIso n c).slot m = d.slot m := rfl
@[simp] theorem Dev.setIso_gate (d : Dev) (n : Nat) (c : Tri) (m : Nat) : (d.setIso n c).gate m = d.gate m := rfl
@[simp] theorem Dev.setIso_iso_same (d : Dev) (n : Nat) (c : Tri) : (d.setIso n c).iso n = c := by
  simp [Dev.setIso, Dev.iso]
@[simp] theorem Dev.setIso_iso_ne (d : Dev) {n m : Nat} (c : Tri) (h : m ≠ n) : (d.setIso n c).iso m = d.iso m := by
  simp [Dev.setIso, Dev.iso, h]

/-! ### Fields under an output -/

@[simp] theorem Dev.emit_now (d : Dev) (o : Out) : (d.emit o).now = d.now := rfl
@[simp] theorem Dev.emit_ticks (d : Dev) (o : Out) : (d.emit o).ticks = d.ticks := rfl
@[simp] theorem Dev.emit_op (d : Dev) (o : Out) : (d.emit o).op = d.op := rfl
@[simp] theorem Dev.emit_lc (d : Dev) (o : Out) : (d.emit o).lc = d.lc := rfl
@[simp] theorem Dev.emit_dict (d : Dev) (o : Out) : (d.emit o).dict = d.dict := rfl
@[simp] theorem Dev.emit_banked (d : Dev) (o : Out) : (d.emit o).banked = d.banked := rfl
@[simp] theorem Dev.emit_staged (d : Dev) (o : Out) : (d.emit o).staged = d.staged := rfl
@[simp] theorem Dev.emit_digests (d : Dev) (o : Out) : (d.emit o).digests = d.digests := rfl
@[simp] theorem Dev.emit_asks (d : Dev) (o : Out) : (d.emit o).asks = d.asks := rfl
@[simp] theorem Dev.emit_waiters (d : Dev) (o : Out) : (d.emit o).waiters = d.waiters := rfl
@[simp] theorem Dev.emit_freeCount (d : Dev) (o : Out) : (d.emit o).freeCount = d.freeCount := rfl
@[simp] theorem Dev.emit_outs (d : Dev) (o : Out) : (d.emit o).outs = d.outs := rfl
@[simp] theorem Dev.emit_ins (d : Dev) (o : Out) : (d.emit o).ins = d.ins := rfl
@[simp] theorem Dev.emit_rep (d : Dev) (o : Out) : (d.emit o).rep = d.rep := rfl
@[simp] theorem Dev.emit_jnl (d : Dev) (o : Out) : (d.emit o).jnl = d.jnl := rfl
@[simp] theorem Dev.emit_ember (d : Dev) (o : Out) : (d.emit o).ember = d.ember := rfl
@[simp] theorem Dev.emit_lanes (d : Dev) (o : Out) : (d.emit o).lanes = d.lanes := rfl
@[simp] theorem Dev.emit_grants (d : Dev) (o : Out) : (d.emit o).grants = d.grants := rfl
@[simp] theorem Dev.emit_chan (d : Dev) (o : Out) : (d.emit o).chan = d.chan := rfl
@[simp] theorem Dev.emit_life (d : Dev) (o : Out) : (d.emit o).life = d.life := rfl
@[simp] theorem Dev.emit_grp (d : Dev) (o : Out) : (d.emit o).grp = d.grp := rfl
@[simp] theorem Dev.emit_sg (d : Dev) (o : Out) : (d.emit o).sg = d.sg := rfl
@[simp] theorem Dev.emit_silentEntered (d : Dev) (o : Out) : (d.emit o).silentEntered = d.silentEntered := rfl
@[simp] theorem Dev.emit_pe (d : Dev) (o : Out) : (d.emit o).pe = d.pe := rfl
@[simp] theorem Dev.emit_gw (d : Dev) (o : Out) : (d.emit o).gw = d.gw := rfl
@[simp] theorem Dev.emit_mx (d : Dev) (o : Out) : (d.emit o).mx = d.mx := rfl
@[simp] theorem Dev.emit_fin (d : Dev) (o : Out) : (d.emit o).fin = d.fin := rfl
@[simp] theorem Dev.emit_ring (d : Dev) (o : Out) : (d.emit o).ring = d.ring := rfl
@[simp] theorem Dev.emit_cfg (d : Dev) (o : Out) : (d.emit o).cfg = d.cfg := rfl
@[simp] theorem Dev.emit_guard (d : Dev) (o : Out) : (d.emit o).guard = d.guard := rfl
@[simp] theorem Dev.emit_power (d : Dev) (o : Out) : (d.emit o).power = d.power := rfl
@[simp] theorem Dev.emit_admin (d : Dev) (o : Out) : (d.emit o).admin = d.admin := rfl
@[simp] theorem Dev.emit_test (d : Dev) (o : Out) : (d.emit o).test = d.test := rfl
@[simp] theorem Dev.emit_replay (d : Dev) (o : Out) : (d.emit o).replay = d.replay := rfl
@[simp] theorem Dev.emit_sent (d : Dev) (o : Out) : (d.emit o).sent = d.sent ++ [o] := rfl
@[simp] theorem Dev.emit_val (d : Dev) (o : Out) (k : Nat) : (d.emit o).val k = d.val k := rfl
@[simp] theorem Dev.emit_num (d : Dev) (o : Out) (k : Nat) : (d.emit o).num k = d.num k := rfl
@[simp] theorem Dev.emit_nat (d : Dev) (o : Out) (k : Nat) : (d.emit o).nat k = d.nat k := rfl
@[simp] theorem Dev.emit_bytesOf (d : Dev) (o : Out) (k : Nat) : (d.emit o).bytesOf k = d.bytesOf k := rfl
@[simp] theorem Dev.emit_ch (d : Dev) (o : Out) (m : Nat) : (d.emit o).ch m = d.ch m := rfl
@[simp] theorem Dev.emit_lf (d : Dev) (o : Out) (m : Nat) : (d.emit o).lf m = d.lf m := rfl
@[simp] theorem Dev.emit_gr (d : Dev) (o : Out) (m : Nat) : (d.emit o).gr m = d.gr m := rfl
@[simp] theorem Dev.emit_sgp (d : Dev) (o : Out) (m : Nat) : (d.emit o).sgp m = d.sgp m := rfl
@[simp] theorem Dev.emit_eng (d : Dev) (o : Out) (m : Nat) : (d.emit o).eng m = d.eng m := rfl
@[simp] theorem Dev.emit_port (d : Dev) (o : Out) (m : Nat) : (d.emit o).port m = d.port m := rfl
@[simp] theorem Dev.emit_fi (d : Dev) (o : Out) (m : Nat) : (d.emit o).fi m = d.fi m := rfl
@[simp] theorem Dev.emit_ln (d : Dev) (o : Out) (m : Nat) : (d.emit o).ln m = d.ln m := rfl
@[simp] theorem Dev.emit_cl (d : Dev) (o : Out) (m : Nat) : (d.emit o).cl m = d.cl m := rfl
@[simp] theorem Dev.emit_fg (d : Dev) (o : Out) (m : Nat) : (d.emit o).fg m = d.fg m := rfl
@[simp] theorem Dev.emit_hop (d : Dev) (o : Out) (m : Nat) : (d.emit o).hop m = d.hop m := rfl
@[simp] theorem Dev.emit_pos (d : Dev) (o : Out) (m : Nat) : (d.emit o).pos m = d.pos m := rfl
@[simp] theorem Dev.emit_slot (d : Dev) (o : Out) (m : Nat) : (d.emit o).slot m = d.slot m := rfl
@[simp] theorem Dev.emit_gate (d : Dev) (o : Out) (m : Nat) : (d.emit o).gate m = d.gate m := rfl
@[simp] theorem Dev.emit_iso (d : Dev) (o : Out) (m : Nat) : (d.emit o).iso m = d.iso m := rfl

end Sys2Proof.Machine
end

