-- ==== Sys2Proof/Laws/Aside.lean ====
section
/-! SUPPORT. What journalling, mutex grants, ring frames, EMCY and the raising and clearing of conditions can do to the
block, said once: they change the reporting state, the journal, what was sent and a few counters, and nothing else. -/
namespace Sys2Proof.Machine

/-- Objects that journalling and reporting may change: contested grants, the capture's status, the
storm count, the condition counters and the EMCY merges of a lane. -/
def asideKey (k : Nat) : Prop :=
  k / 256 = 0x2003 ∨ k / 256 = 0x2331 ∨ k / 256 = 0x2340 ∨ k / 256 = 0x4800 ∨
    (0x2201 ≤ k / 256 ∧ k / 256 < 0x2204 ∧ k % 256 = 0x0C)

/-- Only the reporting side of the block differs. -/
structure Dev.Aside (d t : Dev) : Prop where
  rest : t = { d with dict := t.dict, rep := t.rep, jnl := t.jnl, ring := t.ring, sent := t.sent, replay := t.replay }
  ring : t.ring = { d.ring with txSeq := t.ring.txSeq, sentFrames := t.ring.sentFrames }
  replay : t.replay = { d.replay with made := t.replay.made, asked := t.replay.asked }
  vals : ∀ k, ¬ asideKey k → t.val k = d.val k

namespace Dev.Aside

variable {d t u : Dev}

theorem refl (d : Dev) : d.Aside d := ⟨rfl, rfl, rfl, fun _ _ => rfl⟩

theorem trans (h : d.Aside t) (g : t.Aside u) : d.Aside u where
  rest := by rw [g.rest, h.rest]
  ring := by rw [g.ring, h.ring]
  replay := by rw [g.replay, h.replay]
  vals := fun k hk => (g.vals k hk).trans (h.vals k hk)

theorem foldl {α : Type} (f : Dev → α → Dev) (l : List α) (hf : ∀ (d : Dev) (a : α), a ∈ l → d.Aside (f d a)) (d : Dev) : d.Aside (l.foldl f d) := by
  induction l generalizing d with
  | nil => exact refl d
  | cons a r ih => exact (hf d a (by simp)).trans (ih (fun d b hb => hf d b (by simp [hb])) (f d a))

theorem ite {c : Prop} [Decidable c] (ht : d.Aside t) (hu : d.Aside u) : d.Aside (if c then t else u) := by
  by_cases h : c <;> simp [h, ht, hu]

theorem now (h : d.Aside t) : t.now = d.now := by rw [h.rest]
theorem op (h : d.Aside t) : t.op = d.op := by rw [h.rest]
theorem lc (h : d.Aside t) : t.lc = d.lc := by rw [h.rest]
theorem banked (h : d.Aside t) : t.banked = d.banked := by rw [h.rest]
theorem staged (h : d.Aside t) : t.staged = d.staged := by rw [h.rest]
theorem outs (h : d.Aside t) : t.outs = d.outs := by rw [h.rest]
theorem ins (h : d.Aside t) : t.ins = d.ins := by rw [h.rest]
theorem ember (h : d.Aside t) : t.ember = d.ember := by rw [h.rest]
theorem lanes (h : d.Aside t) : t.lanes = d.lanes := by rw [h.rest]
theorem grants (h : d.Aside t) : t.grants = d.grants := by rw [h.rest]
theorem chan (h : d.Aside t) : t.chan = d.chan := by rw [h.rest]
theorem life (h : d.Aside t) : t.life = d.life := by rw [h.rest]
theorem grp (h : d.Aside t) : t.grp = d.grp := by rw [h.rest]
theorem sg (h : d.Aside t) : t.sg = d.sg := by rw [h.rest]
theorem pe (h : d.Aside t) : t.pe = d.pe := by rw [h.rest]
theorem gw (h : d.Aside t) : t.gw = d.gw := by rw [h.rest]
theorem mx (h : d.Aside t) : t.mx = d.mx := by rw [h.rest]
theorem fin (h : d.Aside t) : t.fin = d.fin := by rw [h.rest]
theorem cfg (h : d.Aside t) : t.cfg = d.cfg := by rw [h.rest]
theorem guard (h : d.Aside t) : t.guard = d.guard := by rw [h.rest]
theorem power (h : d.Aside t) : t.power = d.power := by rw [h.rest]
theorem admin (h : d.Aside t) : t.admin = d.admin := by rw [h.rest]
theorem test (h : d.Aside t) : t.test = d.test := by rw [h.rest]
theorem ch (h : d.Aside t) (n : Nat) : t.ch n = d.ch n := by simp [Dev.ch, h.chan]
theorem gr (h : d.Aside t) (n : Nat) : t.gr n = d.gr n := by simp [Dev.gr, h.grp]
theorem sgp (h : d.Aside t) (n : Nat) : t.sgp n = d.sgp n := by simp [Dev.sgp, h.sg]
theorem port (h : d.Aside t) (n : Nat) : t.port n = d.port n := by simp [Dev.port, h.gw]
theorem fi (h : d.Aside t) (n : Nat) : t.fi n = d.fi n := by simp [Dev.fi, h.fin]
theorem ln (h : d.Aside t) (n : Nat) : t.ln n = d.ln n := by simp [Dev.ln, h.lanes]
theorem cl (h : d.Aside t) (n : Nat) : t.cl n = d.cl n := by simp [Dev.cl, h.lanes]
theorem hop (h : d.Aside t) (n : Nat) : t.hop n = d.hop n := by rw [Dev.hop, h.ring, Dev.hop]
theorem pos (h : d.Aside t) (n : Nat) : t.pos n = d.pos n := by rw [Dev.pos, h.ring, Dev.pos]
theorem num (h : d.Aside t) {k : Nat} (hk : ¬ asideKey k) : t.num k = d.num k := by simp [Dev.num, h.vals k hk]
theorem nat (h : d.Aside t) {k : Nat} (hk : ¬ asideKey k) : t.nat k = d.nat k := by simp [Dev.nat, h.num hk]
theorem bytesOf (h : d.Aside t) {k : Nat} (hk : ¬ asideKey k) : t.bytesOf k = d.bytesOf k := by simp [Dev.bytesOf, h.vals k hk]

/-! ### The operations -/

theorem putVal (d : Dev) {k : Nat} (v : Val) (hk : asideKey k) : d.Aside (d.putVal k v) :=
  ⟨rfl, rfl, rfl, fun _ hj => Dev.val_putVal_ne d v (fun e => hj (e ▸ hk))⟩

theorem put (d : Dev) {k : Nat} (v : Nat) (hk : asideKey k) : d.Aside (d.put k v) := putVal d _ hk

theorem count (d : Dev) {k : Nat} (n : Nat) (hk : asideKey k) : d.Aside (d.count k n) := putVal d _ hk

theorem countWrap (d : Dev) {k : Nat} (n : Nat) (hk : asideKey k) : d.Aside (d.countWrap k n) := putVal d _ hk

theorem setRep (d : Dev) (r : Reporting) : d.Aside { d with rep := r } := ⟨rfl, rfl, rfl, fun _ _ => rfl⟩

theorem setJnl (d : Dev) (j : Journal) : d.Aside { d with jnl := j } := ⟨rfl, rfl, rfl, fun _ _ => rfl⟩

theorem emit (d : Dev) (o : Out) : d.Aside (d.emit o) := ⟨rfl, rfl, rfl, fun _ _ => rfl⟩

theorem eventRate (d : Dev) (size : Nat) : d.Aside (d.eventRate size) := by
  unfold Dev.eventRate
  exact (setJnl d _).trans (setJnl _ _)

theorem jrec (d : Dev) (ty : Nat) (fields : List Int) (data : List Byte) : d.Aside (d.jrec ty fields data) := by
  unfold Dev.jrec
  exact ite ⟨rfl, rfl, rfl, fun _ _ => rfl⟩ (ite (refl d) ((eventRate d _).trans (setJnl _ _)))

theorem runRecord (d : Dev) (p w : Nat) : d.Aside (d.runRecord p w) := by
  have fresh : d.Aside { d.jrec 0x05 [(p : Int), (w : Int), 1] with jnl := { (d.jrec 0x05 [(p : Int), (w : Int), 1]).jnl with
      runs := tabPut {} d.jnl.runs p ⟨w, 1⟩ } } := (jrec d _ _ _).trans (setJnl _ _)
  unfold Dev.runRecord
  refine ite ?_ fresh
  split
  · exact setJnl d _
  · exact fresh

/-- A grant at a mutex point is journalled and may count as contested, and does nothing else. -/
theorem grantAt (d : Dev) {p : Nat} (w : Nat) (hp : p < 16) : d.Aside (d.grantAt p w) := by
  have key : asideKey (Obj.MUTEX_CONTESTED p) := by left; simp only [Obj.MUTEX_CONTESTED]; omega
  unfold Dev.grantAt
  exact ite ⟨rfl, rfl, rfl, fun _ _ => rfl⟩ (ite ((runRecord d p w).trans (countWrap _ _ key)) (runRecord d p w))

theorem ringTake (d : Dev) (cls dst : Nat) (payload : List Byte) : d.Aside (d.ringTake cls dst payload) :=
  ⟨rfl, rfl, rfl, fun _ _ => rfl⟩

theorem ringSend (d : Dev) (cls dst : Nat) (payload : List Byte) (flags : Nat) : d.Aside (d.ringSend cls dst payload flags) :=
  ((grantAt d (p := 5) 0 (by decide)).trans (ringTake _ _ _ _)).trans (emit _ _)

theorem capTrigger (d : Dev) (source : Nat) : d.Aside (d.capTrigger source) := by
  unfold Dev.capTrigger
  refine ite (refl d) (ite ?_ ?_)
  · refine Dev.Aside.trans ?_ (jrec _ _ _ _)
    refine Dev.Aside.trans ?_ (setJnl _ _)
    refine Dev.Aside.trans ?_ (put _ _ (by unfold asideKey; decide))
    refine Dev.Aside.trans ?_ (put _ _ (by unfold asideKey; decide))
    refine Dev.Aside.trans ?_ (put _ _ (by unfold asideKey; decide))
    refine Dev.Aside.trans ?_ (put _ _ (by unfold asideKey; decide))
    refine Dev.Aside.trans ?_ (put _ _ (by unfold asideKey; decide))
    exact count _ _ (by unfold asideKey; decide)
  · exact (count d _ (by unfold asideKey; decide)).trans (jrec _ _ _ _)

theorem laneSend (d : Dev) (w l id : Nat) (data : List Byte) : d.Aside (d.laneSend w l id data) := by
  unfold Dev.laneSend
  exact ite ((grantAt d (p := 7) w (by decide)).trans (emit _ _)) (refl d)

theorem emcySend (d : Dev) (l : Nat) (e : Nat × Report) : d.Aside (d.emcySend l e) :=
  (laneSend d _ _ _ _).trans (setRep _ _)

theorem emcyAdd (d : Dev) {l : Nat} (e : Nat × Report) (hl : l < 3) : d.Aside (d.emcyAdd l e) := by
  have key : asideKey (Obj.LN_EMCY_MERGED l) := by
    right; right; right; right; simp only [Obj.LN_EMCY_MERGED]; omega
  unfold Dev.emcyAdd
  refine ite (emcySend d l e) ?_
  split
  · exact (setRep d _).trans (count _ _ key)
  · exact setRep d _

theorem emcyAll (d : Dev) (p : Nat) (rs : List Report) : d.Aside (d.emcyAll p rs) := by
  refine foldl _ _ (fun d r _ => foldl _ _ (fun d l hl => emcyAdd d _ ?_) d) d
  simp at hl; omega

theorem report (d : Dev) (r : Report) (frames : List Report) : d.Aside (d.report r frames) := by
  unfold Dev.report
  have h : asideKey Obj.COND_HIST_TOTAL := by unfold asideKey; decide
  have g : asideKey Obj.COND_HIST_LOST := by unfold asideKey; decide
  have w : condRequester r.source < 16 := by
    unfold condRequester
    split
    · decide
    · split <;> decide
  refine Dev.Aside.trans ?_ (ite (refl _) (ite (foldl _ _ (fun d f _ => ringSend d _ _ _ _) _) (emcyAll _ _ _)))
  exact (grantAt d (p := 6) _ (by decide)).trans (ite (ite ((setRep _ _).trans (count _ _ h)) (count _ _ g)) (refl _))

theorem setSrc (d : Dev) (s : Nat) (r : SrcRep) : d.Aside (d.setSrc s r) := setRep d _

theorem setWin (d : Dev) (c : Nat) (w : CoalWin) : d.Aside (d.setWin c w) := setRep d _

theorem summary (d : Dev) (code n a : Nat) (group : Bool) (srcs : List Nat) : d.Aside (d.summary code n a group srcs) := by
  unfold Dev.summary
  exact ite (report d _ _) ((ite (count d _ (by unfold asideKey; decide)) (refl d)).trans (report _ _ _))

theorem closeWin (d : Dev) (code : Nat) : d.Aside (d.closeWin code) := by
  unfold Dev.closeWin
  simp only
  split
  · exact refl d
  · refine Dev.Aside.trans ?_ (foldl _ _ (fun d s _ => setSrc d _ _) _)
    exact Dev.Aside.trans (setWin d _ _) (foldl _ _ (fun d b _ => summary d _ _ _ _ _) _)

theorem reportRaise (d : Dev) (code source detail : Nat) (map : List Nat) : d.Aside (d.reportRaise code source detail map) := by
  unfold Dev.reportRaise
  refine ite (ite (setSrc d _ _) ((report d _ _).trans (setSrc _ _ _))) ?_
  have g : ∀ t : Dev, d.Aside t → d.Aside (match (lookD {} t.rep.win code).first with
      | none => ((t.setWin code ⟨t.now / 1000000, some source, t.now, []⟩).report ⟨1, code, source, detail, d.now, map⟩
          (raiseFrames code source detail t.now map)).setSrc source
            (((t.setWin code ⟨t.now / 1000000, some source, t.now, []⟩).srcOf source).told t.now code true)
      | some _ => (t.setWin code { lookD {} t.rep.win code with held := (lookD {} t.rep.win code).held ++ [(source, t.now)] }).setSrc source
          { t.srcOf source with changes := (t.srcOf source).changes ++ [(code, true, t.now)] }) := by
    intro t ht
    split
    · exact ht.trans (((setWin _ _ _).trans (report _ _ _)).trans (setSrc _ _ _))
    · exact ht.trans ((setWin _ _ _).trans (setSrc _ _ _))
  exact g _ (ite (closeWin d code) (refl d))

theorem reportClear (d : Dev) (code source detail : Nat) : d.Aside (d.reportClear code source detail) := by
  unfold Dev.reportClear
  exact ite (setSrc d _ _) ((report d _ _).trans (setSrc _ _ _))

theorem raiseC (d : Dev) (code source detail : Nat) (latched : Bool) (map : List Nat) :
    d.Aside (d.raiseC code source detail latched map) := by
  unfold Dev.raiseC
  refine Dev.Aside.trans ?_ (reportRaise _ _ _ _ _)
  refine Dev.Aside.trans ?_ (ite (capTrigger _ _) (refl _))
  refine Dev.Aside.trans ?_ (put _ _ (by unfold asideKey; decide))
  refine Dev.Aside.trans ?_ (count _ _ (by unfold asideKey; decide))
  exact (jrec d _ _ _).trans (setRep _ _)

theorem redetail (d : Dev) (code source detail : Nat) (map : List Nat) : d.Aside (d.redetail code source detail map) := setRep d _

theorem raiseAnew (d : Dev) (code source detail : Nat) (map : List Nat) : d.Aside (d.raiseAnew code source detail map) :=
  ite (redetail d _ _ _ _) (raiseC d _ _ _ _ _)

theorem raiseOnce (d : Dev) (code source detail : Nat) (latched : Bool) (map : List Nat) :
    d.Aside (d.raiseOnce code source detail latched map) := ite (refl d) (raiseC d _ _ _ _ _)

theorem clearC (d : Dev) (code source : Nat) : d.Aside (d.clearC code source) := by
  unfold Dev.clearC
  split
  · refine Dev.Aside.trans (t := _) ?_ (ite (report _ _ _) (refl _))
    refine Dev.Aside.trans ?_ (reportClear _ _ _ _)
    exact (jrec d _ _ _).trans (setRep _ _)
  · exact refl d

theorem clearFree (d : Dev) (code source : Nat) : d.Aside (d.clearFree code source) := ite (refl d) (clearC d _ _)

theorem standAs (d : Dev) (code source : Nat) (l : List (Nat × Bool)) : d.Aside (d.standAs code source l) := by
  unfold Dev.standAs
  split
  · exact clearC d _ _
  · exact (setRep d _).trans (ite (setRep _ _) (raiseC _ _ _ _ _ _))

theorem raiseDetail (d : Dev) (code source k : Nat) (latched : Bool) : d.Aside (d.raiseDetail code source k latched) :=
  ite (refl d) (standAs d _ _ _)

theorem latchDetail (d : Dev) (code source k : Nat) : d.Aside (d.latchDetail code source k) := ite (standAs d _ _ _) (refl d)

theorem endDetail (d : Dev) (code source k : Nat) : d.Aside (d.endDetail code source k) := ite (standAs d _ _ _) (refl d)

theorem latchC (d : Dev) (code source : Nat) : d.Aside (d.latchC code source) := setRep d _

theorem holdOffEnd (d : Dev) (source : Nat) : d.Aside (d.holdOffEnd source) := by
  unfold Dev.holdOffEnd
  refine ite (setSrc d _ _) ?_
  refine Dev.Aside.trans ?_ (setSrc _ _ _)
  refine ite (report d _ _) ?_
  exact (foldl _ _ (fun d c _ => report d _ _) d).trans (foldl _ _ (fun d c _ => report d _ _) _)

end Dev.Aside

end Sys2Proof.Machine
end

