-- ==== Sys2Proof/Laws/Ops.lean ====
section
/-! SUPPORT. What the shared shapes of the commands can do: the output stage, and on, live, serve, talk, port and guarded;
of requests at the duty-register port and of the digest engine. -/
namespace Sys2Proof.Machine

/-- The block as a command leaves it. -/
def Dev.settled (d : Dev) : Dev := { d.outStage with waiters := [] }

@[simp] theorem Dev.settled_now (d : Dev) : d.settled.now = d.now := by unfold Dev.settled; rfl
@[simp] theorem State.seen_now (s : State) : s.seen.now = s.dev.now := by unfold State.seen; rfl
@[simp] theorem Dev.settled_ticks (d : Dev) : d.settled.ticks = d.ticks := by unfold Dev.settled; rfl
@[simp] theorem State.seen_ticks (s : State) : s.seen.ticks = s.dev.ticks := by unfold State.seen; rfl
@[simp] theorem Dev.settled_op (d : Dev) : d.settled.op = d.op := by unfold Dev.settled; rfl
@[simp] theorem State.seen_op (s : State) : s.seen.op = s.dev.op := by unfold State.seen; rfl
@[simp] theorem Dev.settled_lc (d : Dev) : d.settled.lc = d.lc := by unfold Dev.settled; rfl
@[simp] theorem State.seen_lc (s : State) : s.seen.lc = s.dev.lc := by unfold State.seen; rfl
@[simp] theorem Dev.settled_dict (d : Dev) : d.settled.dict = d.dict := by unfold Dev.settled; rfl
@[simp] theorem State.seen_dict (s : State) : s.seen.dict = s.dev.dict := by unfold State.seen; rfl
@[simp] theorem Dev.settled_banked (d : Dev) : d.settled.banked = d.banked := by unfold Dev.settled; rfl
@[simp] theorem State.seen_banked (s : State) : s.seen.banked = s.dev.banked := by unfold State.seen; rfl
@[simp] theorem Dev.settled_staged (d : Dev) : d.settled.staged = d.staged := by unfold Dev.settled; rfl
@[simp] theorem State.seen_staged (s : State) : s.seen.staged = s.dev.staged := by unfold State.seen; rfl
@[simp] theorem Dev.settled_sent (d : Dev) : d.settled.sent = d.sent := by unfold Dev.settled; rfl
@[simp] theorem State.seen_sent (s : State) : s.seen.sent = s.dev.sent := by unfold State.seen; rfl
@[simp] theorem Dev.settled_digests (d : Dev) : d.settled.digests = d.digests := by unfold Dev.settled; rfl
@[simp] theorem State.seen_digests (s : State) : s.seen.digests = s.dev.digests := by unfold State.seen; rfl
@[simp] theorem Dev.settled_asks (d : Dev) : d.settled.asks = d.asks := by unfold Dev.settled; rfl
@[simp] theorem State.seen_asks (s : State) : s.seen.asks = s.dev.asks := by unfold State.seen; rfl
@[simp] theorem Dev.settled_freeCount (d : Dev) : d.settled.freeCount = d.freeCount := by unfold Dev.settled; rfl
@[simp] theorem State.seen_freeCount (s : State) : s.seen.freeCount = s.dev.freeCount := by unfold State.seen; rfl
@[simp] theorem Dev.settled_ins (d : Dev) : d.settled.ins = d.ins := by unfold Dev.settled; rfl
@[simp] theorem State.seen_ins (s : State) : s.seen.ins = s.dev.ins := by unfold State.seen; rfl
@[simp] theorem Dev.settled_rep (d : Dev) : d.settled.rep = d.rep := by unfold Dev.settled; rfl
@[simp] theorem State.seen_rep (s : State) : s.seen.rep = s.dev.rep := by unfold State.seen; rfl
@[simp] theorem Dev.settled_jnl (d : Dev) : d.settled.jnl = d.jnl := by unfold Dev.settled; rfl
@[simp] theorem State.seen_jnl (s : State) : s.seen.jnl = s.dev.jnl := by unfold State.seen; rfl
@[simp] theorem Dev.settled_ember (d : Dev) : d.settled.ember = d.ember := by unfold Dev.settled; rfl
@[simp] theorem State.seen_ember (s : State) : s.seen.ember = s.dev.ember := by unfold State.seen; rfl
@[simp] theorem Dev.settled_lanes (d : Dev) : d.settled.lanes = d.lanes := by unfold Dev.settled; rfl
@[simp] theorem State.seen_lanes (s : State) : s.seen.lanes = s.dev.lanes := by unfold State.seen; rfl
@[simp] theorem Dev.settled_grants (d : Dev) : d.settled.grants = d.grants := by unfold Dev.settled; rfl
@[simp] theorem State.seen_grants (s : State) : s.seen.grants = s.dev.grants := by unfold State.seen; rfl
@[simp] theorem Dev.settled_chan (d : Dev) : d.settled.chan = d.chan := by unfold Dev.settled; rfl
@[simp] theorem State.seen_chan (s : State) : s.seen.chan = s.dev.chan := by unfold State.seen; rfl
@[simp] theorem Dev.settled_life (d : Dev) : d.settled.life = d.life := by unfold Dev.settled; rfl
@[simp] theorem State.seen_life (s : State) : s.seen.life = s.dev.life := by unfold State.seen; rfl
@[simp] theorem Dev.settled_grp (d : Dev) : d.settled.grp = d.grp := by unfold Dev.settled; rfl
@[simp] theorem State.seen_grp (s : State) : s.seen.grp = s.dev.grp := by unfold State.seen; rfl
@[simp] theorem Dev.settled_sg (d : Dev) : d.settled.sg = d.sg := by unfold Dev.settled; rfl
@[simp] theorem State.seen_sg (s : State) : s.seen.sg = s.dev.sg := by unfold State.seen; rfl
@[simp] theorem Dev.settled_silentEntered (d : Dev) : d.settled.silentEntered = d.silentEntered := by unfold Dev.settled; rfl
@[simp] theorem State.seen_silentEntered (s : State) : s.seen.silentEntered = s.dev.silentEntered := by unfold State.seen; rfl
@[simp] theorem Dev.settled_pe (d : Dev) : d.settled.pe = d.pe := by unfold Dev.settled; rfl
@[simp] theorem State.seen_pe (s : State) : s.seen.pe = s.dev.pe := by unfold State.seen; rfl
@[simp] theorem Dev.settled_gw (d : Dev) : d.settled.gw = d.gw := by unfold Dev.settled; rfl
@[simp] theorem State.seen_gw (s : State) : s.seen.gw = s.dev.gw := by unfold State.seen; rfl
@[simp] theorem Dev.settled_mx (d : Dev) : d.settled.mx = d.mx := by unfold Dev.settled; rfl
@[simp] theorem State.seen_mx (s : State) : s.seen.mx = s.dev.mx := by unfold State.seen; rfl
@[simp] theorem Dev.settled_fin (d : Dev) : d.settled.fin = d.fin := by unfold Dev.settled; rfl
@[simp] theorem State.seen_fin (s : State) : s.seen.fin = s.dev.fin := by unfold State.seen; rfl
@[simp] theorem Dev.settled_ring (d : Dev) : d.settled.ring = d.ring := by unfold Dev.settled; rfl
@[simp] theorem State.seen_ring (s : State) : s.seen.ring = s.dev.ring := by unfold State.seen; rfl
@[simp] theorem Dev.settled_cfg (d : Dev) : d.settled.cfg = d.cfg := by unfold Dev.settled; rfl
@[simp] theorem State.seen_cfg (s : State) : s.seen.cfg = s.dev.cfg := by unfold State.seen; rfl
@[simp] theorem Dev.settled_guard (d : Dev) : d.settled.guard = d.guard := by unfold Dev.settled; rfl
@[simp] theorem State.seen_guard (s : State) : s.seen.guard = s.dev.guard := by unfold State.seen; rfl
@[simp] theorem Dev.settled_power (d : Dev) : d.settled.power = d.power := by unfold Dev.settled; rfl
@[simp] theorem State.seen_power (s : State) : s.seen.power = s.dev.power := by unfold State.seen; rfl
@[simp] theorem Dev.settled_admin (d : Dev) : d.settled.admin = d.admin := by unfold Dev.settled; rfl
@[simp] theorem State.seen_admin (s : State) : s.seen.admin = s.dev.admin := by unfold State.seen; rfl
@[simp] theorem Dev.settled_test (d : Dev) : d.settled.test = d.test := by unfold Dev.settled; rfl
@[simp] theorem State.seen_test (s : State) : s.seen.test = s.dev.test := by unfold State.seen; rfl
@[simp] theorem Dev.settled_replay (d : Dev) : d.settled.replay = d.replay := by unfold Dev.settled; rfl
@[simp] theorem State.seen_replay (s : State) : s.seen.replay = s.dev.replay := by unfold State.seen; rfl
@[simp] theorem State.seen_outs (s : State) : s.seen.outs = s.dev.outs := by unfold State.seen; rfl
@[simp] theorem Dev.settled_ch (d : Dev) (n : Nat) : d.settled.ch n = d.ch n := by unfold Dev.settled; rfl
@[simp] theorem State.seen_ch (s : State) (n : Nat) : s.seen.ch n = s.dev.ch n := by unfold State.seen; rfl
@[simp] theorem Dev.settled_lf (d : Dev) (n : Nat) : d.settled.lf n = d.lf n := by unfold Dev.settled; rfl
@[simp] theorem State.seen_lf (s : State) (n : Nat) : s.seen.lf n = s.dev.lf n := by unfold State.seen; rfl
@[simp] theorem Dev.settled_gr (d : Dev) (n : Nat) : d.settled.gr n = d.gr n := by unfold Dev.settled; rfl
@[simp] theorem State.seen_gr (s : State) (n : Nat) : s.seen.gr n = s.dev.gr n := by unfold State.seen; rfl
@[simp] theorem Dev.settled_sgp (d : Dev) (n : Nat) : d.settled.sgp n = d.sgp n := by unfold Dev.settled; rfl
@[simp] theorem State.seen_sgp (s : State) (n : Nat) : s.seen.sgp n = s.dev.sgp n := by unfold State.seen; rfl
@[simp] theorem Dev.settled_eng (d : Dev) (n : Nat) : d.settled.eng n = d.eng n := by unfold Dev.settled; rfl
@[simp] theorem State.seen_eng (s : State) (n : Nat) : s.seen.eng n = s.dev.eng n := by unfold State.seen; rfl
@[simp] theorem Dev.settled_port (d : Dev) (n : Nat) : d.settled.port n = d.port n := by unfold Dev.settled; rfl
@[simp] theorem State.seen_port (s : State) (n : Nat) : s.seen.port n = s.dev.port n := by unfold State.seen; rfl
@[simp] theorem Dev.settled_fi (d : Dev) (n : Nat) : d.settled.fi n = d.fi n := by unfold Dev.settled; rfl
@[simp] theorem State.seen_fi (s : State) (n : Nat) : s.seen.fi n = s.dev.fi n := by unfold State.seen; rfl
@[simp] theorem Dev.settled_ln (d : Dev) (n : Nat) : d.settled.ln n = d.ln n := by unfold Dev.settled; rfl
@[simp] theorem State.seen_ln (s : State) (n : Nat) : s.seen.ln n = s.dev.ln n := by unfold State.seen; rfl
@[simp] theorem Dev.settled_cl (d : Dev) (n : Nat) : d.settled.cl n = d.cl n := by unfold Dev.settled; rfl
@[simp] theorem State.seen_cl (s : State) (n : Nat) : s.seen.cl n = s.dev.cl n := by unfold State.seen; rfl
@[simp] theorem Dev.settled_fg (d : Dev) (n : Nat) : d.settled.fg n = d.fg n := by unfold Dev.settled; rfl
@[simp] theorem State.seen_fg (s : State) (n : Nat) : s.seen.fg n = s.dev.fg n := by unfold State.seen; rfl
@[simp] theorem Dev.settled_hop (d : Dev) (n : Nat) : d.settled.hop n = d.hop n := by unfold Dev.settled; rfl
@[simp] theorem State.seen_hop (s : State) (n : Nat) : s.seen.hop n = s.dev.hop n := by unfold State.seen; rfl
@[simp] theorem Dev.settled_pos (d : Dev) (n : Nat) : d.settled.pos n = d.pos n := by unfold Dev.settled; rfl
@[simp] theorem State.seen_pos (s : State) (n : Nat) : s.seen.pos n = s.dev.pos n := by unfold State.seen; rfl
@[simp] theorem Dev.settled_slot (d : Dev) (n : Nat) : d.settled.slot n = d.slot n := by unfold Dev.settled; rfl
@[simp] theorem State.seen_slot (s : State) (n : Nat) : s.seen.slot n = s.dev.slot n := by unfold State.seen; rfl
@[simp] theorem Dev.settled_val (d : Dev) (n : Nat) : d.settled.val n = d.val n := by unfold Dev.settled; rfl
@[simp] theorem State.seen_val (s : State) (n : Nat) : s.seen.val n = s.dev.val n := by unfold State.seen; rfl
@[simp] theorem Dev.settled_num (d : Dev) (n : Nat) : d.settled.num n = d.num n := by unfold Dev.settled; rfl
@[simp] theorem State.seen_num (s : State) (n : Nat) : s.seen.num n = s.dev.num n := by unfold State.seen; rfl
@[simp] theorem Dev.settled_nat (d : Dev) (n : Nat) : d.settled.nat n = d.nat n := by unfold Dev.settled; rfl
@[simp] theorem State.seen_nat (s : State) (n : Nat) : s.seen.nat n = s.dev.nat n := by unfold State.seen; rfl
@[simp] theorem Dev.settled_bytesOf (d : Dev) (n : Nat) : d.settled.bytesOf n = d.bytesOf n := by unfold Dev.settled; rfl
@[simp] theorem State.seen_bytesOf (s : State) (n : Nat) : s.seen.bytesOf n = s.dev.bytesOf n := by unfold State.seen; rfl
@[simp] theorem State.seen_alive (s : State) : s.seen.alive = s.dev.alive := by unfold State.seen; rfl
@[simp] theorem State.seen_darkened (s : State) : s.seen.darkened = s.dev.darkened := by unfold State.seen; rfl
@[simp] theorem State.seen_isolates (s : State) : s.seen.isolates = s.dev.isolates := by unfold State.seen; rfl
@[simp] theorem State.seen_frozen (s : State) : s.seen.frozen = s.dev.frozen := by unfold State.seen; rfl

/-! ### The output stage -/

@[simp] theorem Dev.settled_isolates (d : Dev) : d.settled.isolates = d.isolates := by unfold Dev.settled; rfl
@[simp] theorem Dev.settled_darkened (d : Dev) : d.settled.darkened = d.darkened := by unfold Dev.settled; rfl

/-- Where the lamp outputs are not held off, gates pass the output stage. -/
@[simp] theorem Dev.settled_gate (d : Dev) (n : Nat) (h : d.darkened = false) : d.settled.gate n = d.gate n := by
  simp [Dev.gate, Dev.settled, Dev.outStage, h]

/-- Where the lamp outputs are held off, every gate is low. -/
theorem Dev.settled_gate_low (d : Dev) (n : Nat) (h : d.darkened = true) : d.settled.gate n = .low := by
  simp [Dev.gate, Dev.settled, Dev.outStage, h, lookD, look]

/-- What the output stage leaves is safe. -/
theorem Dev.settled_safe (d : Dev) : d.settled.Safe := by
  refine ⟨?_, ?_, ?_, ?_, ?_⟩
  · intro h
    have h : d.darkened = true := h
    simp [Dev.settled, Dev.outStage, Outs.dark, Outs.asserted, h]
  · intro h
    have h : d.isolates = true ∨ d.guard.tripped = true := h
    rcases h with h | h <;> simp [Dev.settled, Dev.outStage, h]
  · intro h
    have h : d.op = .kindling := h
    simp [Dev.settled, Dev.outStage, h]
  · intro h
    have h : d.guard.supIn = false ∨ d.guard.stokerIn = false := h
    rcases h with h | h <;> simp [Dev.settled, Dev.outStage, h]
  · intro h
    have h : d.isolates = true := h
    show d.handoverOut ≠ .high
    unfold Dev.handoverOut
    rw [h]
    split <;> simp

/-! ### The shapes -/

theorem State.on_eq (s : State) (f : Dev → Dev) : s.on f = .next { s with dev := (f s.seen).settled } := rfl

theorem State.live_eq (s : State) (f : Dev → Dev) (h : s.dev.alive = true) : s.live f = .next { s with dev := (f s.seen).settled } := by
  simp [State.live, State.on_eq, h]

theorem State.live_still (s : State) (f : Dev → Dev) (h : s.dev.alive = false) : s.live f = .next { s with dev := s.seen.settled } := by
  simp [State.live, State.on_eq, h]

theorem State.serve_eq (s : State) (f : Dev → Dev) (h : s.dev.alive = true) (b : s.dev.power.banked = false) :
    s.serve f = .next { s with dev := (f s.seen).settled } := by
  simp [State.serve, State.on_eq, h, b]

theorem State.serve_still (s : State) (f : Dev → Dev) (h : s.dev.alive = false ∨ s.dev.power.banked = true) :
    s.serve f = .next { s with dev := s.seen.settled } := by
  rcases h with h | h <;> simp [State.serve, State.on_eq, h]

theorem State.talk_eq (s : State) (f : Dev → Dev) (r : s.dev.power.inReset = false) (b : s.dev.power.banked = false)
    (z : s.dev.frozen = false) : s.talk f = .next { s with dev := (f s.seen).settled } := by
  simp [State.talk, State.on_eq, r, b, z]

theorem State.port_eq (s : State) (f : Dev → Dev) (r : s.dev.power.inReset = false) (b : s.dev.power.banked = false) :
    s.port f = .next { s with dev := (f s.seen).settled } := by
  simp [State.port, State.on_eq, r, b]

theorem State.guarded_eq (s : State) (f : Dev → Dev) (r : s.dev.power.inReset = false) :
    s.guarded f = .next { s with dev := (f s.seen).settled } := by
  simp [State.guarded, State.on_eq, r]

theorem State.guarded_still (s : State) (f : Dev → Dev) (r : s.dev.power.inReset = true) :
    s.guarded f = .next { s with dev := s.seen.settled } := by
  simp [State.guarded, State.on_eq, r]

theorem State.talk_still (s : State) (f : Dev → Dev)
    (h : s.dev.power.inReset = true ∨ s.dev.power.banked = true ∨ s.dev.frozen = true) :
    s.talk f = .next { s with dev := s.seen.settled } := by
  rcases h with h | h | h <;> simp [State.talk, State.on_eq, h]

theorem State.port_still (s : State) (f : Dev → Dev) (h : s.dev.power.inReset = true ∨ s.dev.power.banked = true) :
    s.port f = .next { s with dev := s.seen.settled } := by
  rcases h with h | h <;> simp [State.port, State.on_eq, h]

/-- A write outside a run of the replay is what its origin brings. -/
theorem State.write_eq (s : State) (o : Origin) (key : Nat) (b : List Byte) (r : s.dev.power.inReset = false)
    (k : s.dev.power.banked = false) (z : s.dev.frozen = false ∨ originPort o = true) :
    s.write o key b = .next { s with dev := ((s.seen.writeFrom o key b).judged).settled } := by
  rcases z with z | z <;> simp [State.write, State.port_eq _ _ r k, z]

/-- An untouched block is what a command that changes nothing leaves. -/
theorem Dev.Untouched.still (s : State) : s.dev.Untouched s.seen.settled := rfl

/-! ### Requests at the duty-register port and the digest engine -/

/-- A request at M12 waits for its group's boundary in the closing 2.0 us, and is granted elsewhere; nothing else changes. -/
theorem Dev.askDuty_aside (d : Dev) (g r : Nat) :
    Dev.Aside { d with asks := d.asks ++ (if d.now < d.grantInstant g then [(g, r)] else []) } (d.askDuty g r) := by
  unfold Dev.askDuty
  by_cases h : d.now < d.grantInstant g
  · simpa [h] using Dev.Aside.refl _
  · simpa [h] using Dev.Aside.grantAt d (p := 12) r (by decide)

/-- A message that begins at the digest engine joins those under way. -/
theorem Dev.digestBegin_aside (d : Dev) (r : Nat) :
    Dev.Aside { d with digests := if d.digests.contains r then d.digests else d.digests ++ [r] } (d.digestBegin r) := by
  unfold Dev.digestBegin
  exact Dev.Aside.ite (Dev.Aside.grantAt _ (p := 4) r (by decide)) (Dev.Aside.refl _)

/-- Messages under way stand beside what reporting changes. -/
theorem Dev.Aside.withDigests {d t : Dev} (h : d.Aside t) (l : List Nat) : Dev.Aside { d with digests := l } { t with digests := l } :=
  ⟨by rw [h.rest], h.ring, h.replay, h.vals⟩

/-- The digest engine's own turn changes the messages under way and what grants leave. -/
theorem Dev.digestNext_aside (d : Dev) (n : Nat) : Dev.Aside { d with digests := (d.digestNext n).digests } (d.digestNext n) := by
  induction n generalizing d with
  | zero => exact Dev.Aside.refl _
  | succ n ih =>
    unfold Dev.digestNext
    split
    · rename_i r _
      have g := Dev.Aside.grantAt d (p := 4) r (by decide)
      show Dev.Aside { d with digests := (if (d.grantAt 4 r).digests.contains (r + 4) = true then
        Dev.digestNext { d.grantAt 4 r with digests := (d.grantAt 4 r).digests.erase (r + 4) } n else d.grantAt 4 r).digests } (if _ then _ else _)
      by_cases h : (d.grantAt 4 r).digests.contains (r + 4) = true
      · rw [if_pos h]
        exact (g.withDigests _).trans (ih { d.grantAt 4 r with digests := (d.grantAt 4 r).digests.erase (r + 4) })
      · rw [if_neg h]
        exact g.withDigests _
    · exact Dev.Aside.refl _

/-- A command whose outcome is the block f makes. -/
theorem Gives.intro {i : Instr} {s : State} {P : Dev → Prop} (d : Dev) (h : exec i s = .next { s with dev := d.settled })
    (p : P d.settled) : Gives i s P := ⟨_, h, rfl, p⟩

/-! ### A running lamp side -/

@[simp] theorem State.seen_running (s : State) : s.seen.running = s.dev.running := by unfold State.seen; rfl
@[simp] theorem State.seen_drv (s : State) (n : Nat) : s.seen.drv n = s.dev.drv n := by unfold State.seen; rfl
@[simp] theorem State.seen_mode (s : State) (n : Nat) : s.seen.mode n = s.dev.mode n := by unfold State.seen; rfl

/-- Where the lamps run the block is alive, operating, and shows levels that no darkening overrides. -/
theorem running_alive {d : Dev} (h : d.running = true) : d.alive = true ∧ d.darkened = false ∧ d.op = .operating := by
  have h' := h
  simp [Dev.running, Dev.darkened, Dev.isolates] at h
  obtain ⟨ho, h⟩ := h
  refine ⟨?_, ?_, ?_⟩ <;> simp_all [Dev.alive, Dev.frozen, Dev.darkened, Dev.isolates]

end Sys2Proof.Machine
end

