-- ==== Sys2Proof/Laws/Tables.lean ====
section
/-! SUPPORT. The canonical form of a sparse table (keys strictly rising, no entry equal to what an unlisted key reads
as), which every table operation keeps; and how many records a segment can take. -/
namespace Sys2Proof.Machine

/-- Keys strictly rising, all above a bound where one is given. -/
def rising {α : Type} : Option Nat → Tab α → Bool
  | _, [] => true
  | b, (k, _) :: r => (b.all fun j => decide (j < k)) && rising (some k) r

/-- The canonical form of the object store. -/
def Store.wf (m : Store) : Bool := rising none m && m.all fun e => decide (e.2 ≠ objDefault e.1)

theorem rising_weaken {α : Type} {m : Tab α} {b c : Nat} (h : rising (some b) m = true) (hc : c ≤ b) :
    rising (some c) m = true := by
  cases m with
  | nil => rfl
  | cons e r =>
    simp only [rising, Option.all_some, Bool.and_eq_true, decide_eq_true_eq] at h ⊢
    exact ⟨by omega, h.2⟩

theorem rising_tail {α : Type} {m : Tab α} {b : Option Nat} {k : Nat} {v : α} (h : rising b ((k, v) :: m) = true) :
    rising b m = true := by
  simp only [rising, Bool.and_eq_true] at h
  cases b with
  | none => cases m with
    | nil => rfl
    | cons e r => simp only [rising, Bool.and_eq_true] at h ⊢; exact ⟨rfl, h.2.2⟩
  | some c => exact rising_weaken h.2 (by simp at h; omega)

theorem rising_tabDrop {α : Type} (m : Tab α) (k : Nat) (b : Option Nat) (h : rising b m = true) :
    rising b (tabDrop m k) = true := by
  induction m generalizing b with
  | nil => rfl
  | cons e r ih =>
    obtain ⟨j, v⟩ := e
    by_cases hj : j = k
    · simpa only [tabDrop, if_pos hj] using ih b (rising_tail h)
    · simp only [rising, Bool.and_eq_true] at h
      simp only [tabDrop, if_neg hj, rising, Bool.and_eq_true]
      exact ⟨h.1, ih _ h.2⟩

theorem rising_tabIns {α : Type} (m : Tab α) (k : Nat) (v : α) (b : Option Nat) (h : rising b m = true)
    (hb : (b.all fun j => decide (j < k)) = true) : rising b (tabIns m k v) = true := by
  induction m generalizing b with
  | nil => simp [tabIns, rising, hb]
  | cons e r ih =>
    obtain ⟨j, w⟩ := e
    simp only [rising, Bool.and_eq_true] at h
    by_cases hj : j = k
    · subst hj; simp only [tabIns, if_true, rising, Bool.and_eq_true]; exact ⟨hb, h.2⟩
    · by_cases hk : k < j
      · simp only [tabIns, if_neg hj, if_pos hk, rising, Bool.and_eq_true]; exact ⟨hb, by simpa using hk, h.2⟩
      · simp only [tabIns, if_neg hj, if_neg hk, rising, Bool.and_eq_true]
        exact ⟨h.1, ih _ h.2 (by simp; omega)⟩

theorem mem_tabDrop {α : Type} {m : Tab α} {k : Nat} {e : Nat × α} (h : e ∈ tabDrop m k) : e ∈ m := by
  induction m with
  | nil => simp [tabDrop] at h
  | cons a r ih =>
    obtain ⟨j, v⟩ := a
    by_cases hj : j = k <;> simp only [tabDrop, hj, if_true, if_false] at h
    · exact List.mem_cons_of_mem _ (ih h)
    · rcases List.mem_cons.mp h with rfl | h
      · exact List.mem_cons_self
      · exact List.mem_cons_of_mem _ (ih h)

theorem mem_tabIns {α : Type} {m : Tab α} {k : Nat} {v : α} {e : Nat × α} (h : e ∈ tabIns m k v) : e = (k, v) ∨ e ∈ m := by
  induction m with
  | nil => simp [tabIns] at h; exact .inl h
  | cons a r ih =>
    obtain ⟨j, w⟩ := a
    by_cases hj : j = k
    · simp only [tabIns, hj, if_true, List.mem_cons] at h ⊢
      rcases h with h | h <;> simp [h]
    · by_cases hk : k < j <;> simp only [tabIns, hj, hk, if_true, if_false, List.mem_cons] at h ⊢
      · exact h
      · rcases h with h | h
        · simp [h]
        · rcases ih h with h | h <;> simp [h]

/-- Every write keeps the store canonical. -/
theorem Store.wf_storePut (m : Store) (k : Nat) (v : Val) (h : Store.wf m = true) : Store.wf (storePut m k v) = true := by
  simp only [Store.wf, Bool.and_eq_true, List.all_eq_true] at h ⊢
  unfold storePut
  split
  · exact ⟨rising_tabDrop _ _ _ h.1, fun e he => h.2 e (mem_tabDrop he)⟩
  · rename_i hv
    refine ⟨rising_tabIns _ _ _ _ h.1 rfl, fun e he => ?_⟩
    rcases mem_tabIns he with rfl | he
    · simpa using hv
    · exact h.2 e he

/-! ### Segments -/

theorem segRecords_length (r : JRec) (prev : Option Nat) : 4 ≤ (segRecords [r] prev).length := by
  have h (n : Nat) : 4 ≤ (r.bytes n).length := by simp [JRec.bytes, leBytes]
  have h1 := h r.at'
  have h2 := h (prev.getD r.at')
  simp only [segRecords, List.length_append]
  split <;> split <;> (try simp only [List.length_append]) <;> omega

/-- A record takes at least four bytes of a segment. -/
theorem segFit_le (l : List JRec) (prev : Option Nat) (room : Nat) : 4 * segFit l prev room ≤ room := by
  induction l generalizing prev room with
  | nil => simp [segFit]
  | cons r rest ih =>
    unfold segFit
    have h := segRecords_length r prev
    simp only
    split
    · have := ih (some r.at') (room - (segRecords [r] prev).length); omega
    · omega

end Sys2Proof.Machine
end

