-- ==== Sys2Proof/WellFormed.lean ====
section
/-! DEFINITION. Which commands are well formed: every operand within the field that carries it. A lamp quantity is a
reading of its object's type, a datagram carries at most 1024 bytes of data, and a ring frame its payload. -/
namespace Sys2Proof

/-- A value of 16, 32 or 64 bits. -/
def u16 (n : Nat) : Bool := decide (n < 2 ^ 16)
def u32 (n : Nat) : Bool := decide (n < 2 ^ 32)
def u64 (n : Nat) : Bool := decide (n < 2 ^ 64)

/-- The bytes of one part of a transfer: at most 1024 (R514). -/
def part (b : List Byte) : Bool := decide (b.length ≤ 1024)

/-- The tag of an authenticated write: none, or 16 bytes (R513). -/
def tagOk (t : List Byte) : Bool := decide (t.length = 0) || decide (t.length = 16)

/-- A write's origin. -/
def Origin.wf : Origin → Bool
  | .lane _ _ _ _ => true
  | .svc _ req counter tag => u32 req && u32 counter && tagOk tag

/-- A general write. -/
def WriteReq.wf : WriteReq → Bool
  | .voted _ _ _ _ _ b | .download _ _ _ b | .segment _ _ _ b _ => part b
  | .rpdo _ _ _ _ b => decide (b.length ≤ 60)
  | .malformed _ => true
  | .svc _ req counter tag _ off b => u32 req && u32 counter && tagOk tag && u32 off && part b

/-- The evidence of a pulse: readings of 32 bits, and a fraction of switching cycles. -/
def PulseEv.wf (e : PulseEv) : Bool := u32 e.iMean && u32 e.iPeak && u32 e.railMin && u32 e.railNow && decide (e.condNum ≤ e.condDen)

/-- The evidence of an optical window: no colour amplitudes, or twelve (R229). -/
def OpticalEv.wf (e : OpticalEv) : Bool := u32 e.na && (decide (e.colour.length = 0) || decide (e.colour.length = 12))

/-- What a return line brings: a value of as many bits as came back. -/
def GwReturn.wf : GwReturn → Bool
  | .word bits value _ => decide (value < 2 ^ bits)
  | .nothing => true

/-- Is a command well formed? -/
def Instr.wf (i : Instr) : Bool :=
  match i with
  | .resetNLow _ => true
  | .resetRelease _ _ => true
  | .kindleClocksLocked => true
  | .maskRomBoot => true
  | .emberRecoveryDone us discarded _ corrected => u32 us && u32 discarded && u32 corrected
  | .kindled dies rails => decide (dies.length ≤ 7) && decide (rails.length = 8) && rails.all u32
  | .kindleTimeout => true
  | .supplyBelowRange _ mv => u16 mv
  | .supplyAboveRange _ mv => u16 mv
  | .vkeepLow _ mv => u16 mv
  | .holdNFall => true
  | .vholdTrip mv => u32 mv
  | .holdupLowWarn mv => u32 mv
  | .holdupLowClear mv => u32 mv
  | .bankedRestart => true
  | .cricketLockLoss _ => true
  | .tempoWindowClose _ _ _ => true
  | .watchdogTokenTimeout _ => true
  | .watchdogRefWindow _ => true
  | .groupFrameBoundary _ _ means => decide (means.length ≤ 4)
  | .buckPeakCrossing _ => true
  | .buckOffTimeExpiry _ _ => true
  | .buckPeakTimeout _ => true
  | .shortHiCrossing _ => true
  | .softOffComplete _ => true
  | .softOffTimeout _ => true
  | .latchRetryTimer _ => true
  | .retryPeriodClean _ => true
  | .evidenceClose _ ev => ev.wf
  | .dcEIntervalEnd _ ev => ev.wf
  | .darkOpenLoCrossing _ => true
  | .darkDrainSample _ uv rail => u32 uv && u32 rail
  | .litWhenDarkDebounce _ => true
  | .isolationVerify _ drains => decide (drains.length = 4) && drains.all u32
  | .probeDue _ => true
  | .probeEnd _ _ => true
  | .warmingPulseJudge _ _ _ => true
  | .opticalWindowClose _ ev => ev.wf
  | .lifeUpdateSecond => true
  | .deratingUpdate => true
  | .recalibrationDay => true
  | .ntcConversion _ _ => true
  | .kgndMeasurement _ _ => true
  | .railDipDebounce _ mv => u32 mv
  | .railDipClear _ mv => u32 mv
  | .hoRail0Below mv => u32 mv
  | .hoRail0Return mv => u32 mv
  | .hoQualifyExpiry => true
  | .hoHandoverDwell => true
  | .hoReturnDue => true
  | .hoCutoffRecover => true
  | .batteryCutoff mv => u32 mv
  | .batteryCutoffEnd mv => u32 mv
  | .batteryRestPoint mv => u32 mv
  | .autonomyUpdate => true
  | .wakeEdge => true
  | .laneHeartbeatRx _ _ _ => true
  | .laneTimeRx _ trainUs => u64 trainUs
  | .laneSyncRx _ _ => true
  | .nmtStartRemoteNode _ _ => true
  | .nmtStopRemoteNode _ _ => true
  | .nmtEnterPreOperational _ _ => true
  | .nmtResetNode _ _ => true
  | .nmtResetCommunication _ _ => true
  | .usdoUpload _ _ _ => true
  | .usdoSegmentTimeout _ => true
  | .voteWindowClose _ _ => true
  | .laneSilentTimeout _ => true
  | .laneTimeout _ => true
  | .laneReadmit _ => true
  | .laneBusOff _ => true
  | .laneBusOffRecovered _ => true
  | .emcyWindow _ => true
  | .heartbeatPeriod _ => true
  | .tpdoEventTimer _ => true
  | .statusPdoSend => true
  | .voteDisagreeClear _ => true
  | .claimConflictClear _ => true
  | .safeAspectDelay _ => true
  | .holdOffExpiry _ => true
  | .coalescingWindowClose _ => true
  | .dimLevel o _ _ => o.wf
  | .sgRequest o _ _ => o.wf
  | .peChBind o _ _ => o.wf
  | .peStart o _ => o.wf
  | .peStop o _ => o.wf
  | .peJumpSeg o _ _ => o.wf
  | .gwData o _ data => o.wf && part data
  | .gwSwap o _ => o.wf
  | .mxRow o _ data => o.wf && part data
  | .mxSwap o => o.wf
  | .supClear o _ _ => o.wf
  | .lifeReset o _ => o.wf
  | .clBudgetNowMw o _ _ => o.wf
  | .clRetain o _ data => o.wf && part data
  | .fenceIssue o _ _ => o.wf
  | .fenceTimeout _ => true
  | .tkFence o _ _ => o.wf
  | .capTrigger o => o.wf
  | .capFreeze o _ => o.wf
  | .capUnfreeze o _ => o.wf
  | .cfgStageOpen o => o.wf
  | .cfgStageComplete o => o.wf
  | .cfgStageDiscard o => o.wf
  | .stagedWrite o _ data => o.wf && part data
  | .stageOpenDone => true
  | .stagingChecksDone => true
  | .cfgActivate o data => o.wf && part data
  | .activationInstant => true
  | .cfgConfirm o _ => o.wf
  | .calNow o _ => o.wf
  | .cicadaEnter o => o.wf
  | .errFieldCount o _ => o.wf
  | .lcRequestProvision o _ => o.wf
  | .lcRequestService o _ => o.wf
  | .lcRequestRetired o _ => o.wf
  | .lcMaintEnter o => o.wf
  | .lcMaintLeave o => o.wf
  | .maintLimitExpiry => true
  | .keyInstall o data => o.wf && part data
  | .fwUpdOpen o => o.wf
  | .fwEraseDone => true
  | .fwUpdVerify o => o.wf
  | .fwVerifyDone => true
  | .fwUpdActivate o => o.wf
  | .fwUpdAbandon o => o.wf
  | .fwConfirm o _ => o.wf
  | .probationExpiry => true
  | .replayEnter o => o.wf
  | .replayStart o => o.wf
  | .replayDiscard o => o.wf
  | .replayInput => true
  | .xbBuild o => o.wf
  | .xbBuildDone => true
  | .ttEngineEnter o => o.wf
  | .ttEngineRun o => o.wf
  | .testEngineDone _ _ => true
  | .lkStart o => o.wf
  | .lkStop o => o.wf
  | .linkCheckDurationEnd _ _ => true
  | .writeRegister w => w.wf
  | .svcRead _ req _ _ offset length => u32 req && u32 offset && u16 length
  | .authChallenge _ req => u32 req
  | .authResponse _ req hostNonce response => u32 req && decide (hostNonce.length = 16) && decide (response.length = 32)
  | .sessionClose _ req counter tag => u32 req && u32 counter && tagOk tag
  | .authIdleExpiry => true
  | .authLockoutExpiry => true
  | .journalInfo _ req => u32 req
  | .segmentRead _ req seg offset length => u32 req && u64 seg && u32 offset && u16 length
  | .extractRead _ req offset length => u32 req && u64 offset && u16 length
  | .extractLoad _ req counter tag offset data => u32 req && u32 counter && tagOk tag && u64 offset && part data
  | .extractLoadFinal _ req counter tag offset data => u32 req && u32 counter && tagOk tag && u64 offset && part data
  | .fwBlock _ req counter tag block part' crc data => u32 req && u32 counter && tagOk tag && u16 block && decide (part' < 4) && u32 crc && part data
  | .arpRequest _ target => u32 target
  | .icmpEcho _ target _ => u32 target
  | .periodicBankDue => true
  | .earlyBankDue => true
  | .bankEnd _ _ => true
  | .emberCompaction => true
  | .patrolStart => true
  | .patrolComplete _ _ => true
  | .journalRecoveryDone _ => true
  | .segmentSeal => true
  | .journalEraseBatch _ _ _ => true
  | .overrunRecord => true
  | .journalOverrunClear => true
  | .captureSramFull => true
  | .capturePostEnd => true
  | .captureDrainDone _ _ => true
  | .viresquePacketFail _ => true
  | .ringTimeSend => true
  | .ringTimeRx r => u32 r.seq && u64 r.stamp && u64 r.window
  | .delayReqPeriod _ => true
  | .delayReqRx _ _ seq => u32 seq
  | .delayRespRx _ seq t2 t3 => u32 seq && u64 t2 && u64 t3
  | .timeMapRx seq train ringTime => u32 seq && u64 train && u64 ringTime
  | .ringCommandRx f => u32 f.seq && decide (f.data.length ≤ 496)
  | .aspectCommitRx seq _ _ t commitSeq => u32 seq && u64 t && u32 commitSeq
  | .commitRepeat => true
  | .fenceMarkRx seq _ k => u32 seq && decide (k < 2 ^ 24)
  | .nakRx _ _ seq => u32 seq
  | .dictReqRx req _ _ => u32 req.seq
  | .dictRespRx _ seq req _ data => u32 seq && u16 req && decide (data.length ≤ 496)
  | .statusSend => true
  | .statusRx st => u32 st.seq && decide (st.data.length ≤ 496)
  | .conditionFrameRx _ seq kind code source detail at' _ => u32 seq && decide (kind < 16) && u16 code && u16 source && u32 detail && u64 at'
  | .telemetrySend => true
  | .telemetryRx _ seq data => u32 seq && decide (data.length ≤ 496)
  | .insertionWindowStart => true
  | .joinRx j => u32 j.seq && u64 j.serial && decide (j.channels.length ≤ 96)
  | .joinRetry => true
  | .admitRx seq _ ringTime => u32 seq && u64 ringTime
  | .joinRefusalRx _ _ => true
  | .ringTimeLoss => true
  | .bypassCheck silent => silent.all fun p => decide (p < 16)
  | .foreignRingTime serial => u64 serial
  | .hopDown _ _ => true
  | .hopRestore _ => true
  | .testGrantSend => true
  | .testGrantRx seq _ => u32 seq
  | .testGrantMissing => true
  | .slicePhase r => decide (r.bit < 64)
  | .sliceGrantTimeout => true
  | .finRawEdge _ _ => true
  | .finDebounceExpiry _ => true
  | .finBreakEnter _ => true
  | .finBreakExit _ => true
  | .gwFrameStart _ => true
  | .gwReturnJudge _ ret => ret.wf
  | .mxFrameStart => true
  | .mxSlotStart slot => decide (slot.currents.length = 32)
  | .msyncEdge _ => true
  | .msyncLoss => true
  | .jtagExtest => true
  | .jtagIdcode => true
  | .jtagSamplePreload => true
  | .jtagClamp => true
  | .jtagHighz => true
  | .jtagExtestPulse => true
  | .jtagExtestTrain => true
  | .jtagBypass => true
  | .pulseOnEdge _ => true
  | .pulseOffEdge _ => true
  | .inrushWindowEnd _ => true
  | .darkOpenLoFall _ => true
  | .watchdogToken _ => true
  | .uncorrectableSramError _ => true
  | .insertionWindowEnd => true
  | .preTriggerWindowFilled => true
  | .batterySample mv _ => u32 mv
  | .rail0StableChange _ => true
  | .hopLockRegained _ => true
  | .finUnknownEnd _ => true
  | .sliceEnd => true
  | .testLogicReset => true

end Sys2Proof
end

