-- ==== Sys2Proof/Tests/Slice0.lean ====
section
/-! SUPPORT. Tests: an ill-formed term for each check of WellFormed, which the check refuses; for every statement that
has premises, concrete states and operands that meet them, clause by clause (witness_<statement>); and single steps
whose outcome the spec's tables and worked values give (test_<what>). -/
namespace Sys2Proof.Tests
open Sys2Proof Sys2Proof.Machine
set_option maxRecDepth 4000
set_option Elab.async false

/-! ### Small states -/

/-- A block in operation, kindled, its group operational and every object at its reset value. -/
def idle : State :=
  ⟨{ op := .operating, power := { kindlingEnded := true }, dict := [(Obj.KINDLE_PHASE, .num 6)], lanes := { nmt := 5 } }, []⟩
/-- The evidence of a pulse that measured nothing. -/
def noEv : PulseEv := ⟨none, [], [], 0, 0, none, 0, 0, 0, 0, 0⟩
/-- An optical window that measured nothing. -/
def noOpt : OpticalEv := ⟨0, false, false, 0, []⟩
/-- A bank with nothing to commit. -/
def noBank : Bank := ⟨0, 0, 0, [], [], [], []⟩
def up (s : State) (f : Dev → Dev) : State := { s with dev := f s.dev }
def setN (k v : Nat) (s : State) : State := up s fun d => { d with dict := tabIns d.dict k (.num v) }
def setB (k : Nat) (v : List Byte) (s : State) : State := up s fun d => { d with dict := tabIns d.dict k (.bytes v) }
def setCh (n : Nat) (f : Chan → Chan) (s : State) : State := up s fun d => { d with chan := tabIns d.chan n (f (d.ch n)) }
def setGr (n : Nat) (f : Grp → Grp) (s : State) : State := up s fun d => { d with grp := tabIns d.grp n (f (d.gr n)) }
def setFi (n : Nat) (f : Fin' → Fin') (s : State) : State := up s fun d => { d with fin := tabIns d.fin n (f (d.fi n)) }
def setGw (n : Nat) (f : Gw → Gw) (s : State) : State := up s fun d => { d with gw := tabIns d.gw n (f (d.port n)) }
def setLn (n : Nat) (f : LaneSt → LaneSt) (s : State) : State :=
  up s fun d => { d with lanes := { d.lanes with lane := tabIns d.lanes.lane n (f (d.ln n)) } }
def setCl (n : Nat) (f : Client → Client) (s : State) : State :=
  up s fun d => { d with lanes := { d.lanes with client := tabIns d.lanes.client n (f (d.cl n)) } }
def setFg (n : Nat) (f : Fence → Fence) (s : State) : State :=
  up s fun d => { d with lanes := { d.lanes with fence := tabIns d.lanes.fence n (f (d.fg n)) } }
def setHop (n : Nat) (f : Hop → Hop) (s : State) : State :=
  up s fun d => { d with ring := { d.ring with hop := tabIns d.ring.hop n (f (d.hop n)) } }
def setSrc (n : Nat) (f : SrcRep → SrcRep) (s : State) : State :=
  up s fun d => { d with rep := { d.rep with src := tabIns d.rep.src n (f (d.srcOf n)) } }
def setSlot (n : Nat) (f : Slot → Slot) (s : State) : State :=
  up s fun d => { d with admin := { d.admin with slot := tabIns d.admin.slot n (f (d.slot n)) } }
def setLf (n : Nat) (f : LifeSt → LifeSt) (s : State) : State := up s fun d => { d with life := tabIns d.life n (f (d.lf n)) }
def setNow (n : Nat) (s : State) : State := up s fun d => { d with now := n }
def fOp (o : OpState) (s : State) : State := up s fun d => { d with op := o }
def fLc (o : LcState) (s : State) : State := up s fun d => { d with lc := o }
/-- A ring role that conducts: a master that has not yielded, or a member. -/
def fRole (n : Nat) (s : State) : State := up (setN Obj.RING_ROLE n s) fun d => { d with ring := { d.ring with yielded := false } }
/-- A session of the service port with peer 4, its key two bytes, its last counter 5. -/
def fSession (s : State) : State :=
  up s fun d => { d with admin := { d.admin with sessionOpen := true, sessionPeer := 4, sessionKey := [1, 2], lastCounter := 5, nonce := none } }
/-- Operating, lanes A and B alive, client 3 of class SAFETY; lane A has brought client 3's write of these bytes. -/
def heard (key : Nat) (b : List Byte) (s : State) : State :=
  up (setN Obj.NODE_BASE 10 (setN (Obj.LN_STATE 0) 2 (setN (Obj.LN_STATE 1) 2 (setN (Obj.CL_CLASS 3) 0 s)))) fun d =>
    { d with lc := .service, lanes := { d.lanes with
        wins := [⟨3, 7, d.now, [(0, leBytes 1 10 ++ (envelopeOf 3 7 key b).drop 4)], none, 0⟩] } }

/-! ### Well-formedness: an ill-formed term for each check, and a well-formed one beside it -/

theorem test_wf_refuses_a : ∀ i ∈ ([.emberRecoveryDone (2 ^ 32) 0 [] 0, .emberRecoveryDone 0 (2 ^ 32) [] 0, .emberRecoveryDone 0 0 [] (2 ^ 32),
    .kindled (List.replicate 8 true) (List.replicate 8 0), .kindled [] [0], .kindled [] (2 ^ 32 :: List.replicate 7
    0), .supplyBelowRange 0 65536, .supplyAboveRange 0 65536, .vkeepLow true 65536, .vholdTrip (2 ^ 32), .holdupLowWarn
    (2 ^ 32), .holdupLowClear (2 ^ 32), .groupFrameBoundary 0 true (List.replicate 5 none), .evidenceClose 0 ({ noEv with
    iMean := 2 ^ 32 }), .dcEIntervalEnd 0 ({ noEv with iMean := 2 ^ 32 }), .darkDrainSample 0 (2 ^ 32) 0,
    .darkDrainSample 0 0 (2 ^ 32), .isolationVerify 0 [0], .isolationVerify 0 (2 ^ 32 :: List.replicate 3 0),
    .opticalWindowClose 0 ⟨2 ^ 32, false, false, 0, []⟩, .railDipDebounce 0 (2 ^ 32), .railDipClear 0 (2 ^ 32),
    .hoRail0Below (2 ^ 32), .hoRail0Return (2 ^ 32), .batteryCutoff (2 ^ 32), .batteryCutoffEnd (2 ^ 32), .batteryRestPoint
    (2 ^ 32), .laneTimeRx .a (2 ^ 64), .dimLevel (.svc 0 0 0 [0]) 0 0, .sgRequest (.svc 0 0 0 [0]) 0 0, .peChBind (.svc
    0 0 0 [0]) 0 0, .peStart (.svc 0 0 0 [0]) 0, .peStop (.svc 0 0 0 [0]) 0, .peJumpSeg (.svc 0 0 0 [0]) 0 0,
    .gwData (.svc 0 0 0 [0]) 0 [], .gwData (.lane .a 0 0 0) 0 (List.replicate 1025 0), .gwSwap (.svc 0 0 0 [0]) 0,
    .mxRow (.svc 0 0 0 [0]) 0 [], .mxRow (.lane .a 0 0 0) 0 (List.replicate 1025 0), .mxSwap (.svc 0 0 0 [0])] : List Instr), i.wf = false := by decide +kernel

theorem test_wf_refuses_b : ∀ i ∈ ([.supClear (.svc 0 0 0 [0]) 0 0, .lifeReset (.svc 0 0 0 [0]) 0, .clBudgetNowMw (.svc 0 0 0 [0]) 0 0, .clRetain
    (.svc 0 0 0 [0]) 0 [], .clRetain (.lane .a 0 0 0) 0 (List.replicate 1025 0), .fenceIssue (.svc 0 0 0 [0]) 0 0,
    .tkFence (.svc 0 0 0 [0]) 0 0, .capTrigger (.svc 0 0 0 [0]), .capFreeze (.svc 0 0 0 [0]) 0, .capUnfreeze (.svc 0
    0 0 [0]) 0, .cfgStageOpen (.svc 0 0 0 [0]), .cfgStageComplete (.svc 0 0 0 [0]), .cfgStageDiscard (.svc 0 0 0
    [0]), .stagedWrite (.svc 0 0 0 [0]) 0 [], .stagedWrite (.lane .a 0 0 0) 0 (List.replicate 1025 0), .cfgActivate
    (.svc 0 0 0 [0]) [], .cfgActivate (.lane .a 0 0 0) (List.replicate 1025 0), .cfgConfirm (.svc 0 0 0 [0]) 0,
    .calNow (.svc 0 0 0 [0]) 0, .cicadaEnter (.svc 0 0 0 [0]), .errFieldCount (.svc 0 0 0 [0]) 0,
    .lcRequestProvision (.svc 0 0 0 [0]) 0, .lcRequestService (.svc 0 0 0 [0]) 0, .lcRequestRetired (.svc 0 0 0 [0])
    0, .lcMaintEnter (.svc 0 0 0 [0]), .lcMaintLeave (.svc 0 0 0 [0]), .keyInstall (.svc 0 0 0 [0]) [], .keyInstall
    (.lane .a 0 0 0) (List.replicate 1025 0), .fwUpdOpen (.svc 0 0 0 [0]), .fwUpdVerify (.svc 0 0 0 [0]),
    .fwUpdActivate (.svc 0 0 0 [0]), .fwUpdAbandon (.svc 0 0 0 [0]), .fwConfirm (.svc 0 0 0 [0]) 0, .replayEnter
    (.svc 0 0 0 [0]), .replayStart (.svc 0 0 0 [0]), .replayDiscard (.svc 0 0 0 [0]), .xbBuild (.svc 0 0 0 [0]),
    .ttEngineEnter (.svc 0 0 0 [0]), .ttEngineRun (.svc 0 0 0 [0]), .lkStart (.svc 0 0 0 [0])] : List Instr), i.wf = false := by decide +kernel

theorem test_wf_refuses_c : ∀ i ∈ ([.lkStop (.svc 0 0 0 [0]), .writeRegister (.rpdo .a 0 0 0 (List.replicate 61 0)), .svcRead 0 (2 ^ 32) 0 true 0 0,
    .svcRead 0 0 0 true (2 ^ 32) 0, .svcRead 0 0 0 true 0 65536, .authChallenge 0 (2 ^ 32), .authResponse 0 (2 ^ 32)
    (List.replicate 16 0) (List.replicate 32 0), .authResponse 0 0 [0] (List.replicate 32 0), .authResponse 0 0
    (List.replicate 16 0) [0], .sessionClose 0 (2 ^ 32) 0 [], .sessionClose 0 0 (2 ^ 32) [], .sessionClose 0 0 0
    [0], .journalInfo 0 (2 ^ 32), .segmentRead 0 (2 ^ 32) 0 0 0, .segmentRead 0 0 (2 ^ 64) 0 0, .segmentRead 0 0 0
    (2 ^ 32) 0, .segmentRead 0 0 0 0 65536, .extractRead 0 (2 ^ 32) 0 0, .extractRead 0 0 (2 ^ 64) 0, .extractRead 0
    0 0 65536, .extractLoad 0 (2 ^ 32) 0 [] 0 [], .extractLoad 0 0 (2 ^ 32) [] 0 [], .extractLoad 0 0 0 [0] 0 [],
    .extractLoad 0 0 0 [] (2 ^ 64) [], .extractLoad 0 0 0 [] 0 (List.replicate 1025 0), .extractLoadFinal 0 (2 ^ 32)
    0 [] 0 [], .extractLoadFinal 0 0 (2 ^ 32) [] 0 [], .extractLoadFinal 0 0 0 [0] 0 [], .extractLoadFinal 0 0 0 []
    (2 ^ 64) [], .extractLoadFinal 0 0 0 [] 0 (List.replicate 1025 0), .fwBlock 0 (2 ^ 32) 0 [] 0 0 0 [], .fwBlock 0
    0 (2 ^ 32) [] 0 0 0 [], .fwBlock 0 0 0 [0] 0 0 0 [], .fwBlock 0 0 0 [] 65536 0 0 [], .fwBlock 0 0 0 [] 0 4 0 [],
    .fwBlock 0 0 0 [] 0 0 (2 ^ 32) [], .fwBlock 0 0 0 [] 0 0 0 (List.replicate 1025 0), .arpRequest 0 (2 ^ 32),
    .icmpEcho 0 (2 ^ 32) [], .ringTimeRx ⟨0, 2 ^ 32, 0, false, 0, 0, 0, 0⟩] : List Instr), i.wf = false := by decide +kernel

theorem test_wf_refuses_d : ∀ i ∈ ([.ringTimeRx ⟨0, 0, 0, false, 2 ^ 64, 0, 0, 0⟩, .ringTimeRx ⟨0, 0, 0, false, 0, 0, 2 ^ 64, 0⟩, .delayReqRx 0 0
    (2 ^ 32), .delayRespRx 0 (2 ^ 32) 0 0, .delayRespRx 0 0 (2 ^ 64) 0, .delayRespRx 0 0 0 (2 ^ 64), .timeMapRx (2 ^ 32) 0 0,
    .timeMapRx 0 (2 ^ 64) 0, .timeMapRx 0 0 (2 ^ 64), .ringCommandRx ⟨0, 2 ^ 32, true, true, none, 0, 0, 0, []⟩,
    .ringCommandRx ⟨0, 0, true, true, none, 0, 0, 0, List.replicate 497 0⟩, .aspectCommitRx (2 ^ 32) 0 0 0 0,
    .aspectCommitRx 0 0 0 (2 ^ 64) 0, .aspectCommitRx 0 0 0 0 (2 ^ 32), .fenceMarkRx (2 ^ 32) 0 0, .fenceMarkRx 0 0 (2
    ^ 24), .nakRx 0 0 (2 ^ 32), .dictReqRx ⟨0, 2 ^ 32⟩ 0 none, .dictRespRx 0 (2 ^ 32) 0 0 [], .dictRespRx 0 0 65536 0 [],
    .dictRespRx 0 0 0 0 (List.replicate 497 0), .statusRx ⟨0, 2 ^ 32, []⟩, .statusRx ⟨0, 0, List.replicate 497 0⟩,
    .conditionFrameRx 0 (2 ^ 32) 0 0 0 0 0 [], .conditionFrameRx 0 0 16 0 0 0 0 [], .conditionFrameRx 0 0 0 65536 0 0 0
    [], .conditionFrameRx 0 0 0 0 65536 0 0 [], .conditionFrameRx 0 0 0 0 0 (2 ^ 32) 0 [], .conditionFrameRx 0 0 0 0
    0 0 (2 ^ 64) [], .telemetryRx 0 (2 ^ 32) [], .telemetryRx 0 0 (List.replicate 497 0), .joinRx ⟨1, 2 ^ 32, 1, 0, 0,
    0, [], [], []⟩, .joinRx ⟨1, 0, 1, 2 ^ 64, 0, 0, [], [], []⟩, .joinRx ⟨1, 0, 1, 0, 0, 0, [], [], List.replicate
    97 (0, 0, 0)⟩, .admitRx (2 ^ 32) 0 0, .admitRx 0 0 (2 ^ 64), .bypassCheck [16], .foreignRingTime (2 ^ 64),
    .testGrantRx (2 ^ 32) 0, .slicePhase ⟨true, true, true, 0, 64, 0, none⟩] : List Instr), i.wf = false := by decide +kernel

theorem test_wf_refuses_e : ∀ i ∈ ([.gwReturnJudge 0 (.word 4 16 0), .mxSlotStart ⟨[0], true⟩, .batterySample (2 ^ 32) 0] : List Instr), i.wf = false := by decide +kernel

theorem test_wf_accepts : ∀ i ∈ ([.emberRecoveryDone 0 0 [] 0, .kindled [] (List.replicate 8 0), .supplyBelowRange 0 0, .supplyAboveRange 0 0,
    .vkeepLow true 0, .vholdTrip 0, .holdupLowWarn 0, .holdupLowClear 0, .groupFrameBoundary 0 true [],
    .evidenceClose 0 noEv, .dcEIntervalEnd 0 noEv, .darkDrainSample 0 0 0, .isolationVerify 0 (List.replicate 4 0),
    .opticalWindowClose 0 ⟨0, false, false, 0, []⟩, .railDipDebounce 0 0, .railDipClear 0 0, .hoRail0Below 0,
    .hoRail0Return 0, .batteryCutoff 0, .batteryCutoffEnd 0, .batteryRestPoint 0, .laneTimeRx .a 0, .dimLevel (.lane
    .a 0 0 0) 0 0, .sgRequest (.lane .a 0 0 0) 0 0, .peChBind (.lane .a 0 0 0) 0 0, .peStart (.lane .a 0 0 0) 0,
    .peStop (.lane .a 0 0 0) 0, .peJumpSeg (.lane .a 0 0 0) 0 0, .gwData (.lane .a 0 0 0) 0 [], .gwSwap (.lane .a 0
    0 0) 0, .mxRow (.lane .a 0 0 0) 0 [], .mxSwap (.lane .a 0 0 0), .supClear (.lane .a 0 0 0) 0 0, .lifeReset
    (.lane .a 0 0 0) 0, .clBudgetNowMw (.lane .a 0 0 0) 0 0, .clRetain (.lane .a 0 0 0) 0 [], .fenceIssue (.lane .a
    0 0 0) 0 0, .tkFence (.lane .a 0 0 0) 0 0, .capTrigger (.lane .a 0 0 0), .capFreeze (.lane .a 0 0 0) 0,
    .capUnfreeze (.lane .a 0 0 0) 0, .cfgStageOpen (.lane .a 0 0 0), .cfgStageComplete (.lane .a 0 0 0),
    .cfgStageDiscard (.lane .a 0 0 0), .stagedWrite (.lane .a 0 0 0) 0 [], .cfgActivate (.lane .a 0 0 0) [],
    .cfgConfirm (.lane .a 0 0 0) 0, .calNow (.lane .a 0 0 0) 0, .cicadaEnter (.lane .a 0 0 0), .errFieldCount (.lane
    .a 0 0 0) 0, .lcRequestProvision (.lane .a 0 0 0) 0, .lcRequestService (.lane .a 0 0 0) 0, .lcRequestRetired
    (.lane .a 0 0 0) 0, .lcMaintEnter (.lane .a 0 0 0), .lcMaintLeave (.lane .a 0 0 0), .keyInstall (.lane .a 0 0 0)
    [], .fwUpdOpen (.lane .a 0 0 0), .fwUpdVerify (.lane .a 0 0 0), .fwUpdActivate (.lane .a 0 0 0), .fwUpdAbandon
    (.lane .a 0 0 0), .fwConfirm (.lane .a 0 0 0) 0, .replayEnter (.lane .a 0 0 0), .replayStart (.lane .a 0 0 0),
    .replayDiscard (.lane .a 0 0 0), .xbBuild (.lane .a 0 0 0), .ttEngineEnter (.lane .a 0 0 0), .ttEngineRun (.lane
    .a 0 0 0), .lkStart (.lane .a 0 0 0), .lkStop (.lane .a 0 0 0), .writeRegister (.malformed .a), .svcRead 0 0 0
    true 0 0, .authChallenge 0 0, .authResponse 0 0 (List.replicate 16 0) (List.replicate 32 0), .sessionClose 0 0 0
    [], .journalInfo 0 0, .segmentRead 0 0 0 0 0, .extractRead 0 0 0 0, .extractLoad 0 0 0 [] 0 [],
    .extractLoadFinal 0 0 0 [] 0 [], .fwBlock 0 0 0 [] 0 0 0 [], .arpRequest 0 0, .icmpEcho 0 0 [], .ringTimeRx ⟨0,
    0, 0, false, 0, 0, 0, 0⟩, .delayReqRx 0 0 0, .delayRespRx 0 0 0 0, .timeMapRx 0 0 0, .ringCommandRx ⟨0, 0, true,
    true, none, 0, 0, 0, []⟩, .aspectCommitRx 0 0 0 0 0, .fenceMarkRx 0 0 0, .nakRx 0 0 0, .dictReqRx ⟨0, 0⟩ 0 none,
    .dictRespRx 0 0 0 0 [], .statusRx ⟨0, 0, []⟩, .conditionFrameRx 0 0 0 0 0 0 0 [], .telemetryRx 0 0 [], .joinRx
    ⟨1, 0, 1, 0, 0, 0, [], [], []⟩, .admitRx 0 0 0, .bypassCheck [], .foreignRingTime 0, .testGrantRx 0 0,
    .slicePhase ⟨true, true, true, 0, 0, 0, none⟩, .gwReturnJudge 0 .nothing, .mxSlotStart ⟨List.replicate 32 0, true⟩,
    .batterySample 0 0] : List Instr), i.wf = true := by decide +kernel

theorem test_wf_origin : (∀ o ∈ ([.svc 0 (2 ^ 32) 0 [], .svc 0 0 (2 ^ 32) [], .svc 0 0 0 [0]] : List Origin), o.wf = false) ∧
    (∀ o ∈ ([.lane .c 127 511 65535, .svc 0 0 0 [], .svc 0 (2 ^ 32 - 1) (2 ^ 32 - 1) (List.replicate 16 0)] : List Origin), o.wf = true) := by
  decide +kernel

theorem test_wf_write : (∀ w ∈ ([.voted .a 0 0 0 0 (List.replicate 1025 0), .download .a 0 0 (List.replicate 1025 0),
      .segment .a 0 0 (List.replicate 1025 0) true, .rpdo .a 0 0 0 (List.replicate 61 0), .svc 0 (2 ^ 32) 0 [] 0 0 [], .svc 0 0 (2 ^ 32) [] 0 0 [],
      .svc 0 0 0 [0] 0 0 [], .svc 0 0 0 [] 0 (2 ^ 32) [], .svc 0 0 0 [] 0 0 (List.replicate 1025 0)] : List WriteReq), w.wf = false) ∧
    (∀ w ∈ ([.voted .a 0 0 0 0 [0], .malformed .b, .rpdo .a 0 0 0 (List.replicate 60 0), .svc 0 0 0 [] 0 0 []] : List WriteReq), w.wf = true) := by
  decide +kernel

theorem test_wf_evidence : (∀ e ∈ ([{ noEv with iPeak := 2 ^ 32 }, { noEv with railMin := 2 ^ 32 }, { noEv with railNow := 2 ^ 32 },
      { noEv with condNum := 1 }] : List PulseEv), e.wf = false) ∧
    (⟨0, false, false, 0, [0]⟩ : OpticalEv).wf = false ∧ (⟨0, false, false, 0, List.replicate 12 0⟩ : OpticalEv).wf = true := by
  decide +kernel

/-! ### Decoding: the table gives its rows no bits -/

theorem test_no_word_decodes : decodeTableWord 0 0 = none ∧ decodeTableWord 8 255 = none ∧ decodeTableWord 64 (2 ^ 64 - 1) = none := by
  decide

theorem test_fetch_word_keeps : idle.withFetchWord 32 7 = idle := by decide +kernel

/-! ### Figures of the spec's worked examples -/

/-- 00_scope: the dictionary entry 0x3024.02 is CH02's SUP_CONTINUITY. -/
theorem test_channel_object : Obj.SUP_CONTINUITY 2 = 256 * 0x3024 + 2 := by decide

/-- 01_architecture: train time 7,200,250,000 us on the mapping 7,200,000,000 us at 3,912,440,017. -/
theorem test_train_time : ({ idle.dev with ring := { idle.dev.ring with trainMap := some (7200000000, 3912440017) } } : Dev).fromTrain 7200250000 =
    3937440017 := by decide +kernel

/-- 02_lamp_channels: f_max of the BUCK head lamp reads 479,491 Hz, its gate-drive power 158,234 uW. -/
theorem test_head_lamp : let d := (setN (Obj.CH_MODE 0) 2 (setN (Obj.CH_RAIL 0) 1 (setN (Obj.RAIL_MAX_MV 1) 154000 (setN (Obj.CH_L_NOM 0) 180000
      (setN (Obj.CH_L_TOL_PM 0) 200 (setN (Obj.CH_DIODE_VF 0) 1000 (setN (Obj.CH_FET_QG 0) 22000 (setN (Obj.PF_RIPPLE_PM 0) 300
      (setN (Obj.PF_I_NOM 0) 1500000 (setN (Obj.PF_VF_MIN 0) 34000 (setN (Obj.PF_VF_MAX 0) 42000 (setN (Obj.PF_PROBE_ALLOWED 0) 1
      (setN (Obj.CH_PROFILE 0) 0 idle))))))))))))).dev
    d.fswMax 0 = 479491 ∧ d.gatePower 0 = 158234 := by decide +kernel +zetaReduce

/-- 03_dimming_timing: level 19,661 at 1000 Hz is on for 960,009 edge units. 04_supervision: level 262 at 2000 Hz for 6396. -/
theorem test_on_edges :
    (setGr 0 (fun g => { g with frameEdges := 3200000 }) (setN (Obj.GRP_PERIOD_EDGES 0) 3200000 (setN (Obj.GRP_PERIOD_TICKS 0) 100000 idle))).dev.onEdges 0 19661
      = 960009 ∧
    (setGr 0 (fun g => { g with frameEdges := 1600000 }) (setN (Obj.GRP_PERIOD_EDGES 0) 1600000 (setN (Obj.GRP_PERIOD_TICKS 0) 50000 idle))).dev.onEdges 0 262
      = 6396 := by decide +kernel

/-- 07_effects: a supervised chain of 256 nodes of 32 bits takes 5277.2 us, a standard one of 24 bits 7780 us. -/
theorem test_glowworm_time :
    (setN (Obj.GW_MODE 0) 2 (setN (Obj.GW_NODES 0) 256 (setN (Obj.GW_NODE_BITS 0) 32 (setN (Obj.GW_NODE_DELAY_NS 0) 300 idle)))).dev.gwFrameTenths 0
      = 52772000 ∧
    (setN (Obj.GW_MODE 0) 1 (setN (Obj.GW_NODES 0) 256 (setN (Obj.GW_NODE_BITS 0) 24 idle))).dev.gwFrameTenths 0 = 77800000 := by decide +kernel

/-- 07_effects: the segments of the door lamps' program. -/
theorem test_segments : [segKind 0x10805000FFFF0000, segNext 0x10805000FFFF0000, segCount 0x10805000FFFF0000] = [1, 1, 5] ∧
    segLevel 0x10805000FFFF0000 0 0 = 65535 ∧ [segKind 0x18001000FFFF0000, segNext 0x18001000FFFF0000, segCount 0x18001000FFFF0000] = [1, 16, 1] := by
  decide +kernel

/-- 08_lanes_clients: 24 strips of 8400 mW at 29,491 use 90,720 mW; a budget of 45,000 mW gives y = 32,509; one of
15,000 mW leaves an overdraw of 5184 mW. -/
theorem test_budget : let d := (setN (Obj.PF_POWER_NOM 0) 8400 (setN (Obj.PF_LEVEL_MIN 0) 6554 idle)).dev
    let l := (List.range 24).map fun i => (24 + i, 29491)
    d.tot l 65536 = 90720 ∧ d.yieldTarget l 45000 = (32509, 0) ∧ d.yieldTarget l 15000 = (0, 5184) := by decide +kernel +zetaReduce

/-- 16_dictionary: the block summary of DARK_FAULT on CH24 to CH47. -/
theorem test_block_summary : emcyBytes 1 ⟨5, 0x0101, 0, 24, 0x000000025A3C1F40, (List.range 24).map (· + 24)⟩ =
    [0x00, 0xFF, 0x01, 0x05, 0x01, 0x01, 0x00, 0x00, 0x18, 0x00, 0x00, 0x00, 0x40, 0x1F, 0x3C, 0x5A,
     0, 0, 0, 0xFF, 0xFF, 0xFF, 0, 0, 0, 0, 0, 0, 0, 0, 0, 0] := by decide +kernel

/-! ### Digests against published values (FIPS 180-4, RFC 4231, CRC-32C of "123456789") -/

theorem test_sha256 : (sha256 [0x61, 0x62, 0x63]).take 8 = [0xBA, 0x78, 0x16, 0xBF, 0x8F, 0x01, 0xCF, 0xEA] := by decide +kernel

theorem test_hmac256 : (hmac256 [0x4A, 0x65, 0x66, 0x65] [0x77, 0x68, 0x61, 0x74, 0x20, 0x64, 0x6F, 0x20, 0x79, 0x61, 0x20, 0x77, 0x61, 0x6E, 0x74,
    0x20, 0x66, 0x6F, 0x72, 0x20, 0x6E, 0x6F, 0x74, 0x68, 0x69, 0x6E, 0x67, 0x3F]).take 8 = [0x5B, 0xDC, 0xC1, 0x46, 0xBF, 0x60, 0x75, 0x4E] := by
  decide +kernel

theorem test_crc32c : crc32c ((List.range 9).map fun i => BitVec.ofNat 8 (0x31 + i)) = 0xE3069283 := by decide +kernel

/-! ### Single steps -/

/-- The block one command makes of another. -/
def after (i : Instr) (s : State) : Dev :=
  match step { s with pending := i :: s.pending } with
  | .next t => t.dev
  | _ => s.dev

/-- 12_power_start: RAIL0 below 15.0 V gives HO_STATE 1; qualified 2.0 ms later, HANDOVER is high and HO_STATE 2. -/
theorem test_handover :
    let s := setN Obj.HO_THRESH_MV 15000 (setN Obj.HO_STATE 0 idle)
    let d := after (.hoRail0Below 14999) s
    let e := after .hoQualifyExpiry ⟨{ d with now := d.now + 200000 }, []⟩
    d.nat Obj.HO_STATE = 1 ∧ e.nat Obj.HO_STATE = 2 ∧ e.outs.handover = .high := by decide +kernel +zetaReduce

/-- 03_dimming_timing, R27: a window's cycles over 2400 give the indices; below 1.25 times the mandatory demand only the
second window halts (R33). -/
theorem test_tempo :
    let d := after (.tempoWindowClose 240000 240000 240000) (up idle fun d => { d with now := 100000, ticks := 100000 })
    let e := after (.tempoWindowClose 240000 240000 240000) ⟨{ d with now := d.now + 100000, ticks := d.ticks + 100000 }, []⟩
    d.nat Obj.TEMPO_INDEX = 100 ∧ d.op = .operating ∧ e.op = .haltSafe ∧ e.outs.safe0 = true := by decide +kernel +zetaReduce

/-- R22, R40: the loss of lock of the cricket of a lane's clock. A block in operation halts and asserts both safe outputs. -/
theorem test_lock_loss : (after (.cricketLockLoss 0) idle).op = .haltSafe ∧ (after (.cricketLockLoss 0) idle).outs.safe1 = true := by
  decide +kernel

/-- R487, R488: a raw edge opens the debounce window and is not yet the debounced state. -/
theorem test_field_edge : let d := after (.finRawEdge 0 true) (setN (Obj.FIN_USE 0) 1 idle)
    (d.fi 0).windowAt = some 0 := by decide +kernel +zetaReduce

/-- The queue is first in, first out. -/
theorem test_queue : (match step ⟨idle.dev, [.msyncLoss, .statusSend]⟩ with
    | .next t => decide (t.pending = [.statusSend])
    | _ => false) = true := by decide +kernel

/-- Reset leaves the store canonical. -/
theorem test_reset_store : Store.wf State.reset.dev.dict = true := by decide +kernel

/-! ### Witnesses: the premises of each statement, clause by clause -/

theorem witness_StepKeepsSafe :
  ∃ (s : State) (t : State), s.Safe ∧ step s = .next t :=
  ⟨⟨idle.dev, [.pulseOnEdge 0]⟩, _, by decide +kernel, rfl⟩

theorem witness_CommandLeavesSafe :
  ∃ (i : Instr) (s : State) (t : State), exec i s = .next t :=
  ⟨.pulseOnEdge 0, idle, _, rfl⟩

theorem witness_DriveFrame :
  (∃ (s : State) (t : State) (ch : Fin 96) (sub : Fin 32) (v : Nat) (i : Instr), i ∈ [Instr.pulseOffEdge ch, .inrushWindowEnd ch, .buckPeakCrossing ⟨ch,
    sub⟩, .buckOffTimeExpiry ch v, .buckPeakTimeout ch, .softOffComplete ch, .softOffTimeout ch, .latchRetryTimer ch] ∧ s.dev.running = true ∧ exec i
    s = .next t) ∧
  (∃ (s : State) (t : State) (ch : Fin 96), s.dev.running = true ∧ exec (.pulseOnEdge ch) s = .next t) :=
  ⟨⟨idle, _, 95, 31, 0, .buckPeakCrossing ⟨95, 31⟩, by decide, by decide +kernel, rfl⟩,
   ⟨idle, _, 95, by decide +kernel, rfl⟩⟩

theorem witness_PulsesPlacedAndEnded :
  (∃ (s : State) (ch : Fin 96), s.dev.running = true ∧ s.dev.drv ch = 3 ∧ (s.dev.ch ch).dc = false ∧ (s.dev.ch ch).noOn = false ∧ s.dev.onEdgeAt ch / 32
    = s.dev.now ∧ (s.dev.ch ch).placed ≠ some (s.dev.onEdgeAt ch) ∧ (s.dev.ch ch).pulseOpen = false ∧ s.dev.nat (Obj.DRV_GATE_CYCLES ch) + 1 <
    counterMod (Obj.DRV_GATE_CYCLES ch) ∧ (s.dev.ch ch).inrushDue = true) ∧
  (∃ (s : State) (ch : Fin 96), s.dev.running = true ∧ s.dev.drv ch = 3 ∧ (s.dev.ch ch).dc = false ∧ (s.dev.ch ch).noOn = false ∧ s.dev.onEdgeAt ch / 32
    = s.dev.now ∧ (s.dev.ch ch).placed ≠ some (s.dev.onEdgeAt ch) ∧ (s.dev.ch ch).pulseOpen = true ∧ s.dev.onEdgeAt ch ≤ (s.dev.ch ch).pulse.offEdge) ∧
  (∃ (s : State) (ch : Fin 96), s.dev.running = true ∧ s.dev.drv ch = 3 ∧ s.dev.onEdgeAt ch / 32 ≠ s.dev.now) ∧
  (∃ (s : State) (ch : Fin 96), s.dev.running = true ∧ s.dev.drv ch = 2 ∧ (s.dev.ch ch).pulseOpen = false ∧ (s.dev.ch ch).dc = false ∧ (s.dev.ch
    ch).warmOpen = false ∧ (s.dev.ch ch).warmWidth ≠ 0 ∧ s.dev.onEdgeAt ch / 32 = s.dev.now ∧ (s.dev.ch ch).placed ≠ some (s.dev.onEdgeAt ch)) ∧
  (∃ (s : State) (ch : Fin 96), s.dev.running = true ∧ (s.dev.ch ch).pulseOpen = true ∧ (s.dev.ch ch).pulse.offEdge ≤ 32 * s.dev.now + 31) ∧
  (∃ (s : State) (ch : Fin 96), s.dev.running = true ∧ (s.dev.ch ch).pulseOpen = true ∧ 32 * s.dev.now + 31 < (s.dev.ch ch).pulse.offEdge) ∧
  (∃ (s : State) (ch : Fin 96), s.dev.alive = true ∧ (s.dev.ch ch).inrushOn = true ∧ (s.dev.ch ch).inrushEnd ≤ s.dev.now) ∧
  (∃ (s : State) (ch : Fin 96), s.dev.alive = true ∧ (s.dev.ch ch).inrushOn = true ∧ s.dev.now < (s.dev.ch ch).inrushEnd) :=
  ⟨(let s : State := idle; let ch : Fin 96 := 0; let s := setN (Obj.DRV_STATE ch) 3 s; let s := setCh ch (fun y => { y with dc := false }) s
    let s := setCh ch (fun y => { y with noOn := false }) s; let s := setCh ch (fun y => { y with pulseOpen := false }) s
    let s := setCh ch (fun y => { y with inrushDue := true }) s; let s := setNow ((s.dev.onEdgeAt ch) / 32) s; ⟨s, ch, by decide +kernel +zetaReduce⟩),
   (let s : State := idle; let ch : Fin 96 := 0; let s := setN (Obj.DRV_STATE ch) 3 s; let s := setCh ch (fun y => { y with dc := false }) s
    let s := setCh ch (fun y => { y with noOn := false }) s; let s := setCh ch (fun y => { y with pulseOpen := true }) s
    let s := setNow ((s.dev.onEdgeAt ch) / 32) s; ⟨s, ch, by decide +kernel +zetaReduce⟩),
   (let s : State := idle; let ch : Fin 96 := 0; let s := setN (Obj.DRV_STATE ch) 3 s; let s := setNow 1 s; ⟨s, ch, by decide +kernel +zetaReduce⟩),
   (let s : State := idle; let ch : Fin 96 := 0; let s := setN (Obj.DRV_STATE ch) 2 s; let s := setCh ch (fun y => { y with pulseOpen := false }) s
    let s := setCh ch (fun y => { y with dc := false }) s; let s := setCh ch (fun y => { y with warmOpen := false }) s
    let s := setNow ((s.dev.onEdgeAt ch) / 32) s; let s := setCh ch (fun y => { y with warmWidth := 1 }) s; ⟨s, ch, by decide +kernel +zetaReduce⟩),
   (let s : State := idle; let ch : Fin 96 := 0; let s := setCh ch (fun y => { y with pulseOpen := true }) s
    let s := setNow (((s.dev.ch ch).pulse.offEdge) / 32) s; ⟨s, ch, by decide +kernel +zetaReduce⟩),
   (let s : State := idle; let ch : Fin 96 := 0; let s := setCh ch (fun y => { y with pulseOpen := true }) s
    let s := setCh ch (fun y => { y with pulse.offEdge := 32 }) s; ⟨s, ch, by decide +kernel +zetaReduce⟩),
   (let s : State := idle; let ch : Fin 96 := 0; let s := setCh ch (fun y => { y with inrushOn := true }) s
    let s := setNow ((s.dev.ch ch).inrushEnd) s; ⟨s, ch, by decide +kernel +zetaReduce⟩),
   (let s : State := idle; let ch : Fin 96 := 0; let s := setCh ch (fun y => { y with inrushOn := true }) s
    let s := setCh ch (fun y => { y with inrushEnd := 1 }) s; ⟨s, ch, by decide +kernel +zetaReduce⟩)⟩

theorem witness_BuckCycle :
  (∃ (s : State) (ch : Fin 96) (sub : Fin 32), s.dev.running = true ∧ (s.dev.ch ch).pulse.limits.buck = true ∧ ((s.dev.ch ch).pulseOpen = true ∨
    (s.dev.ch ch).dc = true) ∧ (s.dev.ch ch).cycleOpen = true ∧ 2 * ((s.dev.tEdge ch).1 + 150000 * (s.dev.tEdge ch).2) ≤ ((32 * s.dev.now + sub) -
    (s.dev.ch ch).cycleAt) * 625 * (s.dev.tEdge ch).2) ∧
  (∃ (s : State) (ch : Fin 96) (sub : Fin 32), s.dev.running = true ∧ (s.dev.ch ch).pulse.limits.buck = true ∧ ((s.dev.ch ch).pulseOpen = true ∨
    (s.dev.ch ch).dc = true) ∧ (s.dev.ch ch).cycleOpen = true ∧ ((32 * s.dev.now + sub) - (s.dev.ch ch).cycleAt) * 625 * (s.dev.tEdge ch).2 < 2 *
    ((s.dev.tEdge ch).1 + 150000 * (s.dev.tEdge ch).2)) ∧
  (∃ (s : State) (ch : Fin 96) (sample : Nat), s.dev.running = true ∧ (s.dev.ch ch).pulse.limits.buck = true ∧ ((s.dev.ch ch).pulseOpen = true ∨
    (s.dev.ch ch).dc = true) ∧ (s.dev.ch ch).cycleOpen = false ∧ (((s.dev.ch ch).gateOffAt * 3125 + (s.dev.ch ch).toff * 10 + 3124) / 3125) ≤ 32 *
    s.dev.now + 31 ∧ s.dev.buckPk ch ≤ 2000 * (sample : Int)) ∧
  (∃ (s : State) (ch : Fin 96) (sample : Nat), s.dev.running = true ∧ (s.dev.ch ch).pulse.limits.buck = true ∧ ((s.dev.ch ch).pulseOpen = true ∨
    (s.dev.ch ch).dc = true) ∧ (s.dev.ch ch).cycleOpen = false ∧ (((s.dev.ch ch).gateOffAt * 3125 + (s.dev.ch ch).toff * 10 + 3124) / 3125) ≤ 32 *
    s.dev.now + 31 ∧ 2000 * (sample : Int) < s.dev.buckPk ch) ∧
  (∃ (s : State) (ch : Fin 96), s.dev.running = true ∧ (s.dev.ch ch).pulse.limits.buck = true ∧ ((s.dev.ch ch).pulseOpen = true ∨ (s.dev.ch ch).dc =
    true) ∧ (s.dev.ch ch).cycleOpen = true ∧ (s.dev.ch ch).cycleAt + 128000 ≤ 32 * s.dev.now + 31) :=
  ⟨(let s : State := idle; let ch : Fin 96 := 0; let sub : Fin 32 := 0; let s := setCh ch (fun y => { y with pulse.limits.buck := true }) s
    let s := setCh ch (fun y => { y with pulseOpen := true }) s; let s := setCh ch (fun y => { y with cycleOpen := true }) s; let s := setNow 100000 s
    ⟨s, ch, sub, by decide +kernel +zetaReduce⟩),
   (let s : State := idle; let ch : Fin 96 := 0; let sub : Fin 32 := 0; let s := setCh ch (fun y => { y with pulse.limits.buck := true }) s
    let s := setCh ch (fun y => { y with pulseOpen := true }) s; let s := setCh ch (fun y => { y with cycleOpen := true }) s
    ⟨s, ch, sub, by decide +kernel +zetaReduce⟩),
   (let s : State := idle; let ch : Fin 96 := 0; let sample : Nat := 0; let s := setCh ch (fun y => { y with pulse.limits.buck := true }) s
    let s := setCh ch (fun y => { y with pulseOpen := true }) s; let s := setCh ch (fun y => { y with cycleOpen := false }) s
    let s := setNow (((((s.dev.ch ch).gateOffAt * 3125 + (s.dev.ch ch).toff * 10 + 3124) / 3125)) / 32) s
    ⟨s, ch, sample, by decide +kernel +zetaReduce⟩),
   (let s : State := idle; let ch : Fin 96 := 0; let sample : Nat := 0; let s := setCh ch (fun y => { y with pulse.limits.buck := true }) s
    let s := setCh ch (fun y => { y with pulseOpen := true }) s; let s := setCh ch (fun y => { y with cycleOpen := false }) s
    let s := setNow (((((s.dev.ch ch).gateOffAt * 3125 + (s.dev.ch ch).toff * 10 + 3124) / 3125)) / 32) s
    let s := setN (Obj.PF_I_NOM 0) 1500000 (setN (Obj.PF_RIPPLE_PM 0) 300 (setNow 100000 s)); ⟨s, ch, sample, by decide +kernel +zetaReduce⟩),
   (let s : State := idle; let ch : Fin 96 := 0; let s := setCh ch (fun y => { y with pulse.limits.buck := true }) s
    let s := setCh ch (fun y => { y with pulseOpen := true }) s; let s := setCh ch (fun y => { y with cycleOpen := true }) s
    let s := setNow (((s.dev.ch ch).cycleAt + 128000) / 32) s; ⟨s, ch, by decide +kernel +zetaReduce⟩)⟩

theorem witness_ShortsLatchAndRetry :
  (∃ (s : State) (ch : Fin 96), s.dev.running = true ∧ (s.dev.drv ch = 1 ∨ s.dev.drv ch = 2 ∨ s.dev.drv ch = 3) ∧ s.dev.nat (Obj.DRV_SOFTOFF_COUNT ch) +
    1 < counterMod (Obj.DRV_SOFTOFF_COUNT ch) ∧ ((s.dev.ch ch).pulseOpen = true ∨ (s.dev.ch ch).dc = true)) ∧
  (∃ (s : State) (ch : Fin 96), s.dev.running = true ∧ s.dev.drv ch = 4 ∧ (s.dev.ch ch).softAt + s.dev.softOffLimit ch ≤ s.dev.now) ∧
  (∃ (s : State) (ch : Fin 96), s.dev.running = true ∧ s.dev.drv ch = 4 ∧ s.dev.now < (s.dev.ch ch).softAt + s.dev.softOffLimit ch) ∧
  (∃ (s : State) (ch : Fin 96), s.dev.alive = true ∧ (s.dev.drv ch = 5 ∨ (s.dev.drv ch = 6 ∧ (s.dev.ch ch).latchedBeforeIso = true)) ∧ (s.dev.ch
    ch).latchAt + 10000000 ≤ s.dev.now) ∧
  (∃ (s : State) (ch : Fin 96), s.dev.alive = true ∧ (s.dev.drv ch = 5 ∨ (s.dev.drv ch = 6 ∧ (s.dev.ch ch).latchedBeforeIso = true)) ∧ s.dev.now <
    (s.dev.ch ch).latchAt + 10000000) ∧
  (∃ (s : State) (ch : Fin 96), s.dev.running = true ∧ s.dev.drv ch = 3 ∧ (s.dev.ch ch).litSince + 1000000000 ≤ s.dev.now ∧ s.dev.latchedC 0x0106 ch =
    false) ∧
  (∃ (s : State) (ch : Fin 96), s.dev.running = true ∧ s.dev.drv ch = 3 ∧ s.dev.now < (s.dev.ch ch).litSince + 1000000000) :=
  ⟨(let s : State := idle; let ch : Fin 96 := 0; let s := setN (Obj.DRV_STATE ch) 1 s; let s := setCh ch (fun y => { y with pulseOpen := true }) s
    ⟨s, ch, by decide +kernel +zetaReduce⟩),
   (let s : State := idle; let ch : Fin 96 := 0; let s := setN (Obj.DRV_STATE ch) 4 s
    let s := setNow ((s.dev.ch ch).softAt + s.dev.softOffLimit ch) s; ⟨s, ch, by decide +kernel +zetaReduce⟩),
   (let s : State := idle; let ch : Fin 96 := 0; let s := setN (Obj.DRV_STATE ch) 4 s; ⟨s, ch, by decide +kernel +zetaReduce⟩),
   (let s : State := idle; let ch : Fin 96 := 0; let s := setN (Obj.DRV_STATE ch) 5 s; let s := setNow ((s.dev.ch ch).latchAt + 10000000) s
    ⟨s, ch, by decide +kernel +zetaReduce⟩),
   (let s : State := idle; let ch : Fin 96 := 0; let s := setN (Obj.DRV_STATE ch) 5 s; ⟨s, ch, by decide +kernel +zetaReduce⟩),
   (let s : State := idle; let ch : Fin 96 := 0; let s := setN (Obj.DRV_STATE ch) 3 s; let s := setNow ((s.dev.ch ch).litSince + 1000000000) s
    ⟨s, ch, by decide +kernel +zetaReduce⟩),
   (let s : State := idle; let ch : Fin 96 := 0; let s := setN (Obj.DRV_STATE ch) 3 s; ⟨s, ch, by decide +kernel +zetaReduce⟩)⟩

theorem witness_PulseEvidenceClassified :
  (∃ (s : State) (ch : Fin 96) (ev : PulseEv) (p : PulseRec), s.dev.running = true ∧ p.limits.rail < 8 ∧ ((s.dev.ch ch).due.find? (fun q => !q.eInt) =
    some p) ∧ (s.dev.ch ch).closeEdge p ≤ 32 * s.dev.now + 31 ∧ p.dark = false ∧ p.lowSeen = false ∧ gateLowFound p ev = false) ∧
  (∃ (s : State) (ch : Fin 96) (ev : PulseEv) (p : PulseRec), s.dev.running = true ∧ p.limits.rail < 8 ∧ ((s.dev.ch ch).due.find? (fun q => !q.eInt) =
    some p) ∧ (s.dev.ch ch).closeEdge p ≤ 32 * s.dev.now + 31 ∧ p.dark = true ∧ p.lowSeen = false ∧ gateLowFound p ev = false) ∧
  (∃ (s : State) (ch : Fin 96) (ev : PulseEv) (p : PulseRec), s.dev.running = true ∧ p.limits.rail < 8 ∧ ((s.dev.ch ch).due.find? (fun q => !q.eInt) =
    some p) ∧ (s.dev.ch ch).closeEdge p ≤ 32 * s.dev.now + 31 ∧ p.dark = false ∧ (p.lowSeen = true ∨ gateLowFound p ev = true) ∧ (s.dev.ch
    ch).closeEdge p < p.offEdge + 640000 ∧ p.limits.darkDeb ≤ (s.dev.ch ch).gateLowRun + 1) ∧
  (∃ (s : State) (ch : Fin 96) (p : PulseRec), s.dev.running = true ∧ ((s.dev.ch ch).due.find? (fun q => q.eInt && decide (q.offEdge ≤ 32 * s.dev.now +
    31)) = some p) ∧ p.limits.rail < 8 ∧ p.dark = false ∧ p.lowSeen = false) ∧
  (∃ (s : State) (ch : Fin 96), s.dev.running = true ∧ ((s.dev.ch ch).due.find? (fun q => q.eInt && decide (q.offEdge ≤ 32 * s.dev.now + 31)) = none) ∧
    (s.dev.ch ch).dc = true ∧ ((s.dev.ch ch).pulse).offEdge ≤ 32 * s.dev.now + 31 ∧ ((s.dev.ch ch).pulse).eInt = true ∧ ((s.dev.ch
    ch).pulse).limits.rail < 8 ∧ ((s.dev.ch ch).pulse).dark = false ∧ ((s.dev.ch ch).pulse).lowSeen = false) :=
  ⟨(let s : State := idle; let ch : Fin 96 := 0; let ev : PulseEv := noEv; let p : PulseRec := { offEdge := 50000 }
    let s := setCh ch (fun y => { y with due := [p] }) s; let s := setNow ((50000 + 640000) / 32) s; ⟨s, ch, ev, p, by decide +kernel +zetaReduce⟩),
   (let s : State := idle; let ch : Fin 96 := 0; let ev : PulseEv := noEv; let p : PulseRec := { offEdge := 50000, dark := true }
    let s := setCh ch (fun y => { y with due := [p] }) s; let s := setNow ((50000 + 640000) / 32) s; ⟨s, ch, ev, p, by decide +kernel +zetaReduce⟩),
   (let s : State := idle; let ch : Fin 96 := 0; let ev : PulseEv := noEv; let p : PulseRec := { offEdge := 50000, lowSeen := true }
    let s := setCh ch (fun y => { y with due := [p] }) s; let s := setCh ch (fun y => { y with placed := some 60000 }) s; let s := setNow 60000 s
    ⟨s, ch, ev, p, by decide +kernel +zetaReduce⟩),
   (let s : State := idle; let ch : Fin 96 := 0; let p : PulseRec := { eInt := true }; let s := setCh ch (fun y => { y with due := [p] }) s
    ⟨s, ch, p, by decide +kernel +zetaReduce⟩),
   (let s : State := idle; let ch : Fin 96 := 0; let s := setCh ch (fun y => { y with dc := true }) s
    let s := setNow ((((s.dev.ch ch).pulse).offEdge) / 32) s; let s := setCh ch (fun y => { y with pulse := { eInt := true } }) s
    ⟨s, ch, by decide +kernel +zetaReduce⟩)⟩

theorem witness_LitWhenDarkIsolates :
  (∃ (s : State) (ch : Fin 96), s.dev.alive = true ∧ s.dev.nat (Obj.CH_RAIL ch) < 8) ∧
  (∃ (s : State) (ch : Fin 96) (n : Nat), s.dev.darkCounts ch = true ∧ s.dev.active 0x0102 ch = false ∧ ((s.dev.curSettle ch).currentLasted ch (100 *
    s.dev.pnat ch (Obj.SUP_LIT_DEB_US (s.dev.prof ch))) = true ∨ (s.dev.curSettle ch).drainLasted ch (100 * s.dev.pnat ch (Obj.SUP_LIT_DEB_US
    (s.dev.prof ch))) = true) ∧ s.dev.nat (Obj.GRP_ISO_USE (grpOf ch)) = 1 ∧ (s.dev.gr (grpOf ch)).isoFault = false ∧ n ∈ chansOf (grpOf ch) ∧
    s.dev.drv n ≠ 7) ∧
  (∃ (s : State) (ch : Fin 96), s.dev.darkCounts ch = true ∧ s.dev.active 0x0102 ch = false ∧ ((s.dev.curSettle ch).currentLasted ch (100 * s.dev.pnat
    ch (Obj.SUP_LIT_DEB_US (s.dev.prof ch))) = true ∨ (s.dev.curSettle ch).drainLasted ch (100 * s.dev.pnat ch (Obj.SUP_LIT_DEB_US (s.dev.prof ch))) =
    true) ∧ s.dev.nat (Obj.GRP_ISO_USE (grpOf ch)) = 0) ∧
  (∃ (s : State) (g : Fin 24), s.dev.alive = true ∧ (s.dev.gr g).isoVerify = true ∧ s.dev.now < (s.dev.gr g).isoOpenAt + 2000000) ∧
  (∃ (s : State) (g : Fin 24), s.dev.alive = true ∧ (s.dev.gr g).isoVerify = true ∧ (s.dev.gr g).isoOpenAt + 2000000 ≤ s.dev.now ∧ (∃ n ∈ chansOf g,
    s.dev.mode n ≠ 0 ∧ (fun n => s.dev.nat (Obj.RAIL_MV (s.dev.nat (Obj.CH_RAIL n)))) n < s.dev.nat (Obj.RAIL_MIN_MV (s.dev.nat (Obj.CH_RAIL n))))) ∧
  (∃ (s : State) (g : Fin 24) (drains : List Nat), s.dev.alive = true ∧ (s.dev.gr g).isoVerify = true ∧ (s.dev.gr g).isoOpenAt + 2000000 ≤ s.dev.now ∧
    (∀ n ∈ chansOf g, s.dev.mode n ≠ 0 → s.dev.nat (Obj.RAIL_MIN_MV (s.dev.nat (Obj.CH_RAIL n))) ≤ (fun n => s.dev.nat (Obj.RAIL_MV (s.dev.nat
    (Obj.CH_RAIL n)))) n) ∧ (∀ n ∈ chansOf g, s.dev.mode n ≠ 0 → 10 * drains.getD (n % 4) 0 * s.dev.nat (Obj.CH_DRAIN_RATIO n) < (fun n => s.dev.nat
    (Obj.RAIL_MV (s.dev.nat (Obj.CH_RAIL n)))) n * 1000000)) ∧
  (∃ (s : State) (g : Fin 24) (drains : List Nat), s.dev.alive = true ∧ (s.dev.gr g).isoVerify = true ∧ (s.dev.gr g).isoOpenAt + 2000000 ≤ s.dev.now ∧
    (∀ n ∈ chansOf g, s.dev.mode n ≠ 0 → s.dev.nat (Obj.RAIL_MIN_MV (s.dev.nat (Obj.CH_RAIL n))) ≤ (fun n => s.dev.nat (Obj.RAIL_MV (s.dev.nat
    (Obj.CH_RAIL n)))) n) ∧ (∃ n ∈ chansOf g, s.dev.mode n ≠ 0 ∧ (fun n => s.dev.nat (Obj.RAIL_MV (s.dev.nat (Obj.CH_RAIL n)))) n * 1000000 ≤ 10 *
    drains.getD (n % 4) 0 * s.dev.nat (Obj.CH_DRAIN_RATIO n))) :=
  ⟨(let s : State := idle; let ch : Fin 96 := 0; ⟨s, ch, by decide +kernel +zetaReduce⟩),
   (let s : State := idle; let ch : Fin 96 := 0; let n : Nat := 0; let s := setN (Obj.GRP_ISO_USE (grpOf ch)) (1) s
    let s := setGr (grpOf ch) (fun y => { y with isoFault := false }) s; let s := setNow 900000 (setN (Obj.DRV_STATE 0) 1 (setN (Obj.CH_MODE 0) 1 s))
    let s := setCh ch (fun y => { y with curHigh := true }) s; ⟨s, ch, n, by decide +kernel +zetaReduce⟩),
   (let s : State := idle; let ch : Fin 96 := 0; let s := setN (Obj.GRP_ISO_USE (grpOf ch)) (0) s
    let s := setNow 900000 (setN (Obj.DRV_STATE 0) 1 (setN (Obj.CH_MODE 0) 1 s)); let s := setCh ch (fun y => { y with curHigh := true }) s
    ⟨s, ch, by decide +kernel +zetaReduce⟩),
   (let s : State := idle; let g : Fin 24 := 0; let s := setGr g (fun y => { y with isoVerify := true }) s; ⟨s, g, by decide +kernel +zetaReduce⟩),
   (let s : State := idle; let g : Fin 24 := 0; let s := setGr g (fun y => { y with isoVerify := true }) s
    let s := setN (Obj.RAIL_MIN_MV 0) 1 (setN (Obj.CH_MODE 0) 1 s); let s := setNow ((s.dev.gr g).isoOpenAt + 2000000) s
    ⟨s, g, by decide +kernel +zetaReduce⟩),
   (let s : State := idle; let g : Fin 24 := 0; let drains : List Nat := []; let s := setGr g (fun y => { y with isoVerify := true }) s
    let s := setNow ((s.dev.gr g).isoOpenAt + 2000000) s; ⟨s, g, drains, by decide +kernel +zetaReduce⟩),
   (let s : State := idle; let g : Fin 24 := 0; let drains : List Nat := []; let s := setGr g (fun y => { y with isoVerify := true }) s
    let s := setN (Obj.RAIL_MIN_MV 0) 0 (setN (Obj.CH_MODE 0) 1 s); let s := setNow ((s.dev.gr g).isoOpenAt + 2000000) s
    ⟨s, g, drains, by decide +kernel +zetaReduce⟩)⟩

theorem witness_DarkProvingCounts :
  (∃ (s : State) (ch : Fin 96), s.dev.running = true ∧ s.dev.drv ch = 1 ∧ (s.dev.ch ch).probeOpen = false ∧ (s.dev.ch ch).pulseOpen = false ∧ (s.dev.nat
    (Obj.GRP_ISO_USE (grpOf ch)) = 0 → s.dev.active 0x0102 ch = false) ∧ s.dev.pnat ch (Obj.PF_PROBE_ALLOWED (s.dev.prof ch)) = 1 ∧ s.dev.pnat ch
    (Obj.SUP_PROBE_HZ (s.dev.prof ch)) ≠ 0 ∧ s.dev.probeFrame ch = true ∧ s.dev.onEdgeAt ch / 32 = s.dev.now ∧ (s.dev.ch ch).placed ≠ some
    (s.dev.onEdgeAt ch) ∧ s.dev.pnat ch (Obj.PF_RAIL_REQ (s.dev.prof ch)) ≤ s.dev.nat (Obj.RAIL_MV (s.dev.nat (Obj.CH_RAIL ch))) ∧ s.dev.isoOpen
    (grpOf ch) = false ∧ (s.dev.ch ch).settleEnd ≤ s.dev.now ∧ s.dev.pathHeld 5 ch = false) ∧
  (∃ (s : State) (ch : Fin 96), s.dev.running = true ∧ (s.dev.ch ch).probeOpen = true ∧ 32 * s.dev.now ≤ (s.dev.ch ch).probeAt + 9600) ∧
  (∃ (s : State) (ch : Fin 96) (crossed : Bool), s.dev.running = true ∧ (s.dev.ch ch).probeOpen = true ∧ (crossed = true → (s.dev.ch ch).probeAt + 9600
    < 32 * s.dev.now) ∧ (s.dev.ch ch).probeAt + 9600 ≤ 32 * s.dev.now + 31 ∧ s.dev.pnat ch (Obj.SUP_PROBE_DEB (s.dev.prof ch)) ≤ (s.dev.ch
    ch).probeFails + 1) ∧
  (∃ (s : State) (ch : Fin 96), s.dev.running = true ∧ (s.dev.ch ch).probeOpen = true ∧ 32 * s.dev.now + 31 < (s.dev.ch ch).probeAt + 9600) ∧
  (∃ (s : State) (ch : Fin 96), s.dev.running = true ∧ (s.dev.ch ch).warmOpen = true ∧ 32 * s.dev.now + 31 < (s.dev.ch ch).startAt + ((s.dev.ch
    ch).warmWidth)) ∧
  (∃ (s : State) (ch : Fin 96) (mean : Nat), s.dev.running = true ∧ (s.dev.ch ch).warmOpen = true ∧ (s.dev.ch ch).startAt + ((s.dev.ch ch).warmWidth) ≤
    32 * s.dev.now + 31 ∧ mean = 0) ∧
  (∃ (s : State) (ch : Fin 96) (mean : Nat), s.dev.running = true ∧ (s.dev.ch ch).warmOpen = true ∧ (s.dev.ch ch).startAt + ((s.dev.ch ch).warmWidth) ≤
    32 * s.dev.now + 31 ∧ mean ≠ 0) ∧
  (∃ (s : State) (ch : Fin 96), s.dev.running = true ∧ s.dev.mode ch ≠ 0 ∧ s.dev.nat (Obj.SUP_FF_INPUT ch) ≠ 0xFF ∧ ((s.dev.ch ch).optSince + s.dev.pnat
    ch (Obj.SUP_OPT_FRAMES (s.dev.prof ch))) ≤ s.dev.nat (Obj.GRP_FRAME_COUNT (grpOf ch))) ∧
  (∃ (s : State) (ch : Fin 96), s.dev.running = true ∧ s.dev.mode ch ≠ 0 ∧ s.dev.nat (Obj.SUP_FF_INPUT ch) ≠ 0xFF ∧ s.dev.nat (Obj.GRP_FRAME_COUNT
    (grpOf ch)) < ((s.dev.ch ch).optSince + s.dev.pnat ch (Obj.SUP_OPT_FRAMES (s.dev.prof ch)))) :=
  ⟨(let s : State := idle; let ch : Fin 96 := 0; let s := setN (Obj.DRV_STATE ch) 1 s; let s := setCh ch (fun y => { y with probeOpen := false }) s
    let s := setCh ch (fun y => { y with pulseOpen := false }) s
    let s := setGr 0 (fun g => { g with prevLen := 1000 }) (setN (Obj.PF_PROBE_ALLOWED 0) 1 (setN (Obj.SUP_PROBE_HZ 0) 10 s))
    let s := setNow ((s.dev.onEdgeAt ch) / 32) s; let s := setNow ((s.dev.ch ch).settleEnd) s; ⟨s, ch, by decide +kernel +zetaReduce⟩),
   (let s : State := idle; let ch : Fin 96 := 0; let s := setCh ch (fun y => { y with probeOpen := true }) s; ⟨s, ch, by decide +kernel +zetaReduce⟩),
   (let s : State := idle; let ch : Fin 96 := 0; let crossed : Bool := false; let s := setCh ch (fun y => { y with probeOpen := true }) s
    let s := setN (Obj.SUP_PROBE_DEB 0) 1 s; let s := setNow (((s.dev.ch ch).probeAt + 9600) / 32) s; ⟨s, ch, crossed, by decide +kernel +zetaReduce⟩),
   (let s : State := idle; let ch : Fin 96 := 0; let s := setCh ch (fun y => { y with probeOpen := true }) s; ⟨s, ch, by decide +kernel +zetaReduce⟩),
   (let s : State := idle; let ch : Fin 96 := 0; let s := setCh ch (fun y => { y with warmOpen := true }) s
    let s := setCh ch (fun y => { y with warmWidth := 32 }) s; ⟨s, ch, by decide +kernel +zetaReduce⟩),
   (let s : State := idle; let ch : Fin 96 := 0; let mean : Nat := 0; let s := setCh ch (fun y => { y with warmOpen := true }) s
    let s := setNow (((s.dev.ch ch).startAt + ((s.dev.ch ch).warmWidth)) / 32) s; ⟨s, ch, mean, by decide +kernel +zetaReduce⟩),
   (let s : State := idle; let ch : Fin 96 := 0; let mean : Nat := 1; let s := setCh ch (fun y => { y with warmOpen := true }) s
    let s := setNow (((s.dev.ch ch).startAt + ((s.dev.ch ch).warmWidth)) / 32) s; ⟨s, ch, mean, by decide +kernel +zetaReduce⟩),
   (let s : State := idle; let ch : Fin 96 := 0; let s := setN (Obj.CH_MODE ch) 1 s; let s := setN (Obj.SUP_FF_INPUT ch) (0xFF + 1) s
    let s := setN (Obj.SUP_FF_INPUT ch) 0 s
    let s := setN (Obj.GRP_FRAME_COUNT (grpOf ch)) ((s.dev.ch ch).optSince + s.dev.pnat ch (Obj.SUP_OPT_FRAMES (s.dev.prof ch))) s
    ⟨s, ch, by decide +kernel +zetaReduce⟩),
   (let s : State := idle; let ch : Fin 96 := 0; let s := setN (Obj.CH_MODE ch) 1 s; let s := setN (Obj.SUP_FF_INPUT ch) (0xFF + 1) s
    let s := setN (Obj.SUP_FF_INPUT ch) 0 s; ⟨s, ch, by decide +kernel +zetaReduce⟩)⟩

theorem witness_OpticalNeverTouchesLitFault :
  ∃ (s : State) (t : State) (ch : Fin 96) (ev : OpticalEv), exec (.opticalWindowClose ch ev) s = .next t :=
  ⟨idle, _, 95, noOpt, rfl⟩

theorem witness_LifeTimersRenew :
  (∃ (s : State) (n : Nat), s.dev.alive = true ∧ s.dev.op = .operating ∧ s.dev.power.lifeSec < s.dev.now / 100000000 ∧ n < 96 ∧ s.dev.mode n ≠ 0 ∧
    (s.dev.lf n).onTime ≠ 0 ∧ s.dev.nat (Obj.LIFE_LIT_MS n) + ((s.dev.lf n).fracLit + (s.dev.lf n).onTime) / 3200000 < 2 ^ 64) ∧
  (∃ (s : State) (n : Nat), s.dev.alive = true ∧ s.dev.op = .operating ∧ s.dev.power.lifeSec < s.dev.now / 100000000 ∧ n < 96 ∧ s.dev.mode n ≠ 0 ∧
    (s.dev.lf n).onTime ≠ 0 ∧ s.dev.nat (Obj.LIFE_EQ_MS n) + ((s.dev.lf n).fracEq + (s.dev.lf n).onTime * s.dev.lifeWeight n) / (3200000 * fxOne) < 2
    ^ 64) ∧
  (∃ (s : State) (n : Nat), s.dev.alive = true ∧ s.dev.op = .operating ∧ s.dev.power.derateAt < s.dev.now / 10000000 ∧ n < 96) ∧
  (∃ (s : State) (n : Nat), s.dev.alive = true ∧ s.dev.op = .operating ∧ s.dev.power.calDay < s.dev.nat Obj.POWERED_TIME_S / 86400 ∧ n < 96 ∧ s.dev.mode
    n ≠ 0 ∧ s.dev.pnat n (Obj.LF_CAL_ENABLE (s.dev.prof n)) = 1 ∧ 64 ≤ (s.dev.lf n).winCount ∧ 0 < (s.dev.lf n).winSum ∧ (s.dev.lf n).winSum < fxOne *
    (s.dev.lf n).winCount ∧ 1800000000 ≤ (s.dev.nat (Obj.LIFE_EQ_MS n)) ∧ 0 < (s.dev.pnat n (Obj.LF_ALPHA_PPB_H (s.dev.prof n)))) ∧
  (∃ (s : State) (g : Fin 24), s.dev.alive = true ∧ lookD 0 s.dev.power.ntcAt g < s.dev.now / 1000000) ∧
  (∃ (s : State) (g : Fin 24), s.dev.alive = true ∧ lookD 0 s.dev.power.kgndAt g < s.dev.now / 1000000) :=
  ⟨(let s : State := idle; let n : Nat := 0; let s := fOp .operating s; let s := setN (Obj.CH_MODE n) 1 s
    let s := setLf 0 (fun l => { l with onTime := 5 }) (setNow 100000000 s); ⟨s, n, by decide +kernel +zetaReduce⟩),
   (let s : State := idle; let n : Nat := 0; let s := fOp .operating s; let s := setN (Obj.CH_MODE n) 1 s
    let s := setLf 0 (fun l => { l with onTime := 5 }) (setNow 100000000 s); ⟨s, n, by decide +kernel +zetaReduce⟩),
   (let s : State := idle; let n : Nat := 0; let s := fOp .operating s; let s := setNow 10000000 s; ⟨s, n, by decide +kernel +zetaReduce⟩),
   (let s : State := idle; let n : Nat := 0; let s := fOp .operating s; let s := setN (Obj.CH_MODE n) 1 s
    let s := setN (Obj.LIFE_EQ_MS 0) 1800000000 (setN (Obj.LF_ALPHA_PPB_H 0) 1 (setN (Obj.LF_CAL_ENABLE 0) 1 (setN Obj.POWERED_TIME_S 86400 s)))
    let s := setLf 0 (fun l => { l with winCount := 64, winSum := 1 }) s; ⟨s, n, by decide +kernel +zetaReduce⟩),
   (let s : State := idle; let g : Fin 24 := 0; let s := setNow 1000000 s; ⟨s, g, by decide +kernel +zetaReduce⟩),
   (let s : State := idle; let g : Fin 24 := 0; let s := setNow 1000000 s; ⟨s, g, by decide +kernel +zetaReduce⟩)⟩

theorem witness_FieldInputsDebounced :
  (∃ (s : State) (k : Fin 32), s.dev.alive = true ∧ s.dev.finUsed k = true ∧ (∀ w, (s.dev.fi k).windowAt = some w → s.dev.now < w + s.dev.finSpan k)) ∧
  (∃ (s : State) (k : Fin 32) (w : Nat), s.dev.alive = true ∧ s.dev.finUsed k = true ∧ (s.dev.fi k).windowAt = some w ∧ w + s.dev.finSpan k ≤ s.dev.now
    ∧ (s.dev.fi k).unknown = false ∧ (s.dev.fi k).broken = false ∧ s.dev.nat (Obj.FIN_EDGE_COUNT k) + 1 < counterMod (Obj.FIN_EDGE_COUNT k) ∧
    s.dev.finTaken k ≠ (s.dev.fi k).on) ∧
  (∃ (s : State) (k : Fin 32) (w : Nat), s.dev.alive = true ∧ s.dev.finUsed k = true ∧ (s.dev.fi k).windowAt = some w ∧ s.dev.now < w + s.dev.finSpan k) ∧
  (∃ (s : State) (k : Fin 32), s.dev.alive = true ∧ s.dev.finUsed k = true ∧ (s.dev.fi k).unknown = true ∧ (s.dev.op = .kindled ∨ s.dev.op = .operating)
    ∧ (s.dev.fi k).changeAt + s.dev.finSpan k ≤ s.dev.now) ∧
  (∃ (s : State) (k : Fin 32), s.dev.alive = true ∧ s.dev.finUsed k = true ∧ s.dev.nat (Obj.FIN_BREAK_UA k) ≠ 0 ∧ (s.dev.fi k).broken = false) ∧
  (∃ (s : State) (k : Fin 32), s.dev.alive = true ∧ s.dev.finUsed k = true ∧ (s.dev.fi k).broken = true) :=
  ⟨⟨setN (Obj.FIN_USE 0) 1 idle, 0, by decide +kernel, by decide +kernel, fun w h => by have : (none : Option Nat) = some w := h; cases this⟩,
   (let s : State := idle; let k : Fin 32 := 0; let w : Nat := 0; let s := setN (Obj.FIN_USE k) 1 s
    let s := setFi k (fun y => { y with windowAt := some w }) s; let s := setFi k (fun y => { y with unknown := false }) s
    let s := setFi k (fun y => { y with broken := false }) s; let s := setFi k (fun y => { y with rawOn := true }) s
    let s := setNow (w + s.dev.finSpan k) s; ⟨s, k, w, by decide +kernel +zetaReduce⟩),
   (let s : State := idle; let k : Fin 32 := 0; let w : Nat := 0; let s := setN (Obj.FIN_DEBOUNCE_US k) 1 (setN (Obj.FIN_USE k) 1 s)
    let s := setFi k (fun y => { y with windowAt := some w }) s; ⟨s, k, w, by decide +kernel +zetaReduce⟩),
   (let s : State := idle; let k : Fin 32 := 0; let s := setN (Obj.FIN_USE k) 1 s; let s := setFi k (fun y => { y with unknown := true }) s
    let s := fOp .kindled s; let s := setNow ((s.dev.fi k).changeAt + s.dev.finSpan k) s; ⟨s, k, by decide +kernel +zetaReduce⟩),
   (let s : State := idle; let k : Fin 32 := 0; let s := setN (Obj.FIN_USE k) 1 s; let s := setN (Obj.FIN_BREAK_UA k) (0 + 1) s
    let s := setFi k (fun y => { y with broken := false }) s; ⟨s, k, by decide +kernel +zetaReduce⟩),
   (let s : State := idle; let k : Fin 32 := 0; let s := setN (Obj.FIN_USE k) 1 s; let s := setFi k (fun y => { y with broken := true }) s
    ⟨s, k, by decide +kernel +zetaReduce⟩)⟩

theorem witness_FieldInputFrame :
  ∃ (s : State) (t : State) (k : Fin 32) (b : Bool) (i : Instr) (j : Nat), i ∈ [Instr.finRawEdge k b, .finDebounceExpiry k, .finBreakEnter k,
    .finBreakExit k, .finUnknownEnd k] ∧ exec i s = .next t ∧ j ≠ k.val :=
  ⟨idle, _, 31, true, .finRawEdge 31 true, 0, by decide, rfl, by decide⟩

theorem witness_EffectsFramesAndSlots :
  (∃ (s : State) (k : Fin 8), s.dev.alive = true ∧ s.dev.effectsOn = true ∧ s.dev.nat (Obj.GW_MODE k) ≠ 0 ∧ onGrid (s.dev.nat (Obj.GW_FRAME_HZ k))
    s.dev.now = true ∧ s.dev.nat (Obj.GW_FRAME_COUNT k) + 1 < counterMod (Obj.GW_FRAME_COUNT k)) ∧
  (∃ (s : State) (k : Fin 8), s.dev.alive = true ∧ (s.dev.port k).awaiting = true ∧ s.dev.pathHeld 3 k = false) ∧
  (∃ (s : State), s.dev.alive = true ∧ s.dev.effectsOn = true ∧ s.dev.nat Obj.MX_ROWS ≠ 0 ∧ s.dev.mxFrameDue = true ∧ s.dev.mx.ready = true ∧ s.dev.nat
    Obj.MX_FRAME_COUNT + 1 < counterMod Obj.MX_FRAME_COUNT) ∧
  (∃ (s : State), s.dev.alive = true ∧ s.dev.darkened = false ∧ s.dev.effectsOn = true ∧ s.dev.mx.frameOpen = true ∧ s.dev.mx.slot < s.dev.mx.rows ∧
    s.dev.mx.frameAt + s.dev.mx.slot * (s.dev.mx.period * 32 / s.dev.mx.rows) / 32 ≤ s.dev.now) ∧
  (∃ (s : State) (rising : Bool), s.dev.alive = true ∧ s.dev.effectsOn = true ∧ s.dev.nat Obj.MX_SYNC = (if rising then 1 else 2) ∧ s.dev.mx.edgeAt =
    none) ∧
  (∃ (s : State) (rising : Bool) (e : Nat), s.dev.alive = true ∧ s.dev.effectsOn = true ∧ s.dev.nat Obj.MX_SYNC = (if rising then 1 else 2) ∧
    s.dev.mx.edgeAt = some e ∧ ((s.dev.now - e) * s.dev.nat Obj.MX_FRAME_HZ * 10) < 900000000) ∧
  (∃ (s : State) (rising : Bool) (e : Nat), s.dev.alive = true ∧ s.dev.effectsOn = true ∧ s.dev.nat Obj.MX_SYNC = (if rising then 1 else 2) ∧
    s.dev.mx.edgeAt = some e ∧ 1100000000 < ((s.dev.now - e) * s.dev.nat Obj.MX_FRAME_HZ * 10)) ∧
  (∃ (s : State) (rising : Bool) (e : Nat), s.dev.alive = true ∧ s.dev.effectsOn = true ∧ s.dev.nat Obj.MX_SYNC = (if rising then 1 else 2) ∧
    s.dev.mx.edgeAt = some e ∧ 900000000 ≤ ((s.dev.now - e) * s.dev.nat Obj.MX_FRAME_HZ * 10) ∧ ((s.dev.now - e) * s.dev.nat Obj.MX_FRAME_HZ * 10) ≤
    1100000000 ∧ (s.dev.mx.lostOnce = false ∨ 3 ≤ s.dev.mx.edgeRun ∨ s.dev.nat Obj.MX_SYNC_STATE = 1)) ∧
  (∃ (s : State), s.dev.alive = true ∧ s.dev.effectsOn = true ∧ s.dev.nat Obj.MX_SYNC ≠ 0 ∧ s.dev.nat Obj.MX_SYNC_STATE ≠ 2 ∧ s.dev.mx.edgeAt.getD 0 + 2
    * s.dev.mxNominal ≤ s.dev.now) :=
  ⟨(let s : State := idle; let k : Fin 8 := 0; let s := setN (Obj.GW_MODE k) (0 + 1) s; ⟨s, k, by decide +kernel +zetaReduce⟩),
   (let s : State := idle; let k : Fin 8 := 0; let s := setGw k (fun y => { y with awaiting := true }) s; ⟨s, k, by decide +kernel +zetaReduce⟩),
   (let s : State := idle; let s := setN Obj.MX_ROWS (0 + 1) s; let s := up s fun d => { d with mx.ready := true }
    let s := up s fun d => { d with mx.hz := d.nat Obj.MX_FRAME_HZ }; ⟨s, by decide +kernel +zetaReduce⟩),
   (let s : State := idle; let s := up s fun d => { d with mx.frameOpen := true }; let s := up s fun d => { d with mx.rows := 1 }
    let s := setNow (s.dev.mx.frameAt + s.dev.mx.slot * (s.dev.mx.period * 32 / s.dev.mx.rows) / 32) s; ⟨s, by decide +kernel +zetaReduce⟩),
   (let s : State := idle; let rising : Bool := true; let s := setN Obj.MX_SYNC ((if rising then 1 else 2)) s
    let s := up s fun d => { d with mx.edgeAt := none }; ⟨s, rising, by decide +kernel +zetaReduce⟩),
   (let s : State := idle; let rising : Bool := true; let e : Nat := 0; let s := setN Obj.MX_SYNC ((if rising then 1 else 2)) s
    let s := up s fun d => { d with mx.edgeAt := some e }; ⟨s, rising, e, by decide +kernel +zetaReduce⟩),
   (let s : State := idle; let rising : Bool := true; let e : Nat := 0; let s := setN Obj.MX_SYNC ((if rising then 1 else 2)) s
    let s := up s fun d => { d with mx.edgeAt := some e }; let s := setNow 1200000 (setN Obj.MX_FRAME_HZ 100 s)
    ⟨s, rising, e, by decide +kernel +zetaReduce⟩),
   (let s : State := idle; let rising : Bool := true; let e : Nat := 0; let s := setN Obj.MX_SYNC ((if rising then 1 else 2)) s
    let s := up s fun d => { d with mx.edgeAt := some e }; let s := up s fun d => { d with mx.lostOnce := false }
    let s := setNow 900000 (setN Obj.MX_FRAME_HZ 100 s); ⟨s, rising, e, by decide +kernel +zetaReduce⟩),
   (let s : State := idle; let s := setN Obj.MX_SYNC (0 + 1) s; let s := setN Obj.MX_SYNC_STATE (2 + 1) s
    let s := setNow (s.dev.mx.edgeAt.getD 0 + 2 * s.dev.mxNominal) s; ⟨s, by decide +kernel +zetaReduce⟩)⟩

theorem witness_UnderrunRepeatsThenHalts :
  (∃ (s : State) (g : Fin 24) (n : Nat), s.dev.alive = true ∧ (s.dev.op = .kindled ∨ s.dev.op = .operating) ∧ (s.dev.gr g).next ≤ s.dev.now ∧ lookD 0
    s.dev.guard.under g = 0 ∧ s.dev.nat (Obj.CRK_UNDERRUN_COUNT g) + 1 < counterMod (Obj.CRK_UNDERRUN_COUNT g) ∧ n < 96) ∧
  (∃ (s : State) (g : Fin 24), s.dev.alive = true ∧ (s.dev.op = .kindled ∨ s.dev.op = .operating) ∧ (s.dev.gr g).next ≤ s.dev.now ∧ lookD 0
    s.dev.guard.under g = 0 ∧ s.dev.nat (Obj.CRK_UNDERRUN_COUNT g) + 1 < counterMod (Obj.CRK_UNDERRUN_COUNT g) ∧ s.dev.darkened = false) ∧
  (∃ (s : State) (g : Fin 24), s.dev.alive = true ∧ (s.dev.op = .kindled ∨ s.dev.op = .operating) ∧ (s.dev.gr g).next ≤ s.dev.now ∧ 1 ≤ lookD 0
    s.dev.guard.under g) ∧
  (∃ (s : State) (k : Fin 8), s.dev.alive = true ∧ s.dev.effectsOn = true ∧ s.dev.nat (Obj.GW_MODE k) ≠ 0 ∧ onGrid (s.dev.nat (Obj.GW_FRAME_HZ k))
    s.dev.now = true ∧ lookD 0 s.dev.guard.under 32 = 0 ∧ s.dev.nat (Obj.CRK_UNDERRUN_COUNT 32) + 1 < counterMod (Obj.CRK_UNDERRUN_COUNT 32)) ∧
  (∃ (s : State) (k : Fin 8), s.dev.alive = true ∧ s.dev.effectsOn = true ∧ s.dev.nat (Obj.GW_MODE k) ≠ 0 ∧ onGrid (s.dev.nat (Obj.GW_FRAME_HZ k))
    s.dev.now = true ∧ 1 ≤ lookD 0 s.dev.guard.under 32) ∧
  (∃ (s : State), s.dev.alive = true ∧ s.dev.effectsOn = true ∧ s.dev.nat Obj.MX_ROWS ≠ 0 ∧ s.dev.mxFrameDue = true ∧ s.dev.mx.ready = false ∧ lookD 0
    s.dev.guard.under 33 = 0 ∧ s.dev.nat (Obj.CRK_UNDERRUN_COUNT 33) + 1 < counterMod (Obj.CRK_UNDERRUN_COUNT 33)) ∧
  (∃ (s : State), s.dev.alive = true ∧ s.dev.effectsOn = true ∧ s.dev.nat Obj.MX_ROWS ≠ 0 ∧ s.dev.mxFrameDue = true ∧ s.dev.mx.ready = false ∧ 1 ≤ lookD
    0 s.dev.guard.under 33) :=
  ⟨(let s : State := idle; let g : Fin 24 := 0; let n : Nat := 0; let s := fOp .kindled s; let s := setNow ((s.dev.gr g).next) s
    ⟨s, g, n, by decide +kernel +zetaReduce⟩),
   (let s : State := idle; let g : Fin 24 := 0; let s := fOp .kindled s; let s := setNow ((s.dev.gr g).next) s; ⟨s, g, by decide +kernel +zetaReduce⟩),
   (let s : State := idle; let g : Fin 24 := 0; let s := fOp .kindled s; let s := up s fun d => { d with guard.under := [(0, 1)] }
    let s := setNow ((s.dev.gr g).next) s; ⟨s, g, by decide +kernel +zetaReduce⟩),
   (let s : State := idle; let k : Fin 8 := 0; let s := setN (Obj.GW_MODE k) (0 + 1) s; ⟨s, k, by decide +kernel +zetaReduce⟩),
   (let s : State := idle; let k : Fin 8 := 0; let s := setN (Obj.GW_MODE k) (0 + 1) s; let s := up s fun d => { d with guard.under := [(32, 1)] }
    ⟨s, k, by decide +kernel +zetaReduce⟩),
   (let s : State := idle; let s := setN Obj.MX_ROWS (0 + 1) s; let s := up s fun d => { d with mx.ready := false }
    let s := up s fun d => { d with mx.hz := d.nat Obj.MX_FRAME_HZ }; ⟨s, by decide +kernel +zetaReduce⟩),
   (let s : State := idle; let s := setN Obj.MX_ROWS (0 + 1) s; let s := up s fun d => { d with mx.ready := false }
    let s := up s fun d => { d with guard.under := [(33, 1)], mx.hz := d.nat Obj.MX_FRAME_HZ }; ⟨s, by decide +kernel +zetaReduce⟩)⟩

theorem witness_FrameBoundaryApplies :
  (∃ (s : State) (g : Fin 24), s.dev.alive = true ∧ s.dev.op = .kindled ∧ s.dev.cfg.switch = none ∧ s.dev.grants = [] ∧ s.dev.now = (s.dev.gr g).next ∧
    (s.dev.gr g).moved = false ∧ (s.dev.gr g).gridPeriod = s.dev.nat (Obj.GRP_PERIOD_TICKS g) ∧ s.dev.nat (Obj.GRP_FRAME_COUNT g) + 1 < counterMod
    (Obj.GRP_FRAME_COUNT g) ∧ (32 * s.dev.nat (Obj.GRP_PERIOD_TICKS g)) ≠ 0) ∧
  (∃ (s : State) (v : Nat) (w : Nat) (c : Nat) (e : Nat) (a : Nat) (b : Nat), s.dev.alive = true ∧ s.dev.op = .kindled ∧ s.dev.cfg.switch = none ∧
    (s.dev.gr 0).next ≤ s.dev.now ∧ a < s.dev.now ∧ b < s.dev.now ∧ s.dev.grants = [⟨Obj.CAL_NOW, .num v, c, a, false⟩, ⟨Obj.CAL_NOW, .num w, e, b,
    false⟩]) ∧
  (∃ (s : State) (v : Nat) (c : Nat) (a : Nat), s.dev.alive = true ∧ s.dev.op = .kindled ∧ s.dev.cfg.switch = none ∧ (s.dev.gr 0).next ≤ s.dev.now ∧
    s.dev.now ≤ a ∧ s.dev.grants = [⟨Obj.CAL_NOW, .num v, c, a, false⟩]) ∧
  (∃ (s : State) (g : Fin 24), s.dev.now < (s.dev.gr g).next ∧ s.dev.nat (Obj.GRP_LAST_BOUNDARY 0) ≠ s.dev.now) :=
  ⟨(let s : State := idle; let g : Fin 24 := 0; let s := fOp .kindled s; let s := up s fun d => { d with cfg.switch := none }
    let s := up s fun d => { d with grants := [] }; let s := setGr g (fun y => { y with gridPeriod := s.dev.nat (Obj.GRP_PERIOD_TICKS g) }) s
    let s := setNow (s.dev.gr g).next (setGr g (fun y => { y with gridPeriod := s.dev.nat (Obj.GRP_PERIOD_TICKS g) }) s)
    ⟨s, g, by decide +kernel +zetaReduce⟩),
   (let s : State := idle; let v : Nat := 0; let w : Nat := 0; let c : Nat := 0; let e : Nat := 0; let a : Nat := 0; let b : Nat := 0
    let s := fOp .kindled s; let s := up s fun d => { d with cfg.switch := none }
    let s := up s fun d => { d with grants := [⟨Obj.CAL_NOW, .num v, c, a, false⟩, ⟨Obj.CAL_NOW, .num w, e, b, false⟩] }
    let s := setNow ((s.dev.gr 0).next) s; let s := setNow ((s.dev.gr 0).next + 1) s; ⟨s, v, w, c, e, a, b, by decide +kernel +zetaReduce⟩),
   (let s : State := idle; let v : Nat := 0; let c : Nat := 0; let a : Nat := (idle.dev.gr 0).next; let s := fOp .kindled s
    let s := up s fun d => { d with cfg.switch := none }; let s := up s fun d => { d with grants := [⟨Obj.CAL_NOW, .num v, c, a, false⟩] }
    let s := setNow ((s.dev.gr 0).next) s; ⟨s, v, c, a, by decide +kernel +zetaReduce⟩),
   (let s : State := idle; let g : Fin 24 := 0; let s := setN (Obj.GRP_LAST_BOUNDARY 0) (s.dev.now + 1) s; ⟨s, g, by decide +kernel +zetaReduce⟩)⟩

theorem witness_SignalGroupsWait :
  (∃ (s : State) (o : Origin) (sg : Fin 32) (a : Fin 256), s.seen.accepts o (Obj.SG_REQUEST sg) (leBytes 1 a) = true ∧ (((s.seen.execAt o
    (Obj.SG_REQUEST sg) (leBytes 1 a))).nat (Obj.SG_RING sg) ≠ 1 ∨ (((s.seen.execAt o (Obj.SG_REQUEST sg) (leBytes 1 a))).grantInstant
    (((s.seen.execAt o (Obj.SG_REQUEST sg) (leBytes 1 a))).sgGroup sg)) ≠ ((s.seen.execAt o (Obj.SG_REQUEST sg) (leBytes 1 a))).now)) ∧
  (∃ (s : State) (o : Origin) (sg : Fin 32) (a : Fin 256), s.seen.accepts o (Obj.SG_REQUEST sg) (leBytes 1 a) = true ∧ ((s.seen.execAt o (Obj.SG_REQUEST
    sg) (leBytes 1 a))).nat (Obj.SG_RING sg) = 1 ∧ (((s.seen.execAt o (Obj.SG_REQUEST sg) (leBytes 1 a))).grantInstant (((s.seen.execAt o
    (Obj.SG_REQUEST sg) (leBytes 1 a))).sgGroup sg)) = ((s.seen.execAt o (Obj.SG_REQUEST sg) (leBytes 1 a))).now) ∧
  (∃ (s : State) (g : Fin 32) (t0 : Nat) (m : Nat), s.dev.alive = true ∧ s.dev.op = .operating ∧ s.dev.sgUsed g = true ∧ (s.dev.sgp g).delayDone = false
    ∧ s.dev.silentSince = some t0 ∧ (t0 + 100000 * s.dev.nat (Obj.SG_SAFE_DELAY_MS g)) ≤ s.dev.now ∧ ¬ (s.dev.ringMaster = true ∧ s.dev.nat
    (Obj.SG_RING g) = 1) ∧ m ≠ g.val) ∧
  (∃ (s : State) (g : Fin 32) (t0 : Nat) (m : Nat), s.dev.alive = true ∧ s.dev.op = .operating ∧ s.dev.sgUsed g = true ∧ (s.dev.sgp g).delayDone = false
    ∧ s.dev.silentSince = some t0 ∧ (t0 + 100000 * s.dev.nat (Obj.SG_SAFE_DELAY_MS g)) ≤ s.dev.now ∧ s.dev.ringMaster = true ∧ s.dev.nat (Obj.SG_RING
    g) = 1 ∧ m ≠ g.val) ∧
  (∃ (s : State) (g : Fin 32) (t0 : Nat), s.dev.alive = true ∧ s.dev.op = .operating ∧ s.dev.sgUsed g = true ∧ (s.dev.sgp g).delayDone = false ∧
    s.dev.silentSince = some t0 ∧ s.dev.now < (t0 + 100000 * s.dev.nat (Obj.SG_SAFE_DELAY_MS g))) :=
  ⟨(let s : State := idle; let o : Origin := .svc 4 0 6 []; let sg : Fin 32 := 0; let a : Fin 256 := 0; let s := setN (Obj.AS_SG a) sg s
    ⟨s, o, sg, a, by decide +kernel +zetaReduce⟩),
   (let s : State := idle; let o : Origin := .svc 4 0 6 []; let sg : Fin 32 := 0; let a : Fin 256 := 0
    let s := setN (Obj.SG_RING sg) 1 (setN (Obj.AS_SG a) sg s); ⟨s, o, sg, a, by decide +kernel +zetaReduce⟩),
   (let s : State := idle; let g : Fin 32 := 0; let t0 : Nat := 0; let m : Nat := 1; let s := setB (Obj.SG_CHANNELS g) ([3] ++ List.replicate 11 0) s
    let s := fOp .operating s; let s := setNow ((t0 + 100000 * s.dev.nat (Obj.SG_SAFE_DELAY_MS g))) s
    let s := fRole 2 (up s fun d => { d with ring := { d.ring with lastMaster := t0 } }); ⟨s, g, t0, m, by decide +kernel +zetaReduce⟩),
   (let s : State := idle; let g : Fin 32 := 0; let t0 : Nat := 0; let m : Nat := 1; let s := setB (Obj.SG_CHANNELS g) ([3] ++ List.replicate 11 0) s
    let s := fOp .operating s; let s := fRole 1 s; let s := setN (Obj.SG_RING g) (1) s; let s := up s fun d => { d with lanes.fewSince := some t0 }
    let s := setNow ((t0 + 100000 * s.dev.nat (Obj.SG_SAFE_DELAY_MS g))) s; ⟨s, g, t0, m, by decide +kernel +zetaReduce⟩),
   (let s : State := idle; let g : Fin 32 := 0; let t0 : Nat := 0; let s := setB (Obj.SG_CHANNELS g) ([3] ++ List.replicate 11 0) s
    let s := fOp .operating s; let s := fRole 2 (up s fun d => { d with ring := { d.ring with lastMaster := t0 } })
    ⟨s, g, t0, by decide +kernel +zetaReduce⟩)⟩

theorem witness_CricketLockLossHalts :
  (∃ (s : State) (k : Fin 40), s.dev.power.inReset = false ∧ k.val ≠ 37 ∧ k.val ≠ 38 ∧ s.dev.kindledPast = true ∧ s.dev.nat (Obj.CRK_LOCK_LOSS_COUNT k)
    + 1 < counterMod (Obj.CRK_LOCK_LOSS_COUNT k) ∧ s.dev.Guarded ∧ s.dev.nat Obj.FW_PROBATION = 0) ∧
  (∃ (s : State) (k : Fin 40), s.dev.power.inReset = false ∧ k.val ≠ 37 ∧ k.val ≠ 38 ∧ s.dev.kindledPast = true ∧ s.dev.nat (Obj.CRK_LOCK_LOSS_COUNT k)
    + 1 < counterMod (Obj.CRK_LOCK_LOSS_COUNT k) ∧ ¬ s.dev.Guarded ∧ s.dev.nat Obj.FW_PROBATION = 0) ∧
  (∃ (s : State) (k : Fin 40), s.dev.power.inReset = false ∧ (k.val = 37 ∨ k.val = 38 ∨ s.dev.kindledPast = false) ∧ s.dev.Guarded) :=
  ⟨(let s : State := idle; let k : Fin 40 := 0; let s := up s fun d => { d with power.inReset := false }; let s := setN Obj.FW_PROBATION (0) s
    ⟨s, k, by decide +kernel +zetaReduce⟩),
   (let s : State := idle; let k : Fin 40 := 0; let s := up s fun d => { d with power.inReset := false }; let s := setN Obj.FW_PROBATION (0) s
    let s := fOp .haltSafe s; ⟨s, k, by decide +kernel +zetaReduce⟩),
   (let s : State := idle; let k : Fin 40 := 37; let s := up s fun d => { d with power.inReset := false }; ⟨s, k, by decide +kernel +zetaReduce⟩)⟩

theorem witness_TempoHaltAfterTwo :
  (∃ (s : State) (e : Nat) (m : Nat), s.dev.Guarded ∧ s.dev.power.inReset = false ∧ e < 2402400 ∧ m < 2402400 ∧ s.dev.guard.window < s.dev.ticks /
    100000 ∧ 4 * (e / 2400) < 5 * (m / 2400) ∧ s.dev.guard.low = 0) ∧
  (∃ (s : State) (e : Nat) (m : Nat), s.dev.Guarded ∧ s.dev.power.inReset = false ∧ e < 2402400 ∧ m < 2402400 ∧ s.dev.guard.window < s.dev.ticks /
    100000 ∧ 4 * (e / 2400) < 5 * (m / 2400) ∧ 1 ≤ s.dev.guard.low) ∧
  (∃ (s : State) (e : Nat) (m : Nat), s.dev.Guarded ∧ s.dev.power.inReset = false ∧ e < 2402400 ∧ m < 2402400 ∧ s.dev.guard.window < s.dev.ticks /
    100000 ∧ 5 * (m / 2400) ≤ 4 * (e / 2400)) ∧
  (∃ (s : State) (e : Nat) (m : Nat), s.dev.Guarded ∧ s.dev.power.inReset = false ∧ e < 2402400 ∧ m < 2402400 ∧ s.dev.ticks / 100000 ≤
    s.dev.guard.window) :=
  ⟨(let s : State := idle; let e : Nat := 0; let m : Nat := 0; let s := up s fun d => { d with power.inReset := false }
    let s := up s fun d => { d with guard.low := 0 }; let e := 2400 * 124; let m := 2400 * 100; let s := up s fun d => { d with ticks := 100000 }
    ⟨s, e, m, by decide +kernel +zetaReduce⟩),
   (let s : State := idle; let e : Nat := 0; let m : Nat := 0; let s := up s fun d => { d with power.inReset := false }; let e := 2400 * 124
    let m := 2400 * 100; let s := up s fun d => { d with ticks := 100000, guard.low := 1 }; ⟨s, e, m, by decide +kernel +zetaReduce⟩),
   (let s : State := idle; let e : Nat := 0; let m : Nat := 0; let s := up s fun d => { d with power.inReset := false }; let e := 2400 * 125
    let m := 2400 * 100; let s := up s fun d => { d with ticks := 100000 }; ⟨s, e, m, by decide +kernel +zetaReduce⟩),
   (let s : State := idle; let e : Nat := 0; let m : Nat := 0; let s := up s fun d => { d with power.inReset := false }
    ⟨s, e, m, by decide +kernel +zetaReduce⟩)⟩

theorem witness_TempoShedding :
  (∃ (s : State) (e : Nat), s.dev.Guarded ∧ s.dev.power.inReset = false ∧ s.dev.guard.window < s.dev.ticks / 100000 ∧ s.dev.nat Obj.SHED_STATE ∈ [0, 1,
    3, 7] ∧ (min 1000 (e / 2400)) < 100 ∧ s.dev.nat Obj.SHED_STATE = 0) ∧
  (∃ (s : State) (e : Nat), s.dev.Guarded ∧ s.dev.power.inReset = false ∧ s.dev.guard.window < s.dev.ticks / 100000 ∧ s.dev.nat Obj.SHED_STATE ∈ [0, 1,
    3, 7] ∧ 105 ≤ (min 1000 (e / 2400)) ∧ 99 ≤ s.dev.guard.good) :=
  ⟨(let s : State := idle; let e : Nat := 0; let s := up s fun d => { d with power.inReset := false }; let s := setN Obj.SHED_STATE (0) s
    let e := 2400 * 100 - 1; let s := up s fun d => { d with ticks := 100000 }; ⟨s, e, by decide +kernel +zetaReduce⟩),
   (let s : State := idle; let e : Nat := 0; let s := up s fun d => { d with power.inReset := false }; let e := 2400 * 105
    let s := up s fun d => { d with ticks := 100000, guard.good := 99 }; ⟨s, e, by decide +kernel +zetaReduce⟩)⟩

theorem witness_WatchdogHalts :
  (∃ (s : State), s.dev.Guarded ∧ s.dev.power.inReset = false ∧ s.dev.guard.supTok = true ∧ s.dev.guard.supAt + 270000 ≤ s.dev.now) ∧
  (∃ (s : State), s.dev.Guarded ∧ s.dev.power.inReset = false ∧ s.dev.guard.supTok = true ∧ s.dev.now < s.dev.guard.supAt + 270000) ∧
  (∃ (s : State), s.dev.Guarded ∧ s.dev.power.inReset = false ∧ s.dev.guard.stokerTok = true ∧ s.dev.guard.stokerAt + 2700000 ≤ s.dev.now) ∧
  (∃ (s : State), s.dev.Guarded ∧ s.dev.power.inReset = false ∧ s.dev.guard.stokerTok = true ∧ s.dev.now < s.dev.guard.stokerAt + 2700000) ∧
  (∃ (s : State) (n : Nat), s.dev.power.inReset = false ∧ s.dev.Guarded ∧ (n < 3400 ∨ 4600 < n) ∧ s.dev.nat Obj.FW_PROBATION = 0) ∧
  (∃ (s : State), s.dev.power.inReset = false ∧ s.dev.op = .haltSafe ∧ s.dev.nat Obj.FW_PROBATION = 0) ∧
  (∃ (s : State) (n : Nat), s.dev.power.inReset = false ∧ s.dev.Guarded ∧ 3400 ≤ n ∧ n ≤ 4600) :=
  ⟨(let s : State := idle; let s := up s fun d => { d with power.inReset := false }; let s := up s fun d => { d with guard.supTok := true }
    let s := setNow (s.dev.guard.supAt + 270000) s; ⟨s, by decide +kernel +zetaReduce⟩),
   (let s : State := idle; let s := up s fun d => { d with power.inReset := false }; let s := up s fun d => { d with guard.supTok := true }
    ⟨s, by decide +kernel +zetaReduce⟩),
   (let s : State := idle; let s := up s fun d => { d with power.inReset := false }; let s := up s fun d => { d with guard.stokerTok := true }
    let s := setNow (s.dev.guard.stokerAt + 2700000) s; ⟨s, by decide +kernel +zetaReduce⟩),
   (let s : State := idle; let s := up s fun d => { d with power.inReset := false }; let s := up s fun d => { d with guard.stokerTok := true }
    ⟨s, by decide +kernel +zetaReduce⟩),
   (let s : State := idle; let n : Nat := 3399; let s := up s fun d => { d with power.inReset := false }; let s := setN Obj.FW_PROBATION (0) s
    ⟨s, n, by decide +kernel +zetaReduce⟩),
   (let s : State := idle; let s := up s fun d => { d with power.inReset := false }; let s := fOp .haltSafe s; let s := setN Obj.FW_PROBATION (0) s
    ⟨s, by decide +kernel +zetaReduce⟩),
   (let s : State := idle; let n : Nat := 4600; let s := up s fun d => { d with power.inReset := false }; ⟨s, n, by decide +kernel +zetaReduce⟩)⟩

theorem witness_CoreFaultsHalt :
  (∃ (s : State) (i : Fin 4) (mv : Nat), s.dev.Guarded ∧ s.dev.power.inReset = false ∧ supplyHigh i < mv ∧ s.dev.ember.bank = none ∧ s.dev.nat
    Obj.FW_PROBATION = 0) ∧
  (∃ (s : State) (i : Fin 4) (mv : Nat), s.dev.Guarded ∧ s.dev.power.inReset = false ∧ supplyHigh i < mv ∧ s.dev.ember.bank.isSome) :=
  ⟨(let s : State := idle; let i : Fin 4 := 0; let mv : Nat := 901; let s := up s fun d => { d with power.inReset := false }
    let s := up s fun d => { d with ember.bank := none }; let s := setN Obj.FW_PROBATION (0) s; ⟨s, i, mv, by decide +kernel +zetaReduce⟩),
   (let s : State := idle; let i : Fin 4 := 0; let mv : Nat := 901; let s := up s fun d => { d with power.inReset := false }
    let s := up s fun d => { d with ember := { d.ember with bank := some noBank } }; ⟨s, i, mv, by decide +kernel +zetaReduce⟩)⟩

theorem witness_SuppliesBankAndWarn :
  (∃ (s : State) (i : Fin 4) (mv : Nat), s.dev.power.inReset = false ∧ s.dev.power.banked = false ∧ s.dev.op ≠ .loader ∧ mv < supplyLow i) ∧
  (∃ (s : State) (mv : Nat), s.dev.power.inReset = false ∧ s.dev.power.banked = false ∧ s.dev.op ≠ .loader ∧ mv < s.dev.ownBack.nat Obj.HOLD_TRIP_MV) ∧
  (∃ (s : State) (i : Fin 4) (mv : Nat), supplyLow i ≤ mv) ∧
  (∃ (s : State) (i : Fin 4) (mv : Nat), mv ≤ supplyHigh i ∧ (s.dev.op ≠ .haltSafe ∨ s.dev.nat Obj.FW_PROBATION = 0)) ∧
  (∃ (s : State) (mv : Nat), s.dev.ownBack.nat Obj.HOLD_TRIP_MV ≤ mv) ∧
  (∃ (s : State) (mv : Nat), s.dev.Talks ∧ mv < s.dev.nat Obj.HOLD_WARN_MV ∧ s.dev.ember.bank = none) ∧
  (∃ (s : State) (mv : Nat), s.dev.Talks ∧ (s.dev.nat Obj.HOLD_WARN_MV ≤ mv ∨ s.dev.ember.bank.isSome)) ∧
  (∃ (s : State) (mv : Nat), s.dev.Talks ∧ 102 * s.dev.nat Obj.HOLD_WARN_MV < 100 * mv) ∧
  (∃ (s : State) (mv : Nat), s.dev.Talks ∧ 100 * mv ≤ 102 * s.dev.nat Obj.HOLD_WARN_MV) ∧
  (∃ (s : State) (mv : Nat), mv < 2000 ∧ s.dev.power.inReset = false) ∧
  (∃ (s : State) (mv : Nat), mv < 1600 ∧ (s.dev.power.inReset = true ∨ s.dev.power.banked = true)) ∧
  (∃ (s : State) (mv : Nat), (2000 ≤ mv ∨ s.dev.power.inReset = true)) ∧
  (∃ (s : State) (mv : Nat), (1600 ≤ mv ∨ (s.dev.power.inReset = false ∧ s.dev.power.banked = false))) ∧
  (∃ (s : State), (s.dev.power.inReset = true ∨ s.dev.power.banked = true) ∧ s.dev.power.wake = false) ∧
  (∃ (s : State), (s.dev.power.wake = true ∨ (s.dev.power.inReset = false ∧ s.dev.power.banked = false))) :=
  ⟨(let s : State := idle; let i : Fin 4 := 0; let mv : Nat := 699; let s := up s fun d => { d with power.inReset := false }
    let s := up s fun d => { d with power.banked := false }; ⟨s, i, mv, by decide +kernel +zetaReduce⟩),
   (let s : State := idle; let mv : Nat := 0; let s := up s fun d => { d with power.inReset := false }
    let s := up s fun d => { d with power.banked := false }; let s := setN Obj.HOLD_TRIP_MV 1 s; ⟨s, mv, by decide +kernel +zetaReduce⟩),
   (let s : State := idle; let i : Fin 4 := 0; let mv : Nat := 700; ⟨s, i, mv, by decide +kernel +zetaReduce⟩),
   (let s : State := idle; let i : Fin 4 := 0; let mv : Nat := 900; ⟨s, i, mv, by decide +kernel +zetaReduce⟩),
   (let s : State := idle; let mv : Nat := 0; ⟨s, mv, by decide +kernel +zetaReduce⟩),
   (let s : State := idle; let mv : Nat := 0; let s := up s fun d => { d with ember.bank := none }; let s := setN Obj.HOLD_WARN_MV 1 s
    ⟨s, mv, by decide +kernel +zetaReduce⟩),
   (let s : State := idle; let mv : Nat := 0; ⟨s, mv, by decide +kernel +zetaReduce⟩),
   (let s : State := idle; let mv : Nat := 1; let s := setN Obj.HOLD_WARN_MV 0 s; ⟨s, mv, by decide +kernel +zetaReduce⟩),
   (let s : State := idle; let mv : Nat := 0; ⟨s, mv, by decide +kernel +zetaReduce⟩),
   (let s : State := idle; let mv : Nat := 1999; let s := up s fun d => { d with power.inReset := false }; ⟨s, mv, by decide +kernel +zetaReduce⟩),
   (let s : State := idle; let mv : Nat := 1599; let s := up s fun d => { d with power.inReset := true }; ⟨s, mv, by decide +kernel +zetaReduce⟩),
   (let s : State := idle; let mv : Nat := 2000; ⟨s, mv, by decide +kernel +zetaReduce⟩),
   (let s : State := idle; let mv : Nat := 1600; ⟨s, mv, by decide +kernel +zetaReduce⟩),
   (let s : State := idle; let s := up s fun d => { d with power.inReset := true }; let s := up s fun d => { d with power.wake := false }
    ⟨s, by decide +kernel +zetaReduce⟩),
   (let s : State := idle; let s := up s fun d => { d with power.wake := true }; ⟨s, by decide +kernel +zetaReduce⟩)⟩

theorem witness_RailsAndHandoverJudged :
  (∃ (s : State) (r : Fin 8) (mv : Nat), s.dev.Serving ∧ (s.dev.lanes.kindledAt + 100 * s.dev.nat (Obj.RAIL_DIP_US r)) ≤ s.dev.now ∧ ((s.dev.railState r
    mv) = 2 ∨ (s.dev.railState r mv) = 3) ∧ s.dev.nat (Obj.RAIL_DIP_COUNT r) + 1 < counterMod (Obj.RAIL_DIP_COUNT r)) ∧
  (∃ (s : State) (r : Fin 8) (mv : Nat), s.dev.Serving ∧ (s.dev.now < (s.dev.lanes.kindledAt + 100 * s.dev.nat (Obj.RAIL_DIP_US r)) ∨ (s.dev.railState r
    mv) = 0 ∨ (s.dev.railState r mv) = 1)) ∧
  (∃ (s : State) (r : Fin 8) (mv : Nat), s.dev.Serving ∧ s.dev.lanes.kindledAt + 1000000 ≤ s.dev.now ∧ (s.dev.railState r mv) = 1) ∧
  (∃ (s : State) (r : Fin 8) (mv : Nat), s.dev.Serving ∧ (s.dev.now < s.dev.lanes.kindledAt + 1000000 ∨ (s.dev.railState r mv) ≠ 1)) ∧
  (∃ (s : State) (mv : Nat), s.dev.Serving ∧ s.dev.nat Obj.HO_STATE = 0 ∧ mv < s.dev.nat Obj.HO_THRESH_MV) ∧
  (∃ (s : State) (mv : Nat), s.dev.Serving ∧ (s.dev.nat Obj.HO_STATE ≠ 0 ∨ s.dev.nat Obj.HO_THRESH_MV ≤ mv)) ∧
  (∃ (s : State) (mv : Nat) (a : Nat), s.dev.Serving ∧ s.dev.nat Obj.HO_STATE = 1 ∧ s.dev.power.rail0Low = some a ∧ s.dev.nat Obj.HO_THRESH_MV ≤ mv ∧
    s.dev.now < a + 200000) ∧
  (∃ (s : State) (mv : Nat) (a : Nat), s.dev.Serving ∧ s.dev.nat Obj.HO_STATE = 1 ∧ s.dev.power.rail0Low = some a ∧ (mv < s.dev.nat Obj.HO_THRESH_MV ∨ a
    + 200000 ≤ s.dev.now)) ∧
  (∃ (s : State) (a : Nat), s.dev.Serving ∧ s.dev.nat Obj.HO_STATE = 1 ∧ s.dev.power.rail0Low = some a ∧ a + 200000 ≤ s.dev.now ∧ s.dev.nat Obj.HO_COUNT
    + 1 < counterMod Obj.HO_COUNT) ∧
  (∃ (s : State), s.dev.Serving ∧ s.dev.nat Obj.HO_STATE = 2 ∧ s.dev.nat Obj.HO_LAST + 5000000 ≤ s.dev.now) ∧
  (∃ (s : State), s.dev.Serving ∧ s.dev.nat Obj.HO_STATE = 2 ∧ s.dev.now < s.dev.nat Obj.HO_LAST + 5000000) ∧
  (∃ (s : State), s.dev.Serving ∧ (s.dev.nat Obj.HO_STATE = 2 ∨ s.dev.nat Obj.HO_STATE = 3 ∨ s.dev.nat Obj.HO_STATE = 4)) ∧
  (∃ (s : State) (a : Nat), s.dev.Serving ∧ s.dev.power.rail0Back = some a ∧ s.dev.nat Obj.HO_STATE = 3 ∧ a + 100000000 ≤ s.dev.now ∧ (s.dev.nat
    Obj.HO_LAST + 100000 * s.dev.nat Obj.HO_RETURN_MS) ≤ s.dev.now) ∧
  (∃ (s : State) (a : Nat), s.dev.Serving ∧ s.dev.power.rail0Back = some a ∧ s.dev.nat Obj.HO_STATE = 3 ∧ (s.dev.now < a + 100000000 ∨ s.dev.now <
    (s.dev.nat Obj.HO_LAST + 100000 * s.dev.nat Obj.HO_RETURN_MS))) ∧
  (∃ (s : State) (a : Nat), s.dev.Serving ∧ s.dev.power.rail0Back = some a ∧ s.dev.nat Obj.HO_STATE = 4 ∧ a + 100000000 ≤ s.dev.now) ∧
  (∃ (s : State) (a : Nat), s.dev.Serving ∧ s.dev.power.rail0Back = some a ∧ s.dev.nat Obj.HO_STATE = 4 ∧ s.dev.now < a + 100000000) :=
  ⟨(let s : State := idle; let r : Fin 8 := 0; let mv : Nat := 0; let s := setN (Obj.RAIL_USE r) 1 (setN (Obj.RAIL_MIN_MV r) 1 s)
    let s := setNow ((s.dev.lanes.kindledAt + 100 * s.dev.nat (Obj.RAIL_DIP_US r))) s; ⟨s, r, mv, by decide +kernel +zetaReduce⟩),
   (let s : State := idle; let r : Fin 8 := 0; let mv : Nat := 0; ⟨s, r, mv, by decide +kernel +zetaReduce⟩),
   (let s : State := idle; let r : Fin 8 := 0; let mv : Nat := 0
    let s := setN (Obj.RAIL_USE r) 1 (setN (Obj.RAIL_MIN_MV r) mv (setN (Obj.RAIL_MAX_MV r) mv s))
    let s := setNow (s.dev.lanes.kindledAt + 1000000) s; ⟨s, r, mv, by decide +kernel +zetaReduce⟩),
   (let s : State := idle; let r : Fin 8 := 0; let mv : Nat := 0; ⟨s, r, mv, by decide +kernel +zetaReduce⟩),
   (let s : State := idle; let mv : Nat := 0; let s := setN Obj.HO_STATE (0) s; let s := setN Obj.HO_THRESH_MV 1 s
    ⟨s, mv, by decide +kernel +zetaReduce⟩),
   (let s : State := idle; let mv : Nat := 0; let s := setN Obj.HO_STATE (0 + 1) s; ⟨s, mv, by decide +kernel +zetaReduce⟩),
   (let s : State := idle; let mv : Nat := 0; let a : Nat := 0; let s := setN Obj.HO_STATE (1) s
    let s := up s fun d => { d with power.rail0Low := some a }; ⟨s, mv, a, by decide +kernel +zetaReduce⟩),
   (let s : State := idle; let mv : Nat := 0; let a : Nat := 0; let s := setN Obj.HO_STATE (1) s
    let s := up s fun d => { d with power.rail0Low := some a }; let s := setN Obj.HO_THRESH_MV 1 s; ⟨s, mv, a, by decide +kernel +zetaReduce⟩),
   (let s : State := idle; let a : Nat := 0; let s := setN Obj.HO_STATE (1) s; let s := up s fun d => { d with power.rail0Low := some a }
    let s := setNow (a + 200000) s; ⟨s, a, by decide +kernel +zetaReduce⟩),
   (let s : State := idle; let s := setN Obj.HO_STATE (2) s; let s := setNow (s.dev.nat Obj.HO_LAST + 5000000) s; ⟨s, by decide +kernel +zetaReduce⟩),
   (let s : State := idle; let s := setN Obj.HO_STATE (2) s; ⟨s, by decide +kernel +zetaReduce⟩),
   (let s : State := idle; let s := setN Obj.HO_STATE (2) s; ⟨s, by decide +kernel +zetaReduce⟩),
   (let s : State := idle; let a : Nat := 0; let s := up s fun d => { d with power.rail0Back := some a }; let s := setN Obj.HO_STATE (3) s
    let s := setNow (a + 100000000) s; let s := setNow ((s.dev.nat Obj.HO_LAST + 100000 * s.dev.nat Obj.HO_RETURN_MS)) s
    ⟨s, a, by decide +kernel +zetaReduce⟩),
   (let s : State := idle; let a : Nat := 0; let s := up s fun d => { d with power.rail0Back := some a }; let s := setN Obj.HO_STATE (3) s
    ⟨s, a, by decide +kernel +zetaReduce⟩),
   (let s : State := idle; let a : Nat := 0; let s := up s fun d => { d with power.rail0Back := some a }; let s := setN Obj.HO_STATE (4) s
    let s := setNow (a + 100000000) s; ⟨s, a, by decide +kernel +zetaReduce⟩),
   (let s : State := idle; let a : Nat := 0; let s := up s fun d => { d with power.rail0Back := some a }; let s := setN Obj.HO_STATE (4) s
    ⟨s, a, by decide +kernel +zetaReduce⟩)⟩

theorem witness_BatteryJudged :
  (∃ (s : State) (mv : Nat) (ua : Int), s.dev.Serving ∧ s.dev.nat Obj.BAT_USE = 1 ∧ s.dev.power.sampled < s.dev.now / 100000 ∧ s.dev.active 0x0603
    0xFFFF = false ∧ ¬ ((s.dev.num Obj.BAT_CHARGE_MAH + Int.fdiv (s.dev.power.chargeFrac - (if 0 < ua then ua * 1000 else ua * s.dev.num
    Obj.BAT_CHARGE_EFF_PM)) 3600000000000) ≤ 0 ∧ (s.dev.num Obj.BAT_REST_I_UA) < ua ∧ s.dev.nat Obj.BAT_V_EMPTY_LOADED + s.dev.nat Obj.BAT_V_MARGIN <
    mv)) ∧
  (∃ (s : State) (mv : Nat) (ua : Int), s.dev.Serving ∧ s.dev.nat Obj.BAT_USE = 1 ∧ s.dev.power.sampled < s.dev.now / 100000 ∧ s.dev.active 0x0603
    0xFFFF = false ∧ ((s.dev.num Obj.BAT_CHARGE_MAH + Int.fdiv (s.dev.power.chargeFrac - (if 0 < ua then ua * 1000 else ua * s.dev.num
    Obj.BAT_CHARGE_EFF_PM)) 3600000000000) ≤ 0 ∧ (s.dev.num Obj.BAT_REST_I_UA) < ua ∧ s.dev.nat Obj.BAT_V_EMPTY_LOADED + s.dev.nat Obj.BAT_V_MARGIN <
    mv) ∧ s.dev.nat Obj.BAT_CONFLICT_COUNT + 1 < counterMod Obj.BAT_CONFLICT_COUNT) ∧
  (∃ (s : State), s.dev.Serving ∧ s.dev.nat Obj.BAT_USE = 1 ∧ s.dev.power.sampled < s.dev.now / 100000 ∧ s.dev.active 0x0603 0xFFFF = true) ∧
  (∃ (s : State), s.dev.Serving ∧ s.dev.nat Obj.BAT_USE = 1 ∧ s.dev.now / 100000 ≤ s.dev.power.sampled) ∧
  (∃ (s : State), s.dev.Serving ∧ s.dev.nat Obj.BAT_USE = 1 ∧ s.dev.atRest = true) ∧
  (∃ (s : State), s.dev.Serving ∧ s.dev.nat Obj.BAT_USE = 1 ∧ s.dev.atRest = false) ∧
  (∃ (s : State) (mv : Nat), s.dev.Serving ∧ s.dev.nat Obj.BAT_USE = 1 ∧ s.dev.nat Obj.BAT_STATE ≠ 5 ∧ mv < s.dev.nat Obj.BAT_V_CUTOFF ∧ s.dev.nat
    Obj.BAT_CUTOFF_COUNT + 1 < counterMod Obj.BAT_CUTOFF_COUNT ∧ ((s.dev.nat Obj.HO_STATE) = 2 ∨ (s.dev.nat Obj.HO_STATE) = 3)) ∧
  (∃ (s : State) (mv : Nat), s.dev.Serving ∧ s.dev.nat Obj.BAT_USE = 1 ∧ (s.dev.nat Obj.BAT_STATE = 5 ∨ s.dev.nat Obj.BAT_V_CUTOFF ≤ mv)) ∧
  (∃ (s : State) (mv : Nat), s.dev.Serving ∧ s.dev.nat Obj.BAT_USE = 1 ∧ s.dev.nat Obj.BAT_STATE = 5 ∧ s.dev.nat Obj.BAT_V_EMPTY_LOADED ≤ mv ∧
    (s.dev.nat Obj.HO_STATE) ≠ 2 ∧ (s.dev.nat Obj.HO_STATE) ≠ 3) ∧
  (∃ (s : State) (mv : Nat), s.dev.Serving ∧ s.dev.nat Obj.BAT_USE = 1 ∧ (s.dev.nat Obj.BAT_STATE ≠ 5 ∨ mv < s.dev.nat Obj.BAT_V_EMPTY_LOADED ∨
    (s.dev.nat Obj.HO_STATE) = 2 ∨ (s.dev.nat Obj.HO_STATE) = 3)) ∧
  (∃ (s : State), s.dev.alive = true ∧ s.dev.power.banked = false ∧ s.dev.op = .operating ∧ s.dev.power.autAt < s.dev.now / 100000000 ∧ ((s.dev.nat
    Obj.HO_STATE) = 2 ∨ (s.dev.nat Obj.HO_STATE) = 3)) ∧
  (∃ (s : State), s.dev.alive = true ∧ s.dev.power.banked = false ∧ s.dev.op = .operating ∧ s.dev.power.autAt < s.dev.now / 100000000 ∧ (s.dev.nat
    Obj.HO_STATE) = 0) ∧
  (∃ (s : State), s.dev.alive = true ∧ s.dev.power.banked = false ∧ s.dev.op = .operating ∧ s.dev.power.autAt < s.dev.now / 100000000 ∧ (s.dev.nat
    Obj.HO_STATE) ≠ 0 ∧ (s.dev.nat Obj.HO_STATE) ≠ 2 ∧ (s.dev.nat Obj.HO_STATE) ≠ 3) ∧
  (∃ (s : State), s.dev.alive = true ∧ s.dev.power.banked = false ∧ s.dev.op = .operating ∧ s.dev.now / 100000000 ≤ s.dev.power.autAt) :=
  ⟨(let s : State := idle; let mv : Nat := 0; let ua : Int := 0; let s := setN Obj.BAT_USE (1) s; let s := setNow 100000 s
    ⟨s, mv, ua, by decide +kernel +zetaReduce⟩),
   (let s : State := idle; let mv : Nat := 30000; let ua : Int := 200001; let s := setN Obj.BAT_USE (1) s
    let s := setN Obj.BAT_V_EMPTY_LOADED 0 (setN Obj.BAT_V_MARGIN 0 (setN Obj.BAT_CHARGE_MAH 0 (setNow 100000 s)))
    ⟨s, mv, ua, by decide +kernel +zetaReduce⟩),
   (let s : State := idle; let s := setN Obj.BAT_USE (1) s; let s := setNow 100000 s
    let s := up s fun d => { d with rep := { d.rep with conds := [⟨0x0603, 0xFFFF, 0, false, [], 0⟩] } }; ⟨s, by decide +kernel +zetaReduce⟩),
   (let s : State := idle; let s := setN Obj.BAT_USE (1) s; ⟨s, by decide +kernel +zetaReduce⟩),
   (let s : State := idle; let s := setN Obj.BAT_USE (1) s; let s := up s fun d => { d with power := { d.power with restSince := some 0 } }
    let s := setN Obj.BAT_REST_MIN 1 (setNow 60000000000 s); ⟨s, by decide +kernel +zetaReduce⟩),
   (let s : State := idle; let s := setN Obj.BAT_USE (1) s; ⟨s, by decide +kernel +zetaReduce⟩),
   (let s : State := idle; let mv : Nat := 0; let s := setN Obj.BAT_USE (1) s
    let s := setN Obj.BAT_STATE 0 (setN Obj.BAT_V_CUTOFF 1 (setN Obj.HO_STATE 2 s)); ⟨s, mv, by decide +kernel +zetaReduce⟩),
   (let s : State := idle; let mv : Nat := 0; let s := setN Obj.BAT_USE (1) s; let s := setN Obj.BAT_STATE (5) s
    ⟨s, mv, by decide +kernel +zetaReduce⟩),
   (let s : State := idle; let mv : Nat := 0; let s := setN Obj.BAT_USE (1) s; let s := setN Obj.BAT_STATE (5) s
    ⟨s, mv, by decide +kernel +zetaReduce⟩),
   (let s : State := idle; let mv : Nat := 0; let s := setN Obj.BAT_USE (1) s; let s := setN Obj.BAT_STATE (5 + 1) s
    ⟨s, mv, by decide +kernel +zetaReduce⟩),
   (let s : State := idle; let s := up s fun d => { d with power.banked := false }; let s := fOp .operating s
    let s := setNow 100000000 (setN Obj.HO_STATE 2 s); ⟨s, by decide +kernel +zetaReduce⟩),
   (let s : State := idle; let s := up s fun d => { d with power.banked := false }; let s := fOp .operating s
    let s := setNow 100000000 (setN Obj.HO_STATE 0 s); ⟨s, by decide +kernel +zetaReduce⟩),
   (let s : State := idle; let s := up s fun d => { d with power.banked := false }; let s := fOp .operating s
    let s := setNow 100000000 (setN Obj.HO_STATE 1 s); ⟨s, by decide +kernel +zetaReduce⟩),
   (let s : State := idle; let s := up s fun d => { d with power.banked := false }; let s := fOp .operating s; ⟨s, by decide +kernel +zetaReduce⟩)⟩

theorem witness_PowerFrame :
  ∃ (s : State) (t : State) (r : Fin 8) (mv : Nat) (ua : Int) (b : Bool) (i : Instr), i ∈ [Instr.railDipDebounce r mv, .railDipClear r mv, .hoRail0Below
    mv, .hoRail0Return mv, .hoQualifyExpiry, .hoHandoverDwell, .rail0StableChange b, .hoReturnDue, .hoCutoffRecover, .batterySample mv ua,
    .batteryRestPoint mv, .batteryCutoff mv, .batteryCutoffEnd mv, .autonomyUpdate, .holdupLowWarn mv, .holdupLowClear mv] ∧ exec i s = .next t ∧
    s.dev.darkened = false :=
  ⟨idle, _, 7, 0, 0, true, .batterySample 0 0, by decide, rfl, by decide +kernel⟩

theorem witness_ResetClearsAndKeeps :
  (∃ (s : State) (ticks : Nat), s.dev.power.inReset = false ∧ 1000 ≤ ticks ∧ s.dev.ember.bank = none) ∧
  (∃ (s : State) (ticks : Nat), (s.dev.power.inReset = true ∨ ticks < 1000)) ∧
  (∃ (s : State), s.dev.power.inReset = true ∧ s.dev.nat Obj.RESET_COUNT + 1 < counterMod Obj.RESET_COUNT) ∧
  (∃ (s : State), s.dev.power.inReset = false ∧ s.dev.power.banked = true ∧ s.dev.power.keepLost = false ∧ s.dev.replay.own = none ∧ s.dev.cfg.switch =
    none ∧ s.dev.nat Obj.CAL_VALID = 1) ∧
  (∃ (s : State) (k : Nat), s.dev.power.inReset = false ∧ s.dev.replay.own = none ∧ s.dev.cfg.switch = none ∧ s.dev.ember.bank = none ∧ persOf k =
    .ember) ∧
  (∃ (s : State) (k : Nat), s.dev.power.inReset = false ∧ s.dev.replay.own = none ∧ s.dev.cfg.switch = none ∧ s.dev.ember.bank = none ∧ persOf k =
    .fuse) ∧
  (∃ (s : State) (k : Nat), s.dev.power.inReset = false ∧ s.dev.replay.own = none ∧ s.dev.cfg.switch = none ∧ s.dev.ember.bank = none ∧ persOf k =
    .record) ∧
  (∃ (s : State) (k : Nat), s.dev.power.inReset = false ∧ s.dev.replay.own = none ∧ s.dev.cfg.switch = none ∧ s.dev.ember.bank = none ∧
    s.dev.power.keepLost = false ∧ k ∈ cicadaKeys) ∧
  (∃ (s : State) (k : Nat), s.dev.power.inReset = false ∧ s.dev.replay.own = none ∧ s.dev.cfg.switch = none ∧ s.dev.ember.bank = none ∧ persOf k =
    .mayfly ∧ k ∉ cicadaKeys ∧ k ≠ Obj.CFG_STAGE_STATE ∧ k ≠ Obj.FW_CFG_HOLD ∧ k ≠ Obj.AUTH_STATE) ∧
  (∃ (s : State) (b : Bank), s.dev.power.inReset = false ∧ s.dev.replay.own = none ∧ s.dev.cfg.switch = none ∧ s.dev.ember.bank = some b) :=
  ⟨(let s : State := idle; let ticks : Nat := 1000; let s := up s fun d => { d with power.inReset := false }
    let s := up s fun d => { d with ember.bank := none }; ⟨s, ticks, by decide +kernel +zetaReduce⟩),
   (let s : State := idle; let ticks : Nat := 0; let s := up s fun d => { d with power.inReset := true }; ⟨s, ticks, by decide +kernel +zetaReduce⟩),
   (let s : State := idle; let s := up s fun d => { d with power.inReset := true }; ⟨s, by decide +kernel +zetaReduce⟩),
   (let s : State := idle; let s := up s fun d => { d with power.inReset := false }; let s := up s fun d => { d with power.banked := true }
    let s := up s fun d => { d with power.keepLost := false }; let s := up s fun d => { d with replay.own := none }
    let s := up s fun d => { d with cfg.switch := none }; let s := setN Obj.CAL_VALID (1) s; ⟨s, by decide +kernel +zetaReduce⟩),
   (let s : State := idle; let k : Nat := Obj.SVC_USE; let s := up s fun d => { d with power.inReset := false }
    let s := up s fun d => { d with replay.own := none }; let s := up s fun d => { d with cfg.switch := none }
    let s := up s fun d => { d with ember.bank := none }; ⟨s, k, by decide +kernel +zetaReduce⟩),
   (let s : State := idle; let k : Nat := Obj.SERIAL_NUMBER; let s := up s fun d => { d with power.inReset := false }
    let s := up s fun d => { d with replay.own := none }; let s := up s fun d => { d with cfg.switch := none }
    let s := up s fun d => { d with ember.bank := none }; ⟨s, k, by decide +kernel +zetaReduce⟩),
   (let s : State := idle; let k : Nat := Obj.RESET_COUNT; let s := up s fun d => { d with power.inReset := false }
    let s := up s fun d => { d with replay.own := none }; let s := up s fun d => { d with cfg.switch := none }
    let s := up s fun d => { d with ember.bank := none }; ⟨s, k, by decide +kernel +zetaReduce⟩),
   (let s : State := idle; let k : Nat := Obj.CAL_NOW; let s := up s fun d => { d with power.inReset := false }
    let s := up s fun d => { d with replay.own := none }; let s := up s fun d => { d with cfg.switch := none }
    let s := up s fun d => { d with ember.bank := none }; let s := up s fun d => { d with power.keepLost := false }
    ⟨s, k, by decide +kernel +zetaReduce⟩),
   (let s : State := idle; let k : Nat := 0; let s := up s fun d => { d with power.inReset := false }
    let s := up s fun d => { d with replay.own := none }; let s := up s fun d => { d with cfg.switch := none }
    let s := up s fun d => { d with ember.bank := none }; ⟨s, k, by decide +kernel +zetaReduce⟩),
   (let s : State := idle; let b : Bank := noBank; let s := up s fun d => { d with power.inReset := false }
    let s := up s fun d => { d with replay.own := none }; let s := up s fun d => { d with cfg.switch := none }
    let s := up s fun d => { d with ember.bank := some b }; ⟨s, b, by decide +kernel +zetaReduce⟩)⟩

theorem witness_KindlingPhasesInOrder :
  (∃ (s : State) (k : Nat), s.dev.alive = true ∧ s.dev.power.banked = false ∧ s.dev.op = .kindling ∧ s.dev.nat Obj.KINDLE_PHASE = 1 ∧ k < 40 ∧ k ≠ 37 ∧
    k ≠ 38) ∧
  (∃ (s : State), s.dev.alive = true ∧ s.dev.power.banked = false ∧ (s.dev.op ≠ .kindling ∨ s.dev.nat Obj.KINDLE_PHASE ≠ 1)) ∧
  (∃ (s : State), s.dev.alive = true ∧ s.dev.power.banked = false ∧ (s.dev.op ≠ .kindling ∨ s.dev.nat Obj.KINDLE_PHASE ≠ 2)) ∧
  (∃ (s : State) (i : Nat), s.dev.alive = true ∧ s.dev.power.banked = false ∧ s.dev.op = .kindling ∧ s.dev.nat Obj.KINDLE_PHASE = 2 ∧ (∀ k, k < 16 →
    s.dev.fuseRow (2 * k) = 0 ∨ s.dev.fuseRow (2 * k) = 2 ^ 32 - 1 ∨ (rowValid k (s.dev.fuseRow (2 * k)) = true ∧ rowValid k (s.dev.fuseRow (2 * k +
    1)) = true)) ∧ s.dev.trialSlot = some i ∧ (s.dev.slot i).booted < 3 ∧ s.dev.imageCause (s.dev.slot i) = 0) ∧
  (∃ (s : State) (i : Nat) (r : List Nat), s.dev.alive = true ∧ s.dev.power.banked = false ∧ s.dev.op = .kindling ∧ s.dev.nat Obj.KINDLE_PHASE = 2 ∧ (∀
    k, k < 16 → s.dev.fuseRow (2 * k) = 0 ∨ s.dev.fuseRow (2 * k) = 2 ^ 32 - 1 ∨ (rowValid k (s.dev.fuseRow (2 * k)) = true ∧ rowValid k
    (s.dev.fuseRow (2 * k + 1)) = true)) ∧ s.dev.trialSlot = none ∧ s.dev.confirmedSlots = i :: r ∧ s.dev.imageCause (s.dev.slot i) = 0) ∧
  (∃ (s : State), s.dev.alive = true ∧ s.dev.power.banked = false ∧ s.dev.op = .kindling ∧ s.dev.nat Obj.KINDLE_PHASE = 2 ∧ (∀ k, k < 16 → s.dev.fuseRow
    (2 * k) = 0 ∨ s.dev.fuseRow (2 * k) = 2 ^ 32 - 1 ∨ (rowValid k (s.dev.fuseRow (2 * k)) = true ∧ rowValid k (s.dev.fuseRow (2 * k + 1)) = true)) ∧
    s.dev.trialSlot = none ∧ (∀ i ∈ s.dev.confirmedSlots, s.dev.imageCause (s.dev.slot i) ≠ 0)) ∧
  (∃ (s : State) (bad : List Nat), s.dev.alive = true ∧ s.dev.power.banked = false ∧ s.dev.op = .kindling ∧ s.dev.nat Obj.KINDLE_PHASE = 3 ∧ bad ≠ []) ∧
  (∃ (s : State), s.dev.alive = true ∧ s.dev.power.banked = false ∧ s.dev.op = .kindling ∧ s.dev.nat Obj.KINDLE_PHASE = 3 ∧ s.dev.ember.intents ≠ []) ∧
  (∃ (s : State), s.dev.alive = true ∧ s.dev.power.banked = false ∧ s.dev.op = .kindling ∧ s.dev.nat Obj.KINDLE_PHASE = 3 ∧ s.dev.ember.cutBank.isSome) ∧
  (∃ (s : State) (bad : List Nat) (e : Nat × Val), s.dev.alive = true ∧ s.dev.power.banked = false ∧ s.dev.op = .kindling ∧ s.dev.nat Obj.KINDLE_PHASE =
    3 ∧ s.dev.recordVals = [] ∧ (s.dev.banked.map Prod.fst).Nodup ∧ bad = [] ∧ s.dev.ember.intents = [] ∧ s.dev.ember.cutBank = none ∧ e ∈
    s.dev.banked ∧ e.1 ∉ [Obj.EMB_RECOVERY_US, Obj.EMB_DISCARDED, Obj.EMB_CORRECTED_BITS, Obj.EMB_ABANDONED, Obj.KINDLE_EMBER_US, Obj.KINDLE_PHASE]) ∧
  (∃ (s : State), s.dev.alive = true ∧ s.dev.power.banked = false ∧ (s.dev.op ≠ .kindling ∨ s.dev.nat Obj.KINDLE_PHASE ≠ 3)) ∧
  (∃ (s : State), s.dev.alive = true ∧ s.dev.power.banked = false ∧ s.dev.op = .kindling ∧ s.dev.nat Obj.KINDLE_PHASE = 4 ∧ s.dev.lc ≠ .replay ∧
    (s.dev.slot (s.dev.nat Obj.FW_ACTIVE_SLOT)).cfgFormat = s.dev.cfg.format) ∧
  (∃ (s : State), s.dev.alive = true ∧ s.dev.power.banked = false ∧ s.dev.op = .kindling ∧ s.dev.nat Obj.KINDLE_PHASE = 4 ∧ s.dev.lc = .replay) ∧
  (∃ (s : State), s.dev.alive = true ∧ s.dev.power.banked = false ∧ (s.dev.op ≠ .kindling ∨ s.dev.nat Obj.KINDLE_PHASE ≠ 4)) ∧
  (∃ (s : State) (g : Nat), s.dev.alive = true ∧ s.dev.power.banked = false ∧ s.dev.op = .kindled ∧ s.dev.lanes.kindledAt + 100000 * s.dev.nat
    Obj.KINDLE_TIMEOUT_MS ≤ s.dev.now ∧ g < 32 ∧ s.dev.sgUsed g = true) ∧
  (∃ (s : State), s.dev.alive = true ∧ s.dev.power.banked = false ∧ s.dev.op = .kindled ∧ s.dev.now < s.dev.lanes.kindledAt + 100000 * s.dev.nat
    Obj.KINDLE_TIMEOUT_MS) ∧
  (∃ (s : State) (k : Nat), s.dev.power.banked = true ∧ s.dev.nat Obj.BANK_STATE = 4 ∧ s.dev.power.inReset = false ∧ s.dev.ember.fromCicada = false ∧ k
    < 40) ∧
  (∃ (s : State), (s.dev.power.banked = false ∨ s.dev.nat Obj.BANK_STATE ≠ 4 ∨ s.dev.power.inReset = true ∨ s.dev.ember.fromCicada = true)) ∧
  (∃ (s : State), s.dev.alive = true ∧ s.dev.power.banked = false ∧ s.dev.nat Obj.FW_PROBATION ≠ 0 ∧ s.dev.kindledPast = true ∧ s.dev.lanes.kindledAt +
    180000000000 ≤ s.dev.now) ∧
  (∃ (s : State), s.dev.alive = true ∧ s.dev.power.banked = false ∧ (s.dev.nat Obj.FW_PROBATION = 0 ∨ s.dev.kindledPast = false ∨ s.dev.now <
    s.dev.lanes.kindledAt + 180000000000)) :=
  ⟨(let s : State := idle; let k : Nat := 39; let s := up s fun d => { d with power.banked := false }; let s := fOp .kindling s
    let s := setN Obj.KINDLE_PHASE (1) s; ⟨s, k, by decide +kernel +zetaReduce⟩),
   (let s : State := idle; let s := up s fun d => { d with power.banked := false }; ⟨s, by decide +kernel +zetaReduce⟩),
   (let s : State := idle; let s := up s fun d => { d with power.banked := false }; ⟨s, by decide +kernel +zetaReduce⟩),
   (let s : State := idle; let i : Nat := 1; let s := up s fun d => { d with power.banked := false }; let s := fOp .kindling s
    let s := setN Obj.KINDLE_PHASE (2) s; let s := setB Obj.LC_ROWS (List.replicate 128 0) s
    let s := setSlot 0 (fun y => { y with confirmed := 1 }) (setSlot 1 (fun y => { y with base := true, trial := true, confirmed := 0, booted := 2 }) s)
    ⟨s, i, by decide +kernel +zetaReduce⟩),
   (let s : State := idle; let i : Nat := 1; let r : List Nat := [0]; let s := up s fun d => { d with power.banked := false }
    let s := fOp .kindling s; let s := setN Obj.KINDLE_PHASE (2) s; let s := setB Obj.LC_ROWS (List.replicate 128 0) s
    let s := setSlot 0 (fun y => { y with confirmed := 1 }) (setSlot 1 (fun y => { y with base := true, confirmed := 2 }) s)
    ⟨s, i, r, by decide +kernel +zetaReduce⟩),
   (let s : State := idle; let s := up s fun d => { d with power.banked := false }; let s := fOp .kindling s; let s := setN Obj.KINDLE_PHASE (2) s
    let s := setB Obj.LC_ROWS (List.replicate 128 0) s
    let s := setSlot 0 (fun y => { y with confirmed := 0, trial := false }) (setSlot 1 (fun y => { y with confirmed := 2, trial := false }) s)
    ⟨s, by decide +kernel +zetaReduce⟩),
   (let s : State := idle; let bad : List Nat := [3]; let s := up s fun d => { d with power.banked := false }; let s := fOp .kindling s
    let s := setN Obj.KINDLE_PHASE (3) s; ⟨s, bad, by decide +kernel +zetaReduce⟩),
   (let s : State := idle; let s := up s fun d => { d with power.banked := false }; let s := fOp .kindling s; let s := setN Obj.KINDLE_PHASE (3) s
    let s := up s fun d => { d with ember.intents := [1] }; ⟨s, by decide +kernel +zetaReduce⟩),
   (let s : State := idle; let s := up s fun d => { d with power.banked := false }; let s := fOp .kindling s; let s := setN Obj.KINDLE_PHASE (3) s
    let s := up s fun d => { d with ember.cutBank := some 3 }; ⟨s, by decide +kernel +zetaReduce⟩),
   (let s : State := idle; let bad : List Nat := []; let e : Nat × Val := (Obj.RESET_COUNT, .num 7)
    let s := up s fun d => { d with power.banked := false }; let s := fOp .kindling s; let s := setN Obj.KINDLE_PHASE (3) s
    let s := up s fun d => { d with ember.intents := [] }; let s := up s fun d => { d with ember.cutBank := none }
    let s := up s fun d => { d with banked := [e] }; ⟨s, bad, e, by decide +kernel +zetaReduce⟩),
   (let s : State := idle; let s := up s fun d => { d with power.banked := false }; ⟨s, by decide +kernel +zetaReduce⟩),
   (let s : State := idle; let s := up s fun d => { d with power.banked := false }; let s := fOp .kindling s; let s := setN Obj.KINDLE_PHASE (4) s
    ⟨s, by decide +kernel +zetaReduce⟩),
   (let s : State := idle; let s := up s fun d => { d with power.banked := false }; let s := fOp .kindling s; let s := setN Obj.KINDLE_PHASE (4) s
    let s := fLc .replay s; ⟨s, by decide +kernel +zetaReduce⟩),
   (let s : State := idle; let s := up s fun d => { d with power.banked := false }; ⟨s, by decide +kernel +zetaReduce⟩),
   (let s : State := idle; let g : Nat := 0; let s := up s fun d => { d with power.banked := false }; let s := fOp .kindled s
    let s := setB (Obj.SG_CHANNELS 0) ([3] ++ List.replicate 11 0) s
    let s := setNow (s.dev.lanes.kindledAt + 100000 * s.dev.nat Obj.KINDLE_TIMEOUT_MS) s; ⟨s, g, by decide +kernel +zetaReduce⟩),
   (let s : State := idle; let s := up s fun d => { d with power.banked := false }; let s := fOp .kindled s; ⟨s, by decide +kernel +zetaReduce⟩),
   (let s : State := idle; let k : Nat := 0; let s := up s fun d => { d with power.banked := true }; let s := setN Obj.BANK_STATE (4) s
    let s := up s fun d => { d with power.inReset := false }; let s := up s fun d => { d with ember.fromCicada := false }
    ⟨s, k, by decide +kernel +zetaReduce⟩),
   (let s : State := idle; let s := up s fun d => { d with power.banked := false }; ⟨s, by decide +kernel +zetaReduce⟩),
   (let s : State := idle; let s := up s fun d => { d with power.banked := false }; let s := setN Obj.FW_PROBATION (0 + 1) s
    let s := setNow (s.dev.lanes.kindledAt + 180000000000) s; ⟨s, by decide +kernel +zetaReduce⟩),
   (let s : State := idle; let s := up s fun d => { d with power.banked := false }; let s := setN Obj.FW_PROBATION (0) s
    ⟨s, by decide +kernel +zetaReduce⟩)⟩

theorem witness_BanksBeginAndEnd :
  (∃ (s : State), s.dev.alive = true ∧ (s.dev.op = .kindled ∨ s.dev.op = .operating) ∧ s.dev.ember.bank = none ∧ s.dev.power.banked = false ∧ s.dev.nat
    Obj.BANK_COUNT + 1 < counterMod Obj.BANK_COUNT ∧ (s.dev.ember.lastBank.getD s.dev.lanes.kindledAt + 6000000000 * s.dev.nat Obj.BANK_INTERVAL_MIN)
    ≤ s.dev.now) ∧
  (∃ (s : State), s.dev.alive = true ∧ (s.dev.op = .kindled ∨ s.dev.op = .operating) ∧ s.dev.ember.bank = none ∧ s.dev.power.banked = false ∧ s.dev.nat
    Obj.BANK_COUNT + 1 < counterMod Obj.BANK_COUNT ∧ s.dev.now < (s.dev.ember.lastBank.getD s.dev.lanes.kindledAt + 6000000000 * s.dev.nat
    Obj.BANK_INTERVAL_MIN)) ∧
  (∃ (s : State), s.dev.alive = true ∧ (s.dev.op = .kindled ∨ s.dev.op = .operating) ∧ s.dev.ember.bank = none ∧ s.dev.power.banked = false ∧ s.dev.nat
    Obj.BANK_COUNT + 1 < counterMod Obj.BANK_COUNT ∧ 24 ≤ s.dev.ember.dirty.length ∧ (∀ a, s.dev.ember.lastBank = some a → a + 30000000000 ≤
    s.dev.now)) ∧
  (∃ (s : State), s.dev.alive = true ∧ (s.dev.op = .kindled ∨ s.dev.op = .operating) ∧ s.dev.ember.bank = none ∧ s.dev.power.banked = false ∧ s.dev.nat
    Obj.BANK_COUNT + 1 < counterMod Obj.BANK_COUNT ∧ (s.dev.ember.dirty.length < 24 ∨ (∃ a, s.dev.ember.lastBank = some a ∧ s.dev.now < a +
    30000000000))) ∧
  (∃ (s : State) (b : Bank), s.dev.power.inReset = false ∧ s.dev.ember.bank = some b ∧ (s.dev.op ≠ .haltSafe ∨ s.dev.nat Obj.FW_PROBATION = 0) ∧
    s.dev.power.overAfter = none) ∧
  (∃ (s : State) (b : Bank) (v : Nat), s.dev.power.inReset = false ∧ s.dev.ember.bank = some b ∧ s.dev.Guarded ∧ s.dev.power.overAfter = some v ∧
    s.dev.nat Obj.FW_PROBATION = 0) ∧
  (∃ (s : State) (b : Bank) (v : Nat), s.dev.power.inReset = false ∧ s.dev.ember.bank = some b ∧ s.dev.Guarded ∧ s.dev.power.overAfter = some v ∧
    s.dev.nat Obj.FW_PROBATION ≠ 0) ∧
  (∃ (s : State), s.dev.power.inReset = false ∧ s.dev.ember.bank = none ∧ (s.dev.op ≠ .haltSafe ∨ s.dev.nat Obj.FW_PROBATION = 0)) ∧
  (∃ (s : State), s.dev.alive = true ∧ s.dev.power.banked = false ∧ s.dev.ember.bank = none ∧ s.dev.op ≠ .loader ∧ s.dev.op ≠ .replay ∧ s.dev.nat
    Obj.EMB_CHECKPOINTS + 1 < counterMod Obj.EMB_CHECKPOINTS) ∧
  (∃ (s : State), s.dev.alive = true ∧ (s.dev.power.banked = true ∨ s.dev.ember.bank.isSome ∨ s.dev.op = .loader ∨ s.dev.op = .replay)) ∧
  (∃ (s : State), s.dev.alive = true ∧ s.dev.power.banked = false ∧ (s.dev.nat Obj.PATROL_LAST_S + 2592000 ≤ s.dev.nat Obj.POWERED_TIME_S ∨
    s.dev.ember.patrolDue = true) ∧ (s.dev.op = .kindled ∨ s.dev.op = .operating) ∧ s.dev.nat Obj.PATROL_STATE = 0) ∧
  (∃ (s : State), s.dev.alive = true ∧ s.dev.power.banked = false ∧ (¬ (s.dev.nat Obj.PATROL_LAST_S + 2592000 ≤ s.dev.nat Obj.POWERED_TIME_S ∨
    s.dev.ember.patrolDue = true) ∨ s.dev.nat Obj.PATROL_STATE ≠ 0)) ∧
  (∃ (s : State) (bad : List Nat), s.dev.alive = true ∧ s.dev.power.banked = false ∧ s.dev.nat Obj.PATROL_STATE = 1 ∧ s.dev.nat Obj.PATROL_REFRESHED +
    bad.length < counterMod Obj.PATROL_REFRESHED ∧ bad ≠ []) ∧
  (∃ (s : State), s.dev.alive = true ∧ s.dev.power.banked = false ∧ s.dev.nat Obj.PATROL_STATE ≠ 1) :=
  ⟨(let s : State := idle; let s := fOp .kindled s; let s := up s fun d => { d with ember.bank := none }
    let s := up s fun d => { d with power.banked := false }
    let s := setNow ((s.dev.ember.lastBank.getD s.dev.lanes.kindledAt + 6000000000 * s.dev.nat Obj.BANK_INTERVAL_MIN)) s
    ⟨s, by decide +kernel +zetaReduce⟩),
   (let s : State := idle; let s := fOp .kindled s; let s := up s fun d => { d with ember.bank := none }
    let s := up s fun d => { d with power.banked := false }; ⟨s, by decide +kernel +zetaReduce⟩),
   ⟨up idle fun d => { d with ember.dirty := List.range 24 }, by decide +kernel, by decide +kernel, by decide +kernel, by decide +kernel, by
     decide +kernel, by decide +kernel, fun a h => by have : (none : Option Nat) = some a := h; cases this⟩,
   ⟨idle, by decide +kernel, by decide +kernel, by decide +kernel, by decide +kernel, by decide +kernel, .inl (by decide +kernel)⟩,
   (let s : State := idle; let b : Bank := noBank; let s := up s fun d => { d with power.inReset := false }
    let s := up s fun d => { d with ember.bank := some b }; let s := up s fun d => { d with power.overAfter := none }
    ⟨s, b, by decide +kernel +zetaReduce⟩),
   (let s : State := idle; let b : Bank := noBank; let v : Nat := 0; let s := up s fun d => { d with power.inReset := false }
    let s := up s fun d => { d with ember.bank := some b }; let s := up s fun d => { d with power.overAfter := some v }
    let s := setN Obj.FW_PROBATION (0) s; ⟨s, b, v, by decide +kernel +zetaReduce⟩),
   (let s : State := idle; let b : Bank := noBank; let v : Nat := 0; let s := up s fun d => { d with power.inReset := false }
    let s := up s fun d => { d with ember.bank := some b }; let s := up s fun d => { d with power.overAfter := some v }
    let s := setN Obj.FW_PROBATION (0 + 1) s; ⟨s, b, v, by decide +kernel +zetaReduce⟩),
   (let s : State := idle; let s := up s fun d => { d with power.inReset := false }; let s := up s fun d => { d with ember.bank := none }
    ⟨s, by decide +kernel +zetaReduce⟩),
   (let s : State := idle; let s := up s fun d => { d with power.banked := false }; let s := up s fun d => { d with ember.bank := none }
    ⟨s, by decide +kernel +zetaReduce⟩),
   (let s : State := idle; let s := up s fun d => { d with power.banked := true }; ⟨s, by decide +kernel +zetaReduce⟩),
   (let s : State := idle; let s := up s fun d => { d with power.banked := false }; let s := fOp .kindled s; let s := setN Obj.PATROL_STATE (0) s
    let s := up s fun d => { d with ember.patrolDue := true }; ⟨s, by decide +kernel +zetaReduce⟩),
   (let s : State := idle; let s := up s fun d => { d with power.banked := false }; ⟨s, by decide +kernel +zetaReduce⟩),
   (let s : State := idle; let bad : List Nat := [3]; let s := up s fun d => { d with power.banked := false }; let s := setN Obj.PATROL_STATE (1) s
    ⟨s, bad, by decide +kernel +zetaReduce⟩),
   (let s : State := idle; let s := up s fun d => { d with power.banked := false }; let s := setN Obj.PATROL_STATE (1 + 1) s
    ⟨s, by decide +kernel +zetaReduce⟩)⟩

theorem witness_JournalSealsAndErases :
  (∃ (s : State), s.dev.alive = true ∧ s.dev.power.banked = false ∧ s.dev.jnl.recovered = true ∧ (segFit s.dev.jnl.buf none 61376) <
    s.dev.jnl.buf.length) ∧
  (∃ (s : State), s.dev.alive = true ∧ s.dev.power.banked = false ∧ s.dev.jnl.recovered = true ∧ s.dev.jnl.buf.length ≤ (segFit s.dev.jnl.buf none
    61376) ∧ s.dev.capturing = true) ∧
  (∃ (s : State), s.dev.alive = true ∧ s.dev.power.banked = false ∧ (s.dev.jnl.recovered = false ∨ (s.dev.jnl.buf.length ≤ (segFit s.dev.jnl.buf none
    61376) ∧ s.dev.capturing = false))) ∧
  (∃ (s : State) (head : Nat), s.dev.alive = true ∧ s.dev.power.banked = false ∧ s.dev.jnl.recovered = false ∧ s.dev.kindledPast = true ∧ s.dev.op ≠
    .replay ∧ head ≤ s.dev.jnl.head) ∧
  (∃ (s : State) (head : Nat), s.dev.alive = true ∧ s.dev.power.banked = false ∧ s.dev.jnl.recovered = false ∧ s.dev.kindledPast = true ∧ s.dev.op ≠
    .replay ∧ s.dev.jnl.head < head) ∧
  (∃ (s : State), s.dev.alive = true ∧ s.dev.power.banked = false ∧ (s.dev.jnl.recovered = true ∨ s.dev.kindledPast = false ∨ s.dev.op = .replay)) ∧
  (∃ (s : State) (die : Fin 7) (failed : List Nat), s.dev.alive = true ∧ s.dev.power.banked = false ∧ s.dev.nat (Obj.JD_STATE (die.val + 1)) = 1 ∧
    s.dev.nat (Obj.JD_BAD_BLOCKS (die.val + 1)) + failed.length < counterMod (Obj.JD_BAD_BLOCKS (die.val + 1))) ∧
  (∃ (s : State) (die : Fin 7), s.dev.alive = true ∧ s.dev.power.banked = false ∧ s.dev.nat (Obj.JD_STATE (die.val + 1)) ≠ 1) ∧
  (∃ (s : State) (die : Fin 7), s.dev.alive = true ∧ s.dev.power.banked = false ∧ s.dev.nat Obj.VIR_RESENDS + 1 < counterMod Obj.VIR_RESENDS ∧ lookD 0
    s.dev.jnl.fails (die + 1) ≠ 2) ∧
  (∃ (s : State) (die : Fin 7), s.dev.alive = true ∧ s.dev.power.banked = false ∧ s.dev.nat Obj.VIR_RESENDS + 1 < counterMod Obj.VIR_RESENDS ∧ lookD 0
    s.dev.jnl.fails (die + 1) = 2 ∧ s.dev.nat Obj.VIR_RETRAINS + 1 < counterMod Obj.VIR_RETRAINS) ∧
  (∃ (s : State), s.dev.alive = true ∧ s.dev.power.banked = false ∧ 0 < s.dev.jnl.lost ∧ s.dev.bufFill + 256 ≤ 524288 ∧ s.dev.nat
    Obj.JNL_OVERRUN_RECORDS + s.dev.jnl.lost < counterMod Obj.JNL_OVERRUN_RECORDS) ∧
  (∃ (s : State), s.dev.alive = true ∧ s.dev.power.banked = false ∧ (s.dev.jnl.lost = 0 ∨ 524288 < s.dev.bufFill + 256)) ∧
  (∃ (s : State), s.dev.alive = true ∧ s.dev.power.banked = false ∧ s.dev.jnl.lost = 0 ∧ s.dev.jnl.lostLast + 1000000000 ≤ s.dev.now) ∧
  (∃ (s : State), s.dev.alive = true ∧ s.dev.power.banked = false ∧ (s.dev.jnl.lost ≠ 0 ∨ s.dev.now < s.dev.jnl.lostLast + 1000000000)) :=
  ⟨⟨up idle fun d => { d with jnl := { d.jnl with recovered := true, buf := List.replicate 15345 ⟨4, [], [], 0⟩ } },
    rfl, rfl, rfl, by
      have :=
     segFit_le (List.replicate 15345 ⟨4, [], [], 0⟩) none 61376
      simp only [up, List.length_replicate]; omega⟩,
   (let s : State := idle; let s := up s fun d => { d with power.banked := false }; let s := up s fun d => { d with jnl.recovered := true }
    let s := setN Obj.CAP_STATE 3 s; ⟨s, by decide +kernel +zetaReduce⟩),
   (let s : State := idle; let s := up s fun d => { d with power.banked := false }; let s := up s fun d => { d with jnl.recovered := false }
    ⟨s, by decide +kernel +zetaReduce⟩),
   (let s : State := idle; let head : Nat := 0; let s := up s fun d => { d with power.banked := false }
    let s := up s fun d => { d with jnl.recovered := false }; ⟨s, head, by decide +kernel +zetaReduce⟩),
   (let s : State := idle; let head : Nat := 1; let s := up s fun d => { d with power.banked := false }
    let s := up s fun d => { d with jnl.recovered := false }; ⟨s, head, by decide +kernel +zetaReduce⟩),
   (let s : State := idle; let s := up s fun d => { d with power.banked := false }; let s := up s fun d => { d with jnl.recovered := true }
    ⟨s, by decide +kernel +zetaReduce⟩),
   (let s : State := idle; let die : Fin 7 := 0; let failed : List Nat := []; let s := up s fun d => { d with power.banked := false }
    let s := setN (Obj.JD_STATE (die.val + 1)) (1) s; ⟨s, die, failed, by decide +kernel +zetaReduce⟩),
   (let s : State := idle; let die : Fin 7 := 0; let s := up s fun d => { d with power.banked := false }
    let s := setN (Obj.JD_STATE (die.val + 1)) (1 + 1) s; ⟨s, die, by decide +kernel +zetaReduce⟩),
   (let s : State := idle; let die : Fin 7 := 0; let s := up s fun d => { d with power.banked := false }; ⟨s, die, by decide +kernel +zetaReduce⟩),
   (let s : State := idle; let die : Fin 7 := 0; let s := up s fun d => { d with power.banked := false }
    let s := up s fun d => { d with jnl := { d.jnl with fails := [(1, 2)] } }; ⟨s, die, by decide +kernel +zetaReduce⟩),
   (let s : State := idle; let s := up s fun d => { d with power.banked := false }; let s := up s fun d => { d with jnl := { d.jnl with lost := 1 } }
    ⟨s, by decide +kernel +zetaReduce⟩),
   (let s : State := idle; let s := up s fun d => { d with power.banked := false }; let s := up s fun d => { d with jnl.lost := 0 }
    ⟨s, by decide +kernel +zetaReduce⟩),
   (let s : State := idle; let s := up s fun d => { d with power.banked := false }; let s := up s fun d => { d with jnl.lost := 0 }
    let s := setNow (s.dev.jnl.lostLast + 1000000000) s; ⟨s, by decide +kernel +zetaReduce⟩),
   (let s : State := idle; let s := up s fun d => { d with power.banked := false }; ⟨s, by decide +kernel +zetaReduce⟩)⟩

theorem witness_CaptureStatesAdvance :
  (∃ (s : State), s.dev.alive = true ∧ s.dev.power.banked = false ∧ (s.dev.nat Obj.CAP_STATE) = 1 ∧ (s.dev.jnl.refillAt + 100000 * s.dev.nat
    Obj.CAP_PRE_MS) ≤ s.dev.now) ∧
  (∃ (s : State), s.dev.alive = true ∧ s.dev.power.banked = false ∧ ((s.dev.nat Obj.CAP_STATE) ≠ 1 ∨ s.dev.now < (s.dev.jnl.refillAt + 100000 *
    s.dev.nat Obj.CAP_PRE_MS))) ∧
  (∃ (s : State), s.dev.alive = true ∧ s.dev.power.banked = false ∧ (s.dev.nat Obj.CAP_STATE) = 3 ∧ s.dev.drainRate < s.dev.jnl.capRate) ∧
  (∃ (s : State), s.dev.alive = true ∧ s.dev.power.banked = false ∧ ((s.dev.nat Obj.CAP_STATE) = 3 ∨ (s.dev.nat Obj.CAP_STATE) = 4) ∧ ((s.dev.nat
    Obj.CAP_STATE) = 4 ∨ s.dev.jnl.capRate ≤ s.dev.drainRate)) ∧
  (∃ (s : State), s.dev.alive = true ∧ s.dev.power.banked = false ∧ (s.dev.nat Obj.CAP_STATE) ≠ 3 ∧ (s.dev.nat Obj.CAP_STATE) ≠ 4) ∧
  (∃ (s : State), s.dev.alive = true ∧ s.dev.power.banked = false ∧ ((s.dev.nat Obj.CAP_STATE) = 3 ∨ (s.dev.nat Obj.CAP_STATE) = 4) ∧
    (s.dev.jnl.capStart + 100000 * s.dev.jnl.capPost) ≤ s.dev.now) ∧
  (∃ (s : State), s.dev.alive = true ∧ s.dev.power.banked = false ∧ (((s.dev.nat Obj.CAP_STATE) ≠ 3 ∧ (s.dev.nat Obj.CAP_STATE) ≠ 4) ∨ s.dev.now <
    (s.dev.jnl.capStart + 100000 * s.dev.jnl.capPost))) ∧
  (∃ (s : State), s.dev.alive = true ∧ s.dev.power.banked = false ∧ (s.dev.nat Obj.CAP_STATE) = 5 ∧ s.dev.nat Obj.CAP_FIRST_SEG ≤ s.dev.jnl.head) ∧
  (∃ (s : State), s.dev.alive = true ∧ s.dev.power.banked = false ∧ (s.dev.nat Obj.CAP_STATE) ≠ 5) ∧
  (∃ (s : State) (o : Origin), s.seen.accepts o Obj.CAP_TRIGGER [1] = true ∧ ((s.seen.execAt o Obj.CAP_TRIGGER [1])).nat Obj.CAP_NUMBER + 1 < counterMod
    Obj.CAP_NUMBER) ∧
  (∃ (s : State) (o : Origin) (num : Fin 4294967296) (i : Instr) (key : Nat) (on : Bool) (x : Capture), (i, key, on) ∈ [(Instr.capFreeze o num,
    Obj.CAP_FREEZE, true), (.capUnfreeze o num, Obj.CAP_UNFREEZE, false)] ∧ s.seen.accepts o key (leBytes 4 num) = true ∧ (((s.seen.execAt o key
    (leBytes 4 num))).jnl.caps.find? (fun y => y.num == num.val) = some x)) ∧
  (∃ (s : State) (o : Origin) (num : Fin 4294967296) (i : Instr) (key : Nat) (on : Bool), (i, key, on) ∈ [(Instr.capFreeze o num, Obj.CAP_FREEZE, true),
    (.capUnfreeze o num, Obj.CAP_UNFREEZE, false)] ∧ s.seen.accepts o key (leBytes 4 num) = true ∧ (((s.seen.execAt o key (leBytes 4
    num))).jnl.caps.find? (fun y => y.num == num.val) = none)) :=
  ⟨(let s : State := idle; let s := up s fun d => { d with power.banked := false }; let s := setN Obj.CAP_STATE 1 s
    let s := setNow ((s.dev.jnl.refillAt + 100000 * s.dev.nat Obj.CAP_PRE_MS)) s; ⟨s, by decide +kernel +zetaReduce⟩),
   (let s : State := idle; let s := up s fun d => { d with power.banked := false }; ⟨s, by decide +kernel +zetaReduce⟩),
   (let s : State := idle; let s := up s fun d => { d with power.banked := false }
    let s := setN Obj.CAP_STATE 3 (up s fun d => { d with jnl.capRate := 10000000000 }); ⟨s, by decide +kernel +zetaReduce⟩),
   (let s : State := idle; let s := up s fun d => { d with power.banked := false }; let s := setN Obj.CAP_STATE 3 s
    ⟨s, by decide +kernel +zetaReduce⟩),
   (let s : State := idle; let s := up s fun d => { d with power.banked := false }; ⟨s, by decide +kernel +zetaReduce⟩),
   (let s : State := idle; let s := up s fun d => { d with power.banked := false }; let s := setN Obj.CAP_STATE 4 s
    let s := setNow ((s.dev.jnl.capStart + 100000 * s.dev.jnl.capPost)) s; ⟨s, by decide +kernel +zetaReduce⟩),
   (let s : State := idle; let s := up s fun d => { d with power.banked := false }; ⟨s, by decide +kernel +zetaReduce⟩),
   (let s : State := idle; let s := up s fun d => { d with power.banked := false }; let s := setN Obj.CAP_STATE 5 s
    ⟨s, by decide +kernel +zetaReduce⟩),
   (let s : State := idle; let s := up s fun d => { d with power.banked := false }; ⟨s, by decide +kernel +zetaReduce⟩),
   (let s : State := idle; let o : Origin := .svc 4 0 6 []; ⟨s, o, by decide +kernel +zetaReduce⟩),
   (let s : State := idle; let o : Origin := .svc 4 0 6 []; let num : Fin 4294967296 := 0; let i : Instr := .capFreeze (.svc 4 0 6 []) 0
    let key : Nat := Obj.CAP_FREEZE; let on : Bool := true; let x : Capture := ⟨0, 3, 0, 0, 1, false⟩
    let s := up s fun d => { d with jnl := { d.jnl with caps := [x] } }; ⟨s, o, num, i, key, on, x, by decide +kernel +zetaReduce⟩),
   (let s : State := idle; let o : Origin := .svc 4 0 6 []; let num : Fin 4294967296 := 0; let i : Instr := .capFreeze (.svc 4 0 6 []) 0
    let key : Nat := Obj.CAP_FREEZE; let on : Bool := true; let s := setN Obj.CAP_STATE 3 s; ⟨s, o, num, i, key, on, by decide +kernel +zetaReduce⟩)⟩

theorem witness_LaneStatesChange :
  (∃ (s : State) (l : LaneId) (node : Fin 128), s.dev.Talks ∧ s.dev.laneOn (laneNo l) = true ∧ node.val ≠ 0 ∧ node.val = s.dev.nat (Obj.LN_TCMS_NODE
    (laneNo l)) ∧ ((s.dev.nat (Obj.LN_STATE (laneNo l))) = 1 ∨ (s.dev.nat (Obj.LN_STATE (laneNo l))) = 2 ∨ (s.dev.nat (Obj.LN_STATE (laneNo l))) = 3)
    ∧ s.dev.now < (s.dev.lastBeat (laneNo l) + 100000 * s.dev.nat Obj.LANE_TIMEOUT_MS) ∧ (s.dev.nat (Obj.LN_STATE (laneNo l))) = 3) ∧
  (∃ (s : State) (l : LaneId) (node : Fin 128), s.dev.Talks ∧ s.dev.laneOn (laneNo l) = true ∧ node.val ≠ 0 ∧ node.val = s.dev.nat (Obj.LN_TCMS_NODE
    (laneNo l)) ∧ ((s.dev.nat (Obj.LN_STATE (laneNo l))) = 1 ∨ (s.dev.nat (Obj.LN_STATE (laneNo l))) = 3) ∧ (s.dev.lastBeat (laneNo l) + 100000 *
    s.dev.nat Obj.LANE_TIMEOUT_MS) ≤ s.dev.now) ∧
  (∃ (s : State) (l : LaneId) (node : Fin 128), s.dev.Talks ∧ s.dev.laneOn (laneNo l) = true ∧ node.val ≠ 0 ∧ node.val = s.dev.nat (Obj.LN_TCMS_NODE
    (laneNo l)) ∧ (s.dev.nat (Obj.LN_STATE (laneNo l))) = 4) ∧
  (∃ (s : State) (l : LaneId) (node : Fin 128), s.dev.Talks ∧ s.dev.laneOn (laneNo l) = true ∧ (node.val = 0 ∨ node.val ≠ s.dev.nat (Obj.LN_TCMS_NODE
    (laneNo l)))) ∧
  (∃ (s : State) (l : LaneId), s.dev.Talks ∧ s.dev.laneOn (laneNo l) = true ∧ (s.dev.nat (Obj.LN_STATE (laneNo l))) = 2 ∧ (s.dev.lastBeat (laneNo l) +
    100000 * s.dev.nat Obj.LANE_SILENT_MS) ≤ s.dev.now) ∧
  (∃ (s : State) (l : LaneId), s.dev.Talks ∧ s.dev.laneOn (laneNo l) = true ∧ ((s.dev.nat (Obj.LN_STATE (laneNo l))) = 1 ∨ (s.dev.nat (Obj.LN_STATE
    (laneNo l))) = 3) ∧ (s.dev.lastBeat (laneNo l) + 100000 * s.dev.nat Obj.LANE_TIMEOUT_MS) ≤ s.dev.now ∧ s.dev.active 0x0203 (laneSource (laneNo l))
    = false ∧ s.dev.nat (Obj.LN_EXCL_COUNT (laneNo l)) + 1 < counterMod (Obj.LN_EXCL_COUNT (laneNo l))) ∧
  (∃ (s : State) (l : LaneId), s.dev.Talks ∧ (s.dev.laneOn (laneNo l) = false ∨ (s.dev.nat (Obj.LN_STATE (laneNo l))) ≠ 2 ∨ s.dev.now < (s.dev.lastBeat
    (laneNo l) + 100000 * s.dev.nat Obj.LANE_SILENT_MS))) ∧
  (∃ (s : State) (l : LaneId), s.dev.Talks ∧ (s.dev.laneOn (laneNo l) = false ∨ ((s.dev.nat (Obj.LN_STATE (laneNo l))) = 2 ∧ s.dev.now < (s.dev.lastBeat
    (laneNo l) + 100000 * s.dev.nat Obj.LANE_SILENT_MS)) ∨ (((s.dev.nat (Obj.LN_STATE (laneNo l))) = 1 ∨ (s.dev.nat (Obj.LN_STATE (laneNo l))) = 3) ∧
    s.dev.now < (s.dev.lastBeat (laneNo l) + 100000 * s.dev.nat Obj.LANE_TIMEOUT_MS)) ∨ (s.dev.nat (Obj.LN_STATE (laneNo l))) = 4)) ∧
  (∃ (s : State) (l : LaneId) (r : Nat), s.dev.Talks ∧ (s.dev.nat (Obj.LN_STATE (laneNo l))) = 4 ∧ (s.dev.ln (laneNo l)).hbRun = some r ∧ (r + 100000 *
    s.dev.nat Obj.LANE_READMIT_MS) ≤ s.dev.now ∧ s.dev.now < (s.dev.nat (Obj.LN_LAST_HB (laneNo l)) + 100000 * s.dev.nat Obj.LANE_SILENT_MS)) ∧
  (∃ (s : State) (l : LaneId) (r : Nat), s.dev.Talks ∧ (s.dev.nat (Obj.LN_STATE (laneNo l))) = 4 ∧ (s.dev.ln (laneNo l)).hbRun = some r ∧ (s.dev.now <
    (r + 100000 * s.dev.nat Obj.LANE_READMIT_MS) ∨ (s.dev.nat (Obj.LN_LAST_HB (laneNo l)) + 100000 * s.dev.nat Obj.LANE_SILENT_MS) ≤ s.dev.now)) ∧
  (∃ (s : State) (l : LaneId), s.dev.Talks ∧ (s.dev.nat (Obj.LN_STATE (laneNo l))) = 5) ∧
  (∃ (s : State) (l : LaneId), s.dev.Talks ∧ (s.dev.nat (Obj.LN_STATE (laneNo l))) ≠ 5) :=
  ⟨(let s : State := idle; let l : LaneId := .a; let node : Fin 128 := 1
    let s := setN Obj.TT_ENGINE_STATE 0 (setN (Obj.LN_STATE (laneNo l)) 2 (fRole 1 s))
    let s := setN (Obj.LN_TCMS_NODE 0) 1 (setN (Obj.LN_STATE 0) 3 s); ⟨s, l, node, by decide +kernel +zetaReduce⟩),
   (let s : State := idle; let l : LaneId := .a; let node : Fin 128 := 1
    let s := setN Obj.TT_ENGINE_STATE 0 (setN (Obj.LN_STATE (laneNo l)) 2 (fRole 1 s))
    let s := setN (Obj.LN_TCMS_NODE 0) 1 (setN (Obj.LN_STATE 0) 3 s)
    let s := setNow ((s.dev.lastBeat (laneNo l) + 100000 * s.dev.nat Obj.LANE_TIMEOUT_MS)) s; ⟨s, l, node, by decide +kernel +zetaReduce⟩),
   (let s : State := idle; let l : LaneId := .a; let node : Fin 128 := 1
    let s := setN Obj.TT_ENGINE_STATE 0 (setN (Obj.LN_STATE (laneNo l)) 2 (fRole 1 s))
    let s := setN (Obj.LN_TCMS_NODE 0) 1 (setN (Obj.LN_STATE 0) 4 s); ⟨s, l, node, by decide +kernel +zetaReduce⟩),
   (let s : State := idle; let l : LaneId := .a; let node : Fin 128 := 0
    let s := setN Obj.TT_ENGINE_STATE 0 (setN (Obj.LN_STATE (laneNo l)) 2 (fRole 1 s)); ⟨s, l, node, by decide +kernel +zetaReduce⟩),
   (let s : State := idle; let l : LaneId := .a; let s := setN Obj.TT_ENGINE_STATE 0 (setN (Obj.LN_STATE (laneNo l)) 2 (fRole 1 s))
    let s := setN (Obj.LN_STATE 0) 2 s; let s := setNow ((s.dev.lastBeat (laneNo l) + 100000 * s.dev.nat Obj.LANE_SILENT_MS)) s
    ⟨s, l, by decide +kernel +zetaReduce⟩),
   (let s : State := idle; let l : LaneId := .a; let s := setN Obj.TT_ENGINE_STATE 0 (setN (Obj.LN_STATE (laneNo l)) 2 (fRole 1 s))
    let s := setN (Obj.LN_STATE 0) 3 s; let s := setNow ((s.dev.lastBeat (laneNo l) + 100000 * s.dev.nat Obj.LANE_TIMEOUT_MS)) s
    ⟨s, l, by decide +kernel +zetaReduce⟩),
   (let s : State := idle; let l : LaneId := .a; ⟨s, l, by decide +kernel +zetaReduce⟩),
   (let s : State := idle; let l : LaneId := .a; ⟨s, l, by decide +kernel +zetaReduce⟩),
   (let s : State := idle; let l : LaneId := .a; let r : Nat := 0; let s := setLn (laneNo l) (fun y => { y with hbRun := some r }) s
    let s := setN (Obj.LN_STATE 0) 4 s; let s := setNow ((r + 100000 * s.dev.nat Obj.LANE_READMIT_MS)) s; let s := setN (Obj.LN_LAST_HB 0) s.dev.now s
    ⟨s, l, r, by decide +kernel +zetaReduce⟩),
   (let s : State := idle; let l : LaneId := .a; let r : Nat := 0; let s := setLn (laneNo l) (fun y => { y with hbRun := some r }) s
    let s := setN (Obj.LN_STATE 0) 4 s; ⟨s, l, r, by decide +kernel +zetaReduce⟩),
   (let s : State := idle; let l : LaneId := .a; let s := setN (Obj.LN_STATE 0) 5 s; ⟨s, l, by decide +kernel +zetaReduce⟩),
   (let s : State := idle; let l : LaneId := .a; let s := setN (Obj.LN_STATE 0) 2 s; ⟨s, l, by decide +kernel +zetaReduce⟩)⟩

theorem witness_TimeSyncNmt :
  (∃ (s : State) (l : LaneId), s.dev.Talks ∧ s.dev.laneOn (laneNo l) = true ∧ s.dev.laneAlive (laneNo l) = true ∧ s.dev.lanes.timeWait = []) ∧
  (∃ (s : State) (l : LaneId) (tr : Nat) (m : Nat) (tm : Nat) (st : Nat), s.dev.Talks ∧ s.dev.laneOn (laneNo l) = true ∧ s.dev.laneAlive (laneNo l) =
    true ∧ s.dev.lanes.timeWait = [(m, tm, st)] ∧ s.dev.now < st + 100000 * s.dev.nat Obj.VOTE_WINDOW_MS ∧ (m ≠ laneNo l ∧ s.dev.laneAlive m = true ∧
    (100 * ((tr : Int) - tm) - ((s.dev.now : Int) - st)).natAbs ≤ 100 * s.dev.nat Obj.TIME_TOL_US)) ∧
  (∃ (s : State) (l : LaneId) (tr : Nat) (m : Nat) (tm : Nat) (st : Nat), s.dev.Talks ∧ s.dev.laneOn (laneNo l) = true ∧ s.dev.laneAlive (laneNo l) =
    true ∧ s.dev.lanes.timeWait = [(m, tm, st)] ∧ s.dev.now < st + 100000 * s.dev.nat Obj.VOTE_WINDOW_MS ∧ ¬ (m ≠ laneNo l ∧ s.dev.laneAlive m = true
    ∧ (100 * ((tr : Int) - tm) - ((s.dev.now : Int) - st)).natAbs ≤ 100 * s.dev.nat Obj.TIME_TOL_US)) ∧
  (∃ (s : State) (l : LaneId), s.dev.Talks ∧ s.dev.laneOn (laneNo l) = true ∧ s.dev.laneAlive (laneNo l) = true ∧ s.dev.lanes.sync = none) ∧
  (∃ (s : State) (l : LaneId) (c : Nat) (m : Nat) (st : Nat), s.dev.Talks ∧ s.dev.laneOn (laneNo l) = true ∧ s.dev.laneAlive (laneNo l) = true ∧
    s.dev.lanes.sync = some (c, m, st) ∧ m ≠ laneNo l ∧ s.dev.now < st + 100000 * s.dev.nat Obj.VOTE_WINDOW_MS) ∧
  (∃ (s : State) (l : LaneId), s.dev.Talks ∧ s.dev.laneOn (laneNo l) = true ∧ s.dev.laneAlive (laneNo l) = false) ∧
  (∃ (s : State) (l : LaneId) (node : Fin 128) (c : Nat) (n : Nat) (i : Instr), (c, i, n) ∈ [(1, Instr.nmtStartRemoteNode l node, 5), (2,
    .nmtStopRemoteNode l node, 4), (0x80, .nmtEnterPreOperational l node, 0x7F), (0x81, .nmtResetNode l node, 0x7F), (0x82, .nmtResetCommunication l
    node, 0x7F)] ∧ s.dev.Talks ∧ s.dev.laneOn (laneNo l) = true ∧ s.dev.laneAlive (laneNo l) = true ∧ 2 ≤ s.dev.aliveCount ∧ (node.val = 0 ∨ node.val
    = s.dev.nodeId) ∧ (∀ x ∈ s.dev.lanes.wins, s.dev.now < x.opened + s.dev.voteW) ∧ s.dev.winOf 512 (256 * c + node) = none) ∧
  (∃ (s : State) (l : LaneId) (node : Fin 128) (c : Nat) (n : Nat) (i : Instr) (w : VoteWin) (m : LaneId), (c, i, n) ∈ [(1, Instr.nmtStartRemoteNode l
    node, 5), (2, .nmtStopRemoteNode l node, 4), (0x80, .nmtEnterPreOperational l node, 0x7F), (0x81, .nmtResetNode l node, 0x7F), (0x82,
    .nmtResetCommunication l node, 0x7F)] ∧ s.dev.Talks ∧ s.dev.laneOn (laneNo l) = true ∧ s.dev.laneAlive (laneNo l) = true ∧ 2 ≤ s.dev.aliveCount ∧
    (node.val = 0 ∨ node.val = s.dev.nodeId) ∧ (∀ x ∈ s.dev.lanes.wins, s.dev.now < x.opened + s.dev.voteW) ∧ s.dev.winOf 512 (256 * c + node) = some
    w ∧ w.body = none ∧ w.arrivals = [(laneNo m, leBytes 1 c ++ leBytes 1 node)] ∧ m ≠ l ∧ s.dev.laneAlive (laneNo m) = true) :=
  ⟨(let s : State := idle; let l : LaneId := .a; let s := setN Obj.TT_ENGINE_STATE 0 (setN (Obj.LN_STATE (laneNo l)) 2 (fRole 1 s))
    let s := up s fun d => { d with lanes.timeWait := [] }; ⟨s, l, by decide +kernel +zetaReduce⟩),
   (let s : State := idle; let l : LaneId := .a; let tr : Nat := 0; let m : Nat := 1; let tm : Nat := 0; let st : Nat := 0
    let s := setN Obj.TT_ENGINE_STATE 0 (setN (Obj.LN_STATE (laneNo l)) 2 (fRole 1 s))
    let s := up s fun d => { d with lanes.timeWait := [(m, tm, st)] }; let s := setN (Obj.LN_STATE 0) 2 (setN (Obj.LN_STATE 1) 2 s)
    ⟨s, l, tr, m, tm, st, by decide +kernel +zetaReduce⟩),
   (let s : State := idle; let l : LaneId := .a; let tr : Nat := 0; let m : Nat := 0; let tm : Nat := 0; let st : Nat := 0
    let s := setN Obj.TT_ENGINE_STATE 0 (setN (Obj.LN_STATE (laneNo l)) 2 (fRole 1 s))
    let s := up s fun d => { d with lanes.timeWait := [(m, tm, st)] }; let s := setN (Obj.LN_STATE 0) 2 (setN (Obj.LN_STATE 1) 2 s)
    ⟨s, l, tr, m, tm, st, by decide +kernel +zetaReduce⟩),
   (let s : State := idle; let l : LaneId := .a; let s := setN Obj.TT_ENGINE_STATE 0 (setN (Obj.LN_STATE (laneNo l)) 2 (fRole 1 s))
    let s := up s fun d => { d with lanes.sync := none }; let s := setN (Obj.LN_STATE 0) 2 (setN (Obj.LN_STATE 1) 2 s)
    let s := up s fun d => { d with lanes.sync := none }; ⟨s, l, by decide +kernel +zetaReduce⟩),
   (let s : State := idle; let l : LaneId := .a; let c : Nat := 0; let m : Nat := 1; let st : Nat := 0
    let s := setN Obj.TT_ENGINE_STATE 0 (setN (Obj.LN_STATE (laneNo l)) 2 (fRole 1 s))
    let s := up s fun d => { d with lanes.sync := some (c, m, st) }; let s := setN (Obj.LN_STATE 0) 2 (setN (Obj.LN_STATE 1) 2 s)
    ⟨s, l, c, m, st, by decide +kernel +zetaReduce⟩),
   (let s : State := idle; let l : LaneId := .a; let s := setN Obj.TT_ENGINE_STATE 0 (setN (Obj.LN_STATE (laneNo l)) 2 (fRole 1 s))
    let s := setN (Obj.LN_STATE 0) 4 s; ⟨s, l, by decide +kernel +zetaReduce⟩),
   (let s : State := idle; let l : LaneId := .a; let node : Fin 128 := 0; let c : Nat := 0x81; let n : Nat := 0x7F
    let i : Instr := .nmtResetNode .a 0; let s := setN Obj.TT_ENGINE_STATE 0 (setN (Obj.LN_STATE (laneNo l)) 2 (fRole 1 s))
    let s := setN (Obj.LN_STATE 0) 2 (setN (Obj.LN_STATE 1) 2 s); ⟨s, l, node, c, n, i, by decide +kernel +zetaReduce⟩),
   (let s : State := idle; let l : LaneId := .a; let node : Fin 128 := 0; let c : Nat := 0x81; let n : Nat := 0x7F
    let i : Instr := .nmtResetNode .a 0; let w : VoteWin := ⟨512, 256 * 0x81, 0, [(1, leBytes 1 0x81 ++ leBytes 1 0)], none, 0⟩; let m : LaneId := .b
    let s := setN Obj.TT_ENGINE_STATE 0 (setN (Obj.LN_STATE (laneNo l)) 2 (fRole 1 s)); let s := setN (Obj.LN_STATE 0) 2 (setN (Obj.LN_STATE 1) 2 s)
    let s := up s fun d => { d with lanes.wins := [w] }; ⟨s, l, node, c, n, i, w, m, by decide +kernel +zetaReduce⟩)⟩

theorem witness_TransfersAnswered :
  (∃ (s : State) (l : LaneId) (node : Fin 128) (p : Nat), s.dev.Talks ∧ s.dev.laneOn (laneNo l) = true ∧ s.dev.lanes.nmt ≠ 4 ∧ s.dev.stokerRuns = true ∧
    node.val ≠ s.dev.nodeId ∧ s.dev.proxied node = some p ∧ s.dev.usdoBusy (laneNo l) = false) ∧
  (∃ (s : State) (l : LaneId) (node : Fin 128), s.dev.Talks ∧ s.dev.laneOn (laneNo l) = true ∧ s.dev.lanes.nmt ≠ 4 ∧ s.dev.stokerRuns = true ∧ (node.val
    = s.dev.nodeId ∨ (s.dev.proxied node).isSome) ∧ s.dev.usdoBusy (laneNo l) = true) ∧
  (∃ (s : State) (l : LaneId) (u : Usdo), s.dev.Talks ∧ (s.dev.ln (laneNo l)).usdo = some u ∧ u.last + 100000000 ≤ s.dev.now ∧ s.dev.laneOn (laneNo l) =
    true) ∧
  (∃ (s : State) (l : LaneId) (u : Usdo), s.dev.Talks ∧ (s.dev.ln (laneNo l)).usdo = some u ∧ s.dev.now < u.last + 100000000) ∧
  (∃ (s : State) (l : LaneId) (node : Fin 128) (key : Fin 16777216), s.dev.Talks ∧ (s.dev.op ≠ .haltSafe ∨ s.dev.nat Obj.FW_PROBATION = 0) ∧
    s.dev.laneOn (laneNo l) = true ∧ s.dev.lanes.nmt ≠ 4 ∧ node.val = s.dev.nodeId ∧ s.dev.stokerRuns = true ∧ s.dev.usdoBusy (laneNo l) = false ∧ (∀
    x ∈ s.dev.lanes.wins, s.dev.now < x.opened + s.dev.voteW) ∧ key.val ≠ Obj.VOTED_WRITE) ∧
  (∃ (s : State) (b : List Byte) (key : Fin 16777216), s.dev.power.inReset = false ∧ s.dev.power.banked = false ∧ (s.dev.op ≠ .haltSafe ∨ s.dev.nat
    Obj.FW_PROBATION = 0) ∧ s.dev.portOn = true ∧ s.dev.portShed = false ∧ (s.dev.lc = .provision ∨ s.dev.lc = .factory) ∧ 1 ≤ b.length ∧ b.length ≤
    1024 ∧ s.dev.staticCode key b ≠ 0) :=
  ⟨(let s : State := idle; let l : LaneId := .a; let node : Fin 128 := 11; let p : Nat := 1
    let s := setN Obj.TT_ENGINE_STATE 0 (setN (Obj.LN_STATE (laneNo l)) 2 (fRole 1 s))
    let s := setN Obj.RING_SIZE 4 (setN Obj.NODE_BASE 10 (setN Obj.RING_ADMITTED 3 s)); ⟨s, l, node, p, by decide +kernel +zetaReduce⟩),
   (let s : State := idle; let l : LaneId := .a; let node : Fin 128 := 13
    let s := setN Obj.TT_ENGINE_STATE 0 (setN (Obj.LN_STATE (laneNo l)) 2 (fRole 1 s))
    let s := setN Obj.NODE_BASE 10 (up s fun d => { d with ins := { d.ins with straps := 3 } })
    let s := setLn 0 (fun y => { y with usdo := some ⟨0, 0, 0, []⟩ }) s; ⟨s, l, node, by decide +kernel +zetaReduce⟩),
   (let s : State := idle; let l : LaneId := .a; let u : Usdo := ⟨0, 0, 0, []⟩; let s := setLn (laneNo l) (fun y => { y with usdo := some u }) s
    let s := setN Obj.TT_ENGINE_STATE 0 (setN (Obj.LN_STATE (laneNo l)) 2 (fRole 1 s)); let s := setNow (u.last + 100000000) s
    ⟨s, l, u, by decide +kernel +zetaReduce⟩),
   (let s : State := idle; let l : LaneId := .a; let u : Usdo := ⟨0, 0, 0, []⟩; let s := setLn (laneNo l) (fun y => { y with usdo := some u }) s
    ⟨s, l, u, by decide +kernel +zetaReduce⟩),
   (let s : State := idle; let l : LaneId := .a; let node : Fin 128 := 13; let key : Fin 16777216 := 0
    let s := setN Obj.TT_ENGINE_STATE 0 (setN (Obj.LN_STATE (laneNo l)) 2 (fRole 1 s))
    let s := setN Obj.NODE_BASE 10 (up s fun d => { d with ins := { d.ins with straps := 3 } }); ⟨s, l, node, key, by decide +kernel +zetaReduce⟩),
   (let s : State := idle; let b : List Byte := [1]; let key : Fin 16777216 := 0; let s := up s fun d => { d with power.inReset := false }
    let s := up s fun d => { d with power.banked := false }; let s := fLc .provision s; ⟨s, b, key, by decide +kernel +zetaReduce⟩)⟩

theorem witness_VoteWindowsClose :
  (∃ (s : State) (c : Fin 513) (q : Fin 65536) (w : VoteWin), s.dev.Talks ∧ s.dev.winOf c q = some w ∧ w.opened + s.dev.voteW ≤ s.dev.now ∧
    w.body.isSome) ∧
  (∃ (s : State) (c : Fin 513) (q : Fin 65536) (w : VoteWin) (l : LaneId) (b : List Byte), s.dev.Talks ∧ s.dev.winOf c q = some w ∧ w.opened +
    s.dev.voteW ≤ s.dev.now ∧ w.body = none ∧ w.arrivals = [(laneNo l, b)] ∧ s.dev.nat (Obj.LN_UNMATCHED (laneNo l)) + 1 < counterMod
    (Obj.LN_UNMATCHED (laneNo l))) ∧
  (∃ (s : State) (c : Fin 513) (q : Fin 65536) (w : VoteWin) (l : LaneId) (m : LaneId) (b : List Byte) (e : List Byte) (k : Nat), s.dev.Talks ∧
    s.dev.winOf c q = some w ∧ w.opened + s.dev.voteW ≤ s.dev.now ∧ w.body = none ∧ w.arrivals = [(laneNo l, b), (laneNo m, e)] ∧ l ≠ m ∧ (∀ k ∈
    [laneNo l, laneNo m], s.dev.nat (Obj.LN_DISSENT k) + 1 < counterMod (Obj.LN_DISSENT k)) ∧ k ∈ [laneNo l, laneNo m]) ∧
  (∃ (s : State) (c : Fin 513) (q : Fin 65536) (w : VoteWin), s.dev.Talks ∧ s.dev.winOf c q = some w ∧ s.dev.now < w.opened + s.dev.voteW) ∧
  (∃ (s : State) (c : Fin 513) (q : Fin 65536), s.dev.Talks ∧ s.dev.winOf c q = none) ∧
  (∃ (s : State) (src : Fin 65536) (a : Nat), s.dev.Talks ∧ look s.dev.lanes.voteDisAt src = some a ∧ a + 100000000 ≤ s.dev.now) ∧
  (∃ (s : State) (src : Fin 65536) (a : Nat), s.dev.Talks ∧ look s.dev.lanes.voteDisAt src = some a ∧ s.dev.now < a + 100000000) ∧
  (∃ (s : State) (k : Fin 512), s.dev.Talks ∧ (s.dev.cl k).claimAt + 100000000 ≤ s.dev.now) ∧
  (∃ (s : State) (k : Fin 512), s.dev.Talks ∧ s.dev.now < (s.dev.cl k).claimAt + 100000000) :=
  ⟨(let s : State := idle; let c : Fin 513 := 0; let q : Fin 65536 := 0; let w : VoteWin := ⟨0, 0, 0, [], some [1], 0⟩
    let s := up s fun d => { d with lanes.wins := [w] }; let s := setNow (w.opened + s.dev.voteW) s; ⟨s, c, q, w, by decide +kernel +zetaReduce⟩),
   (let s : State := idle; let c : Fin 513 := 0; let q : Fin 65536 := 0; let w : VoteWin := ⟨0, 0, 0, [(0, [])], none, 0⟩; let l : LaneId := .a
    let b : List Byte := []; let s := up s fun d => { d with lanes.wins := [w] }; let s := setNow (w.opened + s.dev.voteW) s
    ⟨s, c, q, w, l, b, by decide +kernel +zetaReduce⟩),
   (let s : State := idle; let c : Fin 513 := 0; let q : Fin 65536 := 0; let w : VoteWin := ⟨0, 0, 0, [(0, []), (1, [])], none, 0⟩
    let l : LaneId := .a; let m : LaneId := .b; let b : List Byte := []; let e : List Byte := []; let k : Nat := 0
    let s := up s fun d => { d with lanes.wins := [w] }; let s := setNow (w.opened + s.dev.voteW) s
    ⟨s, c, q, w, l, m, b, e, k, by decide +kernel +zetaReduce⟩),
   (let s : State := idle; let c : Fin 513 := 0; let q : Fin 65536 := 0; let w : VoteWin := ⟨0, 0, 0, [], none, 0⟩
    let s := up s fun d => { d with lanes.wins := [w] }; ⟨s, c, q, w, by decide +kernel +zetaReduce⟩),
   (let s : State := idle; let c : Fin 513 := 0; let q : Fin 65536 := 0; ⟨s, c, q, by decide +kernel +zetaReduce⟩),
   (let s : State := idle; let src : Fin 65536 := 0; let a : Nat := 0; let s := up s fun d => { d with lanes.voteDisAt := [(0, a)] }
    let s := setNow (a + 100000000) s; ⟨s, src, a, by decide +kernel +zetaReduce⟩),
   (let s : State := idle; let src : Fin 65536 := 0; let a : Nat := 0; let s := up s fun d => { d with lanes.voteDisAt := [(0, a)] }
    ⟨s, src, a, by decide +kernel +zetaReduce⟩),
   (let s : State := idle; let k : Fin 512 := 0; let s := setNow ((s.dev.cl k).claimAt + 100000000) s; ⟨s, k, by decide +kernel +zetaReduce⟩),
   (let s : State := idle; let k : Fin 512 := 0; ⟨s, k, by decide +kernel +zetaReduce⟩)⟩

theorem witness_LaneSendsAndReports :
  (∃ (s : State) (l : LaneId) (e : Nat × Report) (r : List (Nat × Report)), s.dev.Talks ∧ s.dev.emcyFree (laneNo l) = true ∧ lookD [] s.dev.rep.emcy
    (laneNo l) = e :: r ∧ e.1 = 0) ∧
  (∃ (s : State) (l : LaneId), s.dev.Talks ∧ (s.dev.emcyFree (laneNo l) = false ∨ lookD [] s.dev.rep.emcy (laneNo l) = [])) ∧
  (∃ (s : State) (l : LaneId), s.dev.Talks ∧ s.dev.laneOn (laneNo l) = true ∧ (s.dev.ln (laneNo l)).lastHbSent + 100000 * s.dev.nat Obj.PROD_HB_TIME ≤
    s.dev.now) ∧
  (∃ (s : State) (l : LaneId), s.dev.Talks ∧ (s.dev.laneOn (laneNo l) = false ∨ s.dev.now < (s.dev.ln (laneNo l)).lastHbSent + 100000 * s.dev.nat
    Obj.PROD_HB_TIME)) ∧
  (∃ (s : State) (p : Fin 16) (i : Instr), s.dev.Talks ∧ (i = .tpdoEventTimer p ∨ (i = .statusPdoSend ∧ p.val = 15)) ∧ (s.dev.tpdoOk p = true ∧
    s.dev.tpdoFree p = true ∧ (s.dev.tpdoEvent p = true ∨ (s.dev.nat (Obj.TPDO_TYPE p) = 0xFE ∧ s.dev.tpdoNew p = true)))) ∧
  (∃ (s : State) (p : Fin 16) (i : Instr), s.dev.Talks ∧ (i = .tpdoEventTimer p ∨ (i = .statusPdoSend ∧ p.val = 15)) ∧ (¬ (s.dev.tpdoOk p = true ∧
    s.dev.tpdoFree p = true ∧ (s.dev.tpdoEvent p = true ∨ (s.dev.nat (Obj.TPDO_TYPE p) = 0xFE ∧ s.dev.tpdoNew p = true))))) ∧
  (∃ (s : State) (src : Fin 65536) (e : Nat), s.dev.Talks ∧ (s.dev.srcOf src).holdEnd = some e ∧ s.dev.now < e) ∧
  (∃ (s : State) (src : Fin 65536) (e : Nat), s.dev.Talks ∧ (s.dev.srcOf src).holdEnd = some e ∧ e ≤ s.dev.now ∧ s.dev.rep.win = [] ∧ (∀ c, c ∈
    s.dev.codesOf src ↔ c ∈ (s.dev.srcOf src).reported)) ∧
  (∃ (s : State) (src : Fin 65536) (e : Nat) (c : Nat), s.dev.Talks ∧ (s.dev.srcOf src).holdEnd = some e ∧ e ≤ s.dev.now ∧ s.dev.rep.win = [] ∧ c ∈
    s.dev.codesOf src ∧ c ∉ (s.dev.srcOf src).reported) ∧
  (∃ (s : State) (code : Fin 65536), s.dev.Talks ∧ (lookD {} s.dev.rep.win code).win ≠ s.dev.now / 1000000) ∧
  (∃ (s : State) (code : Fin 65536), s.dev.Talks ∧ (lookD {} s.dev.rep.win code).win = s.dev.now / 1000000) :=
  ⟨(let s : State := idle; let l : LaneId := .a; let e : Nat × Report := (0, ⟨0, 0, 0, 0, 0, []⟩); let r : List (Nat × Report) := []
    let s := setN (Obj.LN_STATE 0) 2 (setN Obj.TT_ENGINE_STATE 0 (fRole 1 s))
    let s := up s fun d => { d with rep := { d.rep with emcy := [(0, e :: r)] } }; ⟨s, l, e, r, by decide +kernel +zetaReduce⟩),
   (let s : State := idle; let l : LaneId := .a; ⟨s, l, by decide +kernel +zetaReduce⟩),
   (let s : State := idle; let l : LaneId := .a; let s := setN Obj.TT_ENGINE_STATE 0 (setN (Obj.LN_STATE (laneNo l)) 2 (fRole 1 s))
    let s := setNow ((s.dev.ln (laneNo l)).lastHbSent + 100000 * s.dev.nat Obj.PROD_HB_TIME) s; ⟨s, l, by decide +kernel +zetaReduce⟩),
   (let s : State := idle; let l : LaneId := .a; ⟨s, l, by decide +kernel +zetaReduce⟩),
   (let s : State := idle; let p : Fin 16 := 0; let i : Instr := .tpdoEventTimer 0
    let s := setN (Obj.TPDO_COB_ID p) 0x181 (setN (Obj.TPDO_EVENT_MS p) 10 s); ⟨s, p, i, by decide +kernel +zetaReduce⟩),
   (let s : State := idle; let p : Fin 16 := 15; let i : Instr := .statusPdoSend; let s := setN (Obj.TPDO_COB_ID p) 0x80000000 s
    ⟨s, p, i, by decide +kernel +zetaReduce⟩),
   (let s : State := idle; let src : Fin 65536 := 0; let e : Nat := 1; let s := setSrc src (fun y => { y with holdEnd := some e }) s
    ⟨s, src, e, by decide +kernel +zetaReduce⟩),
   ⟨setSrc 0 (fun y => { y with holdEnd := some 0 }) idle, 0, 0, by decide +kernel, by decide +kernel, by decide +kernel, by decide +kernel, fun _ =>
     Iff.rfl⟩,
   (let s : State := idle; let src : Fin 65536 := 0; let e : Nat := 0; let c : Nat := 5; let s := setSrc src (fun y => { y with holdEnd := some e }) s
    let s := up s fun d => { d with rep.win := [] }; let s := up s fun d => { d with rep := { d.rep with conds := [⟨c, src, 3, false, [], 5⟩] } }
    let s := setNow (e) s; ⟨s, src, e, c, by decide +kernel +zetaReduce⟩),
   (let s : State := idle; let code : Fin 65536 := 0; let s := setNow 1000000 s; ⟨s, code, by decide +kernel +zetaReduce⟩),
   (let s : State := idle; let code : Fin 65536 := 0; ⟨s, code, by decide +kernel +zetaReduce⟩)⟩

theorem witness_LaneFrame :
  ∃ (s : State) (t : State) (l : LaneId) (node : Fin 128) (nmt : Byte) (tr : Nat) (p : Fin 16) (src : Fin 65536) (k : Fin 512) (i : Instr), i ∈
    [Instr.laneHeartbeatRx l node nmt, .laneTimeRx l tr, .laneSilentTimeout l, .laneTimeout l, .laneReadmit l, .laneBusOff l, .laneBusOffRecovered l,
    .emcyWindow l, .heartbeatPeriod l, .tpdoEventTimer p, .statusPdoSend, .voteDisagreeClear src, .claimConflictClear k, .holdOffExpiry src,
    .coalescingWindowClose src, .usdoSegmentTimeout l] ∧ exec i s = .next t ∧ s.dev.darkened = false :=
  ⟨idle, _, .c, 127, 5, 0, 15, 65535, 511, .laneHeartbeatRx .c 127 5, by decide, rfl, by decide +kernel⟩

theorem witness_NamedWritesAreWrites :
  (∃ (s : State) (ch : Fin 96) (key : Fin 16777216), key.val = Obj.DIM_LEVEL ch) ∧
  (∃ (s : State) (key : Fin 16777216), key.val = Obj.FENCE_ISSUE) ∧
  (∃ (s : State) (o : Origin) (v : Nat) (i : Instr) (key : Fin 16777216), (i, v, key.val) ∈ [(Instr.cfgStageOpen o, 1, Obj.CFG_STAGE_CONTROL),
    (.cfgStageComplete o, 2, Obj.CFG_STAGE_CONTROL), (.cfgStageDiscard o, 3, Obj.CFG_STAGE_CONTROL), (.fwUpdOpen o, 1, Obj.FW_UPD_CONTROL),
    (.fwUpdVerify o, 2, Obj.FW_UPD_CONTROL), (.fwUpdActivate o, 3, Obj.FW_UPD_CONTROL), (.fwUpdAbandon o, 4, Obj.FW_UPD_CONTROL), (.replayEnter o, 1,
    Obj.REPLAY_CONTROL), (.replayStart o, 2, Obj.REPLAY_CONTROL), (.replayDiscard o, 3, Obj.REPLAY_CONTROL)]) :=
  ⟨⟨idle, 95, Fin.ofNat _ (Obj.DIM_LEVEL 95), by decide⟩,
   ⟨idle, Fin.ofNat _ Obj.FENCE_ISSUE, by decide⟩,
   ⟨idle, .svc 0 0 0 [], 2, .replayStart (.svc 0 0 0 []), Fin.ofNat _ Obj.REPLAY_CONTROL, by decide⟩⟩

theorem witness_GrantedWritesWait : ∀ x ∈ [(Instr.dimLevel (.lane .b 10 3 7) 0 65535, Obj.DIM_LEVEL 0, leBytes 2 65535),
      (.peChBind (.lane .b 10 3 7) 0 0, Obj.PE_CH_BIND 0, leBytes 1 0), (.supClear (.lane .b 10 3 7) 0 1, Obj.SUP_CLEAR 0, leBytes 2 1),
      (.gwData (.lane .b 10 3 7) 0 [1], Obj.GW_DATA 0, [1]), (.mxRow (.lane .b 10 3 7) 0 (List.replicate 32 0), Obj.MX_ROW 0, List.replicate 32 0),
      (.clBudgetNowMw (.lane .b 10 3 7) 3 5, Obj.CL_BUDGET_NOW_MW 3, leBytes 4 5),
      (.clRetain (.lane .b 10 3 7) 3 [1], Obj.CL_RETAIN 3, [1]), (.calNow (.lane .b 10 3 7) 5, Obj.CAL_NOW, leBytes 4 5),
      (.errFieldCount (.lane .b 10 3 7) 0, Obj.ERR_FIELD_COUNT, leBytes 1 0)],
    (setB (Obj.CL_CLAIM 3) (List.replicate 192 255) (setN (Obj.CL_RET_SIZE 3) 10 (setN (Obj.CL_STAGE_RIGHT 3) 1 (heard x.2.1 x.2.2 idle)))).seen.accepts (.lane .b 10 3 7)
      x.2.1 x.2.2 = true := by decide +kernel

theorem witness_EffectWritesTaken :
  (∃ (s : State) (o : Origin) (e : Fin 16), s.seen.accepts o (Obj.PE_CONTROL e) [1] = true) ∧
  (∃ (s : State) (o : Origin) (e : Fin 16), s.seen.accepts o (Obj.PE_CONTROL e) [2] = true) ∧
  (∃ (s : State) (o : Origin) (e : Fin 16) (seg : Fin 256), s.seen.accepts o (Obj.PE_JUMP_SEG e) (leBytes 1 seg) = true) ∧
  (∃ (s : State) (o : Origin) (k : Fin 8), s.seen.accepts o (Obj.GW_SWAP k) [1] = true) ∧
  (∃ (s : State) (o : Origin), s.seen.accepts o Obj.MX_SWAP [1] = true) ∧
  (∃ (s : State) (o : Origin) (ch : Fin 96), s.seen.accepts o (Obj.LIFE_RESET ch) [1] = true ∧ ((s.seen.execAt o (Obj.LIFE_RESET ch) [1])).nat
    (Obj.LIFE_LAMP_EPOCH ch) + 1 < counterMod (Obj.LIFE_LAMP_EPOCH ch)) ∧
  (∃ (s : State) (o : Origin) (ch : Fin 96) (k : Nat), s.seen.accepts o (Obj.LIFE_RESET ch) [1] = true ∧ k ∈ [Obj.LIFE_EQ_MS ch, Obj.LIFE_CAL_PM ch,
    Obj.LIFE_LAMP_EPOCH ch, Obj.LIFE_INSTALL_DAY ch]) :=
  ⟨(let s : State := idle; let o : Origin := .svc 4 0 6 []; let e : Fin 16 := 0; ⟨s, o, e, by decide +kernel +zetaReduce⟩),
   (let s : State := idle; let o : Origin := .svc 4 0 6 []; let e : Fin 16 := 0; ⟨s, o, e, by decide +kernel +zetaReduce⟩),
   (let s : State := idle; let o : Origin := .svc 4 0 6 []; let e : Fin 16 := 0; let seg : Fin 256 := 0
    let s := setN (Obj.PE_OWNER e) 3 (setN (Obj.PE_STATE e) 1 s); ⟨s, o, e, seg, by decide +kernel +zetaReduce⟩),
   (let s : State := idle; let o : Origin := .svc 4 0 6 []; let k : Fin 8 := 0; ⟨s, o, k, by decide +kernel +zetaReduce⟩),
   (let s : State := idle; let o : Origin := .svc 4 0 6 []; ⟨s, o, by decide +kernel +zetaReduce⟩),
   (let s : State := idle; let o : Origin := .svc 4 0 6 []; let ch : Fin 96 := 0; ⟨s, o, ch, by decide +kernel +zetaReduce⟩),
   (let s : State := idle; let o : Origin := .svc 4 0 6 []; let ch : Fin 96 := 0; let k : Nat := Obj.LIFE_EQ_MS 0
    ⟨s, o, ch, k, by decide +kernel +zetaReduce⟩)⟩

theorem witness_FencesHoldAndRelease :
  (∃ (s : State) (o : Origin) (g : Fin 256) (k : Fin 16777216), s.dev.lanes.held = [] ∧ s.seen.accepts o Obj.FENCE_ISSUE (leBytes 4 (k + 2 ^ 24 * g)) =
    true) ∧
  (∃ (s : State) (f : Fin 32), s.dev.Talks ∧ s.dev.op ≠ .haltSafe ∧ s.dev.lanes.held = [] ∧ (s.dev.fg f).issued ≠ [] ∧ (s.dev.nat (Obj.FG_OPENED f) +
    100000 * s.dev.nat (Obj.FG_TIMEOUT_MS f)) ≤ s.dev.now) ∧
  (∃ (s : State) (f : Fin 32), s.dev.Talks ∧ s.dev.op ≠ .haltSafe ∧ ((s.dev.fg f).issued = [] ∨ s.dev.now < (s.dev.nat (Obj.FG_OPENED f) + 100000 *
    s.dev.nat (Obj.FG_TIMEOUT_MS f)))) ∧
  (∃ (s : State) (o : Origin) (ch : Fin 96) (level : Fin 65536), s.seen.hears o (Obj.DIM_LEVEL ch) (leBytes 2 level) = true ∧ (s.seen.execAt o
    (Obj.DIM_LEVEL ch) (leBytes 2 level)).commandCode (writerOf o) (s.seen.execAt o (Obj.DIM_LEVEL ch) (leBytes 2 level)).ownPos [((Obj.DIM_LEVEL ch),
    writeVal (Obj.DIM_LEVEL ch) (leBytes 2 level))] = 0 ∧ (s.seen.execAt o (Obj.DIM_LEVEL ch) (leBytes 2 level)).isHeld (writerOf o) [((Obj.DIM_LEVEL
    ch), writeVal (Obj.DIM_LEVEL ch) (leBytes 2 level))] = true) ∧
  (∃ (s : State) (o : Origin) (c : Fin 8) (cycle : Fin 4294967296) (a : Nat), s.dev.lanes.held = [] ∧ s.seen.accepts o (Obj.TK_FENCE c) (leBytes 4
    cycle) = true ∧ look ((s.seen.execAt o (Obj.TK_FENCE c) (leBytes 4 cycle))).lanes.taskAt c = some a ∧ ((s.seen.execAt o (Obj.TK_FENCE c) (leBytes
    4 cycle))).nat (Obj.TK_MISSED c) + 1 < counterMod (Obj.TK_MISSED c)) :=
  ⟨(let s : State := idle; let o : Origin := .lane .b 10 3 7; let g : Fin 256 := 0; let k : Fin 16777216 := 1
    let s := up s fun d => { d with lanes.held := [] }; let s := setN (Obj.CL_FENCES 3) 1 (heard Obj.FENCE_ISSUE (leBytes 4 (k + 2 ^ 24 * g)) s)
    ⟨s, o, g, k, by decide +kernel +zetaReduce⟩),
   (let s : State := idle; let f : Fin 32 := 0; let s := up s fun d => { d with lanes.held := [] }
    let s := setFg f (fun y => { y with issued := [3] }) s
    let s := setNow ((s.dev.nat (Obj.FG_OPENED f) + 100000 * s.dev.nat (Obj.FG_TIMEOUT_MS f))) s; ⟨s, f, by decide +kernel +zetaReduce⟩),
   (let s : State := idle; let f : Fin 32 := 0; let s := setFg f (fun y => { y with issued := [] }) s; ⟨s, f, by decide +kernel +zetaReduce⟩),
   (let s : State := idle; let o : Origin := .lane .b 10 3 7; let ch : Fin 96 := 0; let level : Fin 65536 := 0
    let s := setB (Obj.CL_CLAIM 3) [255] (heard (Obj.DIM_LEVEL 0) (leBytes 2 0) s); let s := setCl 3 (fun y => { y with pendingFences := [2] }) s
    ⟨s, o, ch, level, by decide +kernel +zetaReduce⟩),
   (let s : State := idle; let o : Origin := .lane .b 10 3 7; let c : Fin 8 := 0; let cycle : Fin 4294967296 := 1; let a : Nat := 5
    let s := up s fun d => { d with lanes.held := [] }
    let s := up (setN (Obj.TK_CLIENT c) 3 (heard (Obj.TK_FENCE c) (leBytes 4 cycle) s)) fun d => { d with lanes.taskAt := [(0, a)] }
    ⟨s, o, c, cycle, a, by decide +kernel +zetaReduce⟩)⟩

theorem witness_StagingStatesAdvance :
  (∃ (s : State) (o : Origin), s.seen.accepts o Obj.CFG_STAGE_CONTROL [1] = true) ∧
  (∃ (s : State) (o : Origin), s.seen.accepts o Obj.CFG_STAGE_CONTROL [2] = true) ∧
  (∃ (s : State) (o : Origin), s.seen.accepts o Obj.CFG_STAGE_CONTROL [3] = true ∧ ((s.seen.execAt o Obj.CFG_STAGE_CONTROL [3])).stageSt ≠ 0) ∧
  (∃ (s : State) (o : Origin) (key : Fin 16777216) (data : List Byte), Target.of key = .staged key ∧ s.seen.accepts o key data = true) ∧
  (∃ (s : State), s.dev.alive = true ∧ s.dev.stageSt = 1 ∧ s.dev.power.banked = false) ∧
  (∃ (s : State), s.dev.alive = true ∧ (s.dev.stageSt ≠ 1 ∨ s.dev.power.banked = true)) ∧
  (∃ (s : State) (f : Nat × Nat), s.dev.alive = true ∧ s.dev.stageSt = 3 ∧ s.dev.kindledPast = true ∧ s.seen.stagedDev.stageFail = some f) ∧
  (∃ (s : State), s.dev.alive = true ∧ s.dev.stageSt = 3 ∧ s.dev.kindledPast = true ∧ s.seen.stagedDev.stageFail = none) ∧
  (∃ (s : State), s.dev.alive = true ∧ (s.dev.stageSt ≠ 3 ∨ s.dev.kindledPast = false)) :=
  ⟨(let s : State := idle; let o : Origin := .svc 4 0 6 []; ⟨s, o, by decide +kernel +zetaReduce⟩),
   (let s : State := idle; let o : Origin := .svc 4 0 6 []; let s := setN Obj.CFG_STAGE_STATE 2 s; ⟨s, o, by decide +kernel +zetaReduce⟩),
   (let s : State := idle; let o : Origin := .svc 4 0 6 []; let s := setN Obj.CFG_STAGE_STATE 2 s; ⟨s, o, by decide +kernel +zetaReduce⟩),
   (let s : State := idle; let o : Origin := .svc 4 0 6 []; let key : Fin 16777216 := Fin.ofNat _ (Obj.PF_CLASS 0)
    let data : List Byte := idle.dev.read (Obj.PF_CLASS 0); let s := setN Obj.CFG_STAGE_STATE 4 s; ⟨s, o, key, data, by decide +kernel +zetaReduce⟩),
   (let s : State := idle; let s := up s fun d => { d with power.banked := false }; let s := setN Obj.CFG_STAGE_STATE 1 s
    ⟨s, by decide +kernel +zetaReduce⟩),
   (let s : State := idle; ⟨s, by decide +kernel +zetaReduce⟩),
   (let s : State := idle; let f : Nat × Nat := (0, 0)
    let s := setN (Obj.CH_MODE 0) 1 (up (setN Obj.CFG_STAGE_STATE 3 s) fun d => { d with staged := [(Obj.CH_MODE 0, .num 5)] })
    let f := (s.seen.stagedDev.stageFail).getD (0, 0); ⟨s, f, by decide +kernel +zetaReduce⟩),
   (let s : State := idle; let s := setN Obj.CFG_STAGE_STATE 3 s; ⟨s, by decide +kernel +zetaReduce⟩),
   (let s : State := idle; ⟨s, by decide +kernel +zetaReduce⟩)⟩

theorem witness_ActivationSwitches :
  (∃ (s : State) (o : Origin) (data : List Byte), s.seen.accepts o Obj.CFG_ACTIVATE data = true) ∧
  (∃ (s : State) (w : Switch), s.dev.alive = true ∧ (s.dev.op = .kindled ∨ s.dev.op = .operating) ∧ s.dev.cfg.switch = some w ∧ w.started = false ∧
    w.instant ≤ s.dev.ringTime) ∧
  (∃ (s : State) (w : Switch), s.dev.alive = true ∧ (s.dev.op = .kindled ∨ s.dev.op = .operating) ∧ s.dev.cfg.switch = some w ∧ (w.started = true ∨
    s.dev.ringTime < w.instant)) ∧
  (∃ (s : State) (o : Origin) (epoch : Fin 4294967296), s.seen.accepts o Obj.CFG_CONFIRM (leBytes 4 epoch) = true ∧ ((s.seen.execAt o Obj.CFG_CONFIRM
    (leBytes 4 epoch))).stageSt = 7) :=
  ⟨(let s : State := idle; let o : Origin := .svc 4 0 6 []; let data : List Byte := []
    let s := up (setN Obj.CFG_STAGE_STATE 4 s) fun d => { d with ring := { d.ring with trainMap := some (5, 3) } }
    let data := leBytes 4 7 ++ leBytes 4 0 ++ leBytes 8 (s.dev.now + 20000000) ++ s.dev.bytesOf Obj.CFG_STAGED_DIGEST
    ⟨s, o, data, by decide +kernel +zetaReduce⟩),
   (let s : State := idle; let w : Switch := ⟨1, [], 0, false, [], false⟩; let s := fOp .kindled s
    let s := up s fun d => { d with cfg.switch := some w }; let s := up s fun d => { d with cfg.switch := some w }
    ⟨s, w, by decide +kernel +zetaReduce⟩),
   (let s : State := idle; let w : Switch := ⟨1, [], 10000000000, false, [], false⟩; let s := fOp .kindled s
    let s := up s fun d => { d with cfg.switch := some w }; let s := up s fun d => { d with cfg.switch := some w }
    ⟨s, w, by decide +kernel +zetaReduce⟩),
   (let s : State := idle; let o : Origin := .svc 4 0 6 []; let epoch : Fin 4294967296 := 0
    let epoch : Fin 4294967296 := Fin.ofNat _ (s.dev.nat Obj.CFG_ACTIVE_EPOCH); let s := setN Obj.CFG_STAGE_STATE 7 s
    ⟨s, o, epoch, by decide +kernel +zetaReduce⟩)⟩

theorem witness_LifeCycleTransitions :
  (∃ (s : State) (o : Origin) (serial : Fin 4294967296) (i : Instr) (target : Nat) (slot : Nat), (i, target) ∈ [(Instr.lcRequestProvision o serial, 1),
    (.lcRequestService o serial, 2), (.lcRequestRetired o serial, 5)] ∧ s.seen.accepts o Obj.LC_REQUEST (lcBytes target serial) = true ∧
    ((s.seen.execAt o Obj.LC_REQUEST (lcBytes target serial))).freeSlot = some slot ∧ (((s.seen.execAt o Obj.LC_REQUEST (lcBytes target
    serial))).bytesOf Obj.LC_ROWS).length = 128) ∧
  (∃ (s : State) (o : Origin), s.seen.accepts o Obj.CICADA_ENTER [1] = true) ∧
  (∃ (s : State) (o : Origin), s.seen.accepts o Obj.LC_MAINT_CONTROL [1] = true) ∧
  (∃ (s : State) (o : Origin), s.seen.accepts o Obj.LC_MAINT_CONTROL [0] = true) ∧
  (∃ (s : State), s.dev.power.inReset = false ∧ s.dev.power.banked = false ∧ (s.dev.lc = .maintenance ∧ s.dev.admin.sessionOpen = false ∧ 6000000000 *
    s.dev.nat Obj.LC_MAINT_LIMIT_MIN ≤ s.dev.admin.maintRun)) ∧
  (∃ (s : State), s.dev.power.inReset = false ∧ s.dev.power.banked = false ∧ ¬ (s.dev.lc = .maintenance ∧ s.dev.admin.sessionOpen = false ∧ 6000000000 *
    s.dev.nat Obj.LC_MAINT_LIMIT_MIN ≤ s.dev.admin.maintRun)) ∧
  (∃ (s : State) (o : Origin) (data : List Byte), s.seen.accepts o Obj.KEY_INSTALL data = true) :=
  ⟨(let s : State := idle; let o : Origin := .svc 4 0 6 []; let serial : Fin 4294967296 := Fin.ofNat _ (idle.dev.nat Obj.SERIAL_NUMBER)
    let i : Instr := .lcRequestProvision (.svc 4 0 6 []) (Fin.ofNat _ (idle.dev.nat Obj.SERIAL_NUMBER)); let target : Nat := 1; let slot : Nat := 0
    let s := fLc .factory s; let s := setB Obj.LC_ROWS (List.replicate 128 0) s; ⟨s, o, serial, i, target, slot, by decide +kernel +zetaReduce⟩),
   (let s : State := idle; let o : Origin := .svc 4 0 6 []; ⟨s, o, by decide +kernel +zetaReduce⟩),
   (let s : State := idle; let o : Origin := .svc 4 9 6 [56, 143, 202, 56, 153, 90, 254, 57, 20, 56, 171, 169, 105, 109, 237, 181]
    let s := fSession (fLc .service s); ⟨s, o, by decide +kernel +zetaReduce⟩),
   (let s : State := idle; let o : Origin := .svc 4 9 6 [236, 107, 155, 84, 86, 176, 1, 3, 240, 173, 193, 110, 97, 96, 124, 37]
    let s := fSession (fLc .maintenance s); ⟨s, o, by decide +kernel +zetaReduce⟩),
   (let s : State := idle; let s := up s fun d => { d with power.inReset := false }; let s := up s fun d => { d with power.banked := false }
    let s := fLc .maintenance s; let s := up s fun d => { d with admin.sessionOpen := false }; let s := fLc .maintenance s
    let s := setN Obj.LC_MAINT_LIMIT_MIN 5 (up s fun d => { d with admin := { d.admin with maintRun := 30000000000 } })
    ⟨s, by decide +kernel +zetaReduce⟩),
   (let s : State := idle; let s := up s fun d => { d with power.inReset := false }; let s := up s fun d => { d with power.banked := false }
    let s := up (fLc .maintenance s) fun d => { d with admin.sessionOpen := true }; ⟨s, by decide +kernel +zetaReduce⟩),
   (let s : State := idle; let o : Origin := .svc 4 0 6 []; let data : List Byte := List.replicate 32 5; ⟨s, o, data, by decide +kernel +zetaReduce⟩)⟩

theorem witness_FirmwareStatesAdvance :
  (∃ (s : State) (o : Origin), s.seen.accepts o Obj.FW_UPD_CONTROL [1] = true) ∧
  (∃ (s : State) (o : Origin), s.seen.accepts o Obj.FW_UPD_CONTROL [2] = true) ∧
  (∃ (s : State) (o : Origin), s.seen.accepts o Obj.FW_UPD_CONTROL [3] = true) ∧
  (∃ (s : State) (o : Origin), s.seen.accepts o Obj.FW_UPD_CONTROL [4] = true) ∧
  (∃ (s : State) (o : Origin) (v : Fin 4294967296), s.seen.accepts o Obj.FW_CONFIRM (leBytes 4 v) = true) ∧
  (∃ (s : State), s.dev.power.inReset = false ∧ s.dev.power.banked = false ∧ s.dev.nat Obj.FW_UPD_STATE = 1) ∧
  (∃ (s : State), s.dev.power.inReset = false ∧ s.dev.power.banked = false ∧ s.dev.nat Obj.FW_UPD_STATE ≠ 1) ∧
  (∃ (s : State), s.dev.power.inReset = false ∧ s.dev.power.banked = false ∧ s.dev.nat Obj.FW_UPD_STATE = 3) ∧
  (∃ (s : State), s.dev.power.inReset = false ∧ s.dev.power.banked = false ∧ s.dev.nat Obj.FW_UPD_STATE ≠ 3) ∧
  (∃ (s : State) (data : List Byte) (block : Nat) (part : Nat), s.dev.power.inReset = false ∧ s.dev.power.banked = false ∧ s.dev.portOn = true ∧
    s.dev.portShed = false ∧ (s.dev.lc = .provision ∨ s.dev.lc = .factory) ∧ s.dev.nat Obj.FW_UPD_STATE = 2 ∧ block ≤ 254 ∧ part ≤ 3 ∧ data.length =
    1024 ∧ look (s.dev.slot (s.dev.updSlot)).blocks block = none) :=
  ⟨(let s : State := idle; let o : Origin := .svc 4 0 6 []; ⟨s, o, by decide +kernel +zetaReduce⟩),
   (let s : State := idle; let o : Origin := .svc 4 0 6 []
    let s := setN Obj.FW_UPD_STATE 2 (setSlot 0 (fun y => { y with blocks := [(0, [])] }) (setSlot 1 (fun y => { y with blocks := [(0, [])] }) s))
    ⟨s, o, by decide +kernel +zetaReduce⟩),
   (let s : State := idle; let o : Origin := .svc 4 0 6 []; let s := setN Obj.FW_UPD_STATE 4 s; ⟨s, o, by decide +kernel +zetaReduce⟩),
   (let s : State := idle; let o : Origin := .svc 4 0 6 []; let s := setN Obj.FW_UPD_STATE 2 s; ⟨s, o, by decide +kernel +zetaReduce⟩),
   (let s : State := idle; let o : Origin := .svc 4 0 6 []; let v : Fin 4294967296 := 0; let s := setN Obj.FW_PROBATION 1 s
    let v : Fin 4294967296 := Fin.ofNat _ (s.dev.nat Obj.FW_ACTIVE_VERSION); ⟨s, o, v, by decide +kernel +zetaReduce⟩),
   (let s : State := idle; let s := up s fun d => { d with power.inReset := false }; let s := up s fun d => { d with power.banked := false }
    let s := setN Obj.FW_UPD_STATE (1) s; ⟨s, by decide +kernel +zetaReduce⟩),
   (let s : State := idle; let s := up s fun d => { d with power.inReset := false }; let s := up s fun d => { d with power.banked := false }
    let s := setN Obj.FW_UPD_STATE (1 + 1) s; ⟨s, by decide +kernel +zetaReduce⟩),
   (let s : State := idle; let s := up s fun d => { d with power.inReset := false }; let s := up s fun d => { d with power.banked := false }
    let s := setN Obj.FW_UPD_STATE (3) s; ⟨s, by decide +kernel +zetaReduce⟩),
   (let s : State := idle; let s := up s fun d => { d with power.inReset := false }; let s := up s fun d => { d with power.banked := false }
    let s := setN Obj.FW_UPD_STATE (3 + 1) s; ⟨s, by decide +kernel +zetaReduce⟩),
   (let s : State := idle; let data : List Byte := List.replicate 1024 0; let block : Nat := 254; let part : Nat := 3
    let s := up s fun d => { d with power.inReset := false }; let s := up s fun d => { d with power.banked := false }; let s := fLc .provision s
    let s := setN Obj.FW_UPD_STATE (2) s; ⟨s, data, block, part, by decide +kernel +zetaReduce⟩)⟩

theorem witness_PortReadsAnswered :
  (∃ (s : State) (off : Nat) (len : Nat) (key : Fin 16777216), s.dev.power.inReset = false ∧ s.dev.power.banked = false ∧ s.dev.portOn = true ∧ 1 ≤ len
    ∧ len ≤ 1024 ∧ readRefusal key = 0 ∧ off ≤ (((s.seen.count Obj.SVC_RX_DATAGRAMS).grantAt 9 2).read key).length) ∧
  (∃ (s : State) (len : Nat) (key : Fin 16777216), s.dev.power.inReset = false ∧ s.dev.power.banked = false ∧ s.dev.portOn = true ∧ 1 ≤ len ∧ len ≤ 1024
    ∧ readRefusal key ≠ 0) ∧
  (∃ (s : State) (off : Nat) (len : Nat) (seg : Nat) (g : Seg), s.dev.power.inReset = false ∧ s.dev.power.banked = false ∧ s.dev.portOn = true ∧ 1 ≤ len
    ∧ len ≤ 1024 ∧ s.dev.portShed = false ∧ off % 1024 = 0 ∧ off < 65536 ∧ (s.dev.jnl.segs.find? (fun h => h.num == seg) = some g)) ∧
  (∃ (s : State) (off : Nat) (len : Nat) (seg : Nat), s.dev.power.inReset = false ∧ s.dev.power.banked = false ∧ s.dev.portOn = true ∧ 1 ≤ len ∧ len ≤
    1024 ∧ s.dev.portShed = false ∧ off % 1024 = 0 ∧ off < 65536 ∧ (s.dev.jnl.segs.find? (fun h => h.num == seg) = none)) ∧
  (∃ (s : State) (off : Nat) (len : Nat), s.dev.power.inReset = false ∧ s.dev.power.banked = false ∧ s.dev.portOn = true ∧ 1 ≤ len ∧ len ≤ 1024 ∧
    s.dev.portShed = false ∧ s.dev.nat Obj.XB_STATE = 1 ∧ off ≤ s.dev.replay.built.length) ∧
  (∃ (s : State) (len : Nat), s.dev.power.inReset = false ∧ s.dev.power.banked = false ∧ s.dev.portOn = true ∧ 1 ≤ len ∧ len ≤ 1024 ∧ s.dev.portShed =
    true) ∧
  (∃ (s : State) (target : Nat) (data : List Byte), s.dev.power.inReset = false ∧ s.dev.power.banked = false ∧ s.dev.portOn = true ∧ target =
    s.dev.portAddr ∧ data.length ≤ 1472) ∧
  (∃ (s : State) (target : Nat), s.dev.power.inReset = false ∧ s.dev.power.banked = false ∧ s.dev.portOn = true ∧ target ≠ s.dev.portAddr) :=
  ⟨(let s : State := idle; let off : Nat := 0; let len : Nat := 1024; let key : Fin 16777216 := Fin.ofNat _ Obj.SVC_USE
    let s := up s fun d => { d with power.inReset := false }; let s := up s fun d => { d with power.banked := false }
    ⟨s, off, len, key, by decide +kernel +zetaReduce⟩),
   (let s : State := idle; let len : Nat := 1; let key : Fin 16777216 := 0; let s := up s fun d => { d with power.inReset := false }
    let s := up s fun d => { d with power.banked := false }; ⟨s, len, key, by decide +kernel +zetaReduce⟩),
   (let s : State := idle; let off : Nat := 0; let len : Nat := 1; let seg : Nat := 0; let g : Seg := ⟨0, 0, false, false, false, 0, 0, [], [], 0, []⟩
    let s := up s fun d => { d with power.inReset := false }; let s := up s fun d => { d with power.banked := false }
    let s := up s fun d => { d with jnl := { d.jnl with segs := [g] } }; ⟨s, off, len, seg, g, by decide +kernel +zetaReduce⟩),
   (let s : State := idle; let off : Nat := 0; let len : Nat := 1; let seg : Nat := 0; let s := up s fun d => { d with power.inReset := false }
    let s := up s fun d => { d with power.banked := false }; ⟨s, off, len, seg, by decide +kernel +zetaReduce⟩),
   (let s : State := idle; let off : Nat := 0; let len : Nat := 1; let s := up s fun d => { d with power.inReset := false }
    let s := up s fun d => { d with power.banked := false }; let s := setN Obj.XB_STATE (1) s; let s := setN Obj.XB_STATE 1 s
    ⟨s, off, len, by decide +kernel +zetaReduce⟩),
   (let s : State := idle; let len : Nat := 1; let s := up s fun d => { d with power.inReset := false }
    let s := up s fun d => { d with power.banked := false }; let s := setN Obj.SHED_STATE 1 s; ⟨s, len, by decide +kernel +zetaReduce⟩),
   (let s : State := idle; let target : Nat := 0; let data : List Byte := []; let s := up s fun d => { d with power.inReset := false }
    let s := up s fun d => { d with power.banked := false }; let target := s.dev.portAddr; ⟨s, target, data, by decide +kernel +zetaReduce⟩),
   (let s : State := idle; let target : Nat := 0; let s := up s fun d => { d with power.inReset := false }
    let s := up s fun d => { d with power.banked := false }; ⟨s, target, by decide +kernel +zetaReduce⟩)⟩

theorem witness_SessionsOpenAndEnd :
  (∃ (s : State), s.dev.power.inReset = false ∧ s.dev.power.banked = false ∧ s.dev.portOn = true ∧ s.dev.portShed = false ∧ s.dev.admin.lockEnd = none) ∧
  (∃ (s : State), s.dev.power.inReset = false ∧ s.dev.power.banked = false ∧ s.dev.portOn = true ∧ s.dev.portShed = false ∧ s.dev.admin.lockEnd.isSome) ∧
  (∃ (s : State) (nd : List Byte) (nh : List Byte) (resp : List Byte) (key : List Byte), s.dev.power.inReset = false ∧ s.dev.power.banked = false ∧
    s.dev.portOn = true ∧ s.dev.portShed = false ∧ s.dev.admin.nonce = some nd ∧ nh.length = 16 ∧ resp.length = 32 ∧ s.dev.authKey = some key ∧ resp =
    hmac256 key (authLabel ++ leBytes 8 (s.dev.nat Obj.SERIAL_NUMBER) ++ nd ++ nh)) ∧
  (∃ (s : State) (nd : List Byte) (nh : List Byte) (resp : List Byte) (key : List Byte), s.dev.power.inReset = false ∧ s.dev.power.banked = false ∧
    s.dev.portOn = true ∧ s.dev.portShed = false ∧ s.dev.admin.nonce = some nd ∧ nh.length = 16 ∧ resp.length = 32 ∧ s.dev.authKey = some key ∧ resp ≠
    hmac256 key (authLabel ++ leBytes 8 (s.dev.nat Obj.SERIAL_NUMBER) ++ nd ++ nh) ∧ 2 ≤ s.dev.admin.fails) ∧
  (∃ (s : State) (peer : Nat) (req : Nat) (counter : Nat) (tag : List Byte), s.dev.power.inReset = false ∧ s.dev.power.banked = false ∧ s.dev.portOn =
    true ∧ s.dev.portShed = false ∧ (s.dev.lc = .service ∨ s.dev.lc = .maintenance) ∧ s.dev.sessionRepeat peer counter tag = none ∧ s.dev.sessionCheck
    peer counter tag (datagram 0x12 req counter []) = 0) ∧
  (∃ (s : State) (peer : Nat) (req : Nat) (counter : Nat) (tag : List Byte), s.dev.power.inReset = false ∧ s.dev.power.banked = false ∧ s.dev.portOn =
    true ∧ s.dev.portShed = false ∧ (s.dev.lc = .service ∨ s.dev.lc = .maintenance) ∧ s.dev.sessionRepeat peer counter tag = none ∧ s.dev.sessionCheck
    peer counter tag (datagram 0x12 req counter []) ≠ 0) ∧
  (∃ (s : State), s.dev.power.inReset = false ∧ s.dev.power.banked = false ∧ s.dev.admin.sessionOpen = false) ∧
  (∃ (s : State), s.dev.power.inReset = false ∧ s.dev.power.banked = false ∧ s.dev.admin.sessionOpen = true ∧ s.dev.admin.lastSeen + 100000000 *
    s.dev.nat Obj.AUTH_IDLE_S ≤ s.dev.now) ∧
  (∃ (s : State), s.dev.power.inReset = false ∧ s.dev.power.banked = false ∧ s.dev.admin.sessionOpen = true ∧ s.dev.now < s.dev.admin.lastSeen +
    100000000 * s.dev.nat Obj.AUTH_IDLE_S) ∧
  (∃ (s : State) (e : Nat), s.dev.power.inReset = false ∧ s.dev.power.banked = false ∧ s.dev.admin.lockEnd = some e ∧ e ≤ s.dev.now) ∧
  (∃ (s : State) (e : Nat), s.dev.power.inReset = false ∧ s.dev.power.banked = false ∧ s.dev.admin.lockEnd = some e ∧ s.dev.now < e) :=
  ⟨(let s : State := idle; let s := up s fun d => { d with power.inReset := false }; let s := up s fun d => { d with power.banked := false }
    let s := up s fun d => { d with admin.lockEnd := none }; ⟨s, by decide +kernel +zetaReduce⟩),
   (let s : State := idle; let s := up s fun d => { d with power.inReset := false }; let s := up s fun d => { d with power.banked := false }
    let s := up s fun d => { d with admin.lockEnd := some 3 }; ⟨s, by decide +kernel +zetaReduce⟩),
   (let s : State := idle; let nd : List Byte := []; let nh : List Byte := List.replicate 16 7; let resp : List Byte := []
    let key : List Byte := List.replicate 32 3; let s := up s fun d => { d with power.inReset := false }
    let s := up s fun d => { d with power.banked := false }; let s := up s fun d => { d with admin.nonce := some nd }
    let s := up (setN Obj.KEY_SLOT_STATE 1 (setN Obj.KEY_ACTIVE_SLOT 0 s)) fun d => { d with admin := { d.admin with keys := [(0, key)] } }
    let resp := hmac256 key (authLabel ++ leBytes 8 (s.dev.nat Obj.SERIAL_NUMBER) ++ nd ++ nh); ⟨s, nd, nh, resp, key, by decide +kernel +zetaReduce⟩),
   (let s : State := idle; let nd : List Byte := []; let nh : List Byte := List.replicate 16 7; let resp : List Byte := List.replicate 32 9
    let key : List Byte := List.replicate 32 3; let s := up s fun d => { d with power.inReset := false }
    let s := up s fun d => { d with power.banked := false }; let s := up s fun d => { d with admin.nonce := some nd }
    let s := up (setN Obj.KEY_SLOT_STATE 1 (setN Obj.KEY_ACTIVE_SLOT 0 s)) fun d => { d with admin := { d.admin with keys := [(0, key)], fails := 2 } }
    ⟨s, nd, nh, resp, key, by decide +kernel +zetaReduce⟩),
   (let s : State := idle; let peer : Nat := 4; let req : Nat := 0; let counter : Nat := 6
    let tag : List Byte := [96, 200, 187, 161, 243, 112, 43, 147, 105, 201, 135, 65, 41, 220, 251, 87]
    let s := up s fun d => { d with power.inReset := false }; let s := up s fun d => { d with power.banked := false }; let s := fLc .service s
    let s := fSession (fLc .service s); ⟨s, peer, req, counter, tag, by decide +kernel +zetaReduce⟩),
   (let s : State := idle; let peer : Nat := 0; let req : Nat := 0; let counter : Nat := 0; let tag : List Byte := []
    let s := up s fun d => { d with power.inReset := false }; let s := up s fun d => { d with power.banked := false }; let s := fLc .service s
    ⟨s, peer, req, counter, tag, by decide +kernel +zetaReduce⟩),
   (let s : State := idle; let s := up s fun d => { d with power.inReset := false }; let s := up s fun d => { d with power.banked := false }
    let s := up s fun d => { d with admin.sessionOpen := false }; ⟨s, by decide +kernel +zetaReduce⟩),
   (let s : State := idle; let s := up s fun d => { d with power.inReset := false }; let s := up s fun d => { d with power.banked := false }
    let s := up s fun d => { d with admin.sessionOpen := true }; let s := setNow (s.dev.admin.lastSeen + 100000000 * s.dev.nat Obj.AUTH_IDLE_S) s
    ⟨s, by decide +kernel +zetaReduce⟩),
   (let s : State := idle; let s := up s fun d => { d with power.inReset := false }; let s := up s fun d => { d with power.banked := false }
    let s := up s fun d => { d with admin.sessionOpen := true }; ⟨s, by decide +kernel +zetaReduce⟩),
   (let s : State := idle; let e : Nat := 0; let s := up s fun d => { d with power.inReset := false }
    let s := up s fun d => { d with power.banked := false }; let s := up s fun d => { d with admin.lockEnd := some e }; let s := setNow (e) s
    ⟨s, e, by decide +kernel +zetaReduce⟩),
   (let s : State := idle; let e : Nat := 1; let s := up s fun d => { d with power.inReset := false }
    let s := up s fun d => { d with power.banked := false }; let s := up s fun d => { d with admin.lockEnd := some e }
    ⟨s, e, by decide +kernel +zetaReduce⟩)⟩

theorem witness_MasterSendsAndHears :
  (∃ (s : State), s.dev.Talks ∧ s.dev.ringMaster = true ∧ s.dev.kindledPast = true ∧ (s.dev.hop 0).unwrapDue = false ∧ (s.dev.hop 1).unwrapDue = false ∧
    (s.dev.ring.lastTime = 0 ∨ s.dev.ring.lastTime + 10000 ≤ s.dev.now)) ∧
  (∃ (s : State), s.dev.Talks ∧ s.dev.ringMaster = true ∧ s.dev.kindledPast = true ∧ (s.dev.hop 0).unwrapDue = false ∧ (s.dev.hop 1).unwrapDue = false ∧
    s.dev.ring.lastTime ≠ 0 ∧ s.dev.now < s.dev.ring.lastTime + 10000) ∧
  (∃ (s : State) (a : Nat) (n : Nat) (q : Nat) (p : List Byte), s.dev.Talks ∧ s.dev.ringMaster = true ∧ s.dev.alive = true ∧ s.dev.ring.repeats = [(a,
    n, q, p)] ∧ a ≤ s.dev.now) ∧
  (∃ (s : State) (a : Nat) (n : Nat) (q : Nat) (p : List Byte), s.dev.Talks ∧ s.dev.ringMaster = true ∧ s.dev.alive = true ∧ s.dev.ring.repeats = [(a,
    n, q, p)] ∧ s.dev.now < a) ∧
  (∃ (s : State) (pos : Fin 16) (cls : Fin 256) (seq : Nat) (q : Nat) (p : List Byte), s.dev.Talks ∧ s.dev.ringMaster = true ∧ s.dev.ring.sentFrames =
    [(cls.val, pos.val, q, p)] ∧ seq ≤ q) ∧
  (∃ (s : State) (cls : Nat) (dst : Nat) (p : List Byte), s.dev.Talks ∧ s.dev.ringMaster = true ∧ s.dev.alive = true ∧ s.dev.ring.withheld = [(cls, dst,
    p)] ∧ s.dev.withholds = false) ∧
  (∃ (s : State) (p : Fin 16) (st : RingStatus), s.dev.Talks ∧ s.dev.ringMaster = true ∧ s.dev.isAdmitted p = true ∧ (s.dev.pos p).gone = false ∧ st.pos
    = p) ∧
  (∃ (s : State) (p : Fin 16) (l : Nat), s.dev.Talks ∧ s.dev.ringMaster = true ∧ s.dev.isAdmitted p = true ∧ (s.dev.pos p).gone = false ∧ (∀ l, l < 3 →
    s.dev.emcyFree l = false ∧ lookD [] s.dev.rep.emcy l = []) ∧ l < 3) ∧
  (∃ (s : State) (p : Fin 16) (req : Nat) (lane : Nat) (key : Nat), s.dev.Talks ∧ s.dev.ringMaster = true ∧ s.dev.isAdmitted p = true ∧ (s.dev.pos
    p).gone = false ∧ s.dev.ring.asked = [(req, lane, s.dev.nodeId + p, key)]) :=
  ⟨(let s : State := idle; let s := fRole 1 s; let s := setHop 0 (fun y => { y with unwrapDue := false }) s
    let s := setHop 1 (fun y => { y with unwrapDue := false }) s; let s := up s fun d => { d with ring.lastTime := 0 }
    ⟨s, by decide +kernel +zetaReduce⟩),
   (let s : State := idle; let s := fRole 1 s; let s := setHop 0 (fun y => { y with unwrapDue := false }) s
    let s := setHop 1 (fun y => { y with unwrapDue := false }) s; let s := up s fun d => { d with ring.lastTime := 1 }
    ⟨s, by decide +kernel +zetaReduce⟩),
   (let s : State := idle; let a : Nat := 0; let n : Nat := 0; let q : Nat := 0; let p : List Byte := []; let s := fRole 1 s
    let s := up s fun d => { d with ring.repeats := [(a, n, q, p)] }; let s := setNow (a) s; ⟨s, a, n, q, p, by decide +kernel +zetaReduce⟩),
   (let s : State := idle; let a : Nat := 1; let n : Nat := 0; let q : Nat := 0; let p : List Byte := []; let s := fRole 1 s
    let s := up s fun d => { d with ring.repeats := [(a, n, q, p)] }; ⟨s, a, n, q, p, by decide +kernel +zetaReduce⟩),
   (let s : State := idle; let pos : Fin 16 := 0; let cls : Fin 256 := 0; let seq : Nat := 1; let q : Nat := 1; let p : List Byte := []
    let s := fRole 1 s; let s := up s fun d => { d with ring.sentFrames := [(cls.val, pos.val, q, p)] }
    ⟨s, pos, cls, seq, q, p, by decide +kernel +zetaReduce⟩),
   (let s : State := idle; let cls : Nat := 0; let dst : Nat := 0; let p : List Byte := []; let s := fRole 1 s
    let s := up s fun d => { d with ring.withheld := [(cls, dst, p)] }; let s := setNow 3000 s; ⟨s, cls, dst, p, by decide +kernel +zetaReduce⟩),
   (let s : State := idle; let p : Fin 16 := 0; let st : RingStatus := ⟨0, 0, []⟩; let s := fRole 1 s; let s := setN Obj.RING_ADMITTED 0xFFFF s
    ⟨s, p, st, by decide +kernel +zetaReduce⟩),
   (let s : State := idle; let p : Fin 16 := 0; let l : Nat := 0; let s := fRole 1 s; let s := setN Obj.RING_ADMITTED 0xFFFF s
    ⟨s, p, l, by decide +kernel +zetaReduce⟩),
   (let s : State := idle; let p : Fin 16 := 0; let req : Nat := 0; let lane : Nat := 0; let key : Nat := 0; let s := fRole 1 s
    let s := setN Obj.RING_ADMITTED 0xFFFF s; let s := up s fun d => { d with ring.asked := [(req, lane, s.dev.nodeId + p, key)] }
    ⟨s, p, req, lane, key, by decide +kernel +zetaReduce⟩)⟩

theorem witness_RingTimeFollowed :
  (∃ (s : State) (r : RingTime), s.dev.Talks ∧ s.dev.isMember = true ∧ r.src = 0 ∧ r.halted = false) ∧
  (∃ (s : State) (r : RingTime), s.dev.Talks ∧ s.dev.isMember = true ∧ r.src = 0 ∧ s.dev.nat Obj.RING_STATE = 0) ∧
  (∃ (s : State) (r : RingTime), s.dev.Talks ∧ s.dev.isMember = true ∧ r.src = 0 ∧ s.dev.nat Obj.RING_STATE = 2 ∧ s.dev.rxFresh 0x01 r.seq = true ∧
    s.dev.ring.timeFrames < 9) ∧
  (∃ (s : State) (r : RingTime), s.dev.Talks ∧ s.dev.isMember = true ∧ r.src = 0 ∧ s.dev.nat Obj.RING_STATE = 2 ∧ s.dev.rxFresh 0x01 r.seq = true ∧ 9 ≤
    s.dev.ring.timeFrames) ∧
  (∃ (s : State) (r : RingTime), s.dev.Talks ∧ s.dev.isMember = true ∧ r.src = 0 ∧ s.dev.nat Obj.RING_STATE = 2 ∧ s.dev.rxFresh 0x01 r.seq = false) ∧
  (∃ (s : State) (r : RingTime), s.dev.Talks ∧ s.dev.isMember = true ∧ r.src = 0 ∧ s.dev.nat Obj.RING_STATE = 4 ∧ 0 ≤ (s.dev.timeAt r - (32 * (s.dev.now
    : Int) + s.dev.ring.offset))) ∧
  (∃ (s : State) (r : RingTime), s.dev.Talks ∧ s.dev.isMember = true ∧ r.src = 0 ∧ s.dev.nat Obj.RING_STATE = 4 ∧ (s.dev.timeAt r - (32 * (s.dev.now :
    Int) + s.dev.ring.offset)) < 0 ∧ s.dev.ring.lastTime ≤ s.dev.now) ∧
  (∃ (s : State) (r : RingTime), s.dev.Talks ∧ s.dev.isMember = true ∧ r.src = 0 ∧ s.dev.nat Obj.RING_STATE = 5) ∧
  (∃ (s : State), s.dev.isMember = false) ∧
  (∃ (s : State), s.dev.Talks ∧ s.dev.isMember = true ∧ s.dev.nat Obj.RING_STATE = 4 ∧ s.dev.ring.lastTime + 100000 ≤ s.dev.now) ∧
  (∃ (s : State), s.dev.Talks ∧ s.dev.isMember = true ∧ s.dev.nat Obj.RING_STATE = 4 ∧ s.dev.now < s.dev.ring.lastTime + 100000) ∧
  (∃ (s : State) (p : Fin 2), s.dev.Talks ∧ s.dev.inserted = true ∧ (s.dev.hop p).down = false) ∧
  (∃ (s : State) (p : Fin 2), s.dev.Talks ∧ (s.dev.inserted = false ∨ (s.dev.hop p).down = true)) ∧
  (∃ (s : State) (p : Fin 2) (t1 : Nat), s.dev.Talks ∧ (s.dev.hop p).reqAt = some t1) ∧
  (∃ (s : State) (p : Fin 2) (seq : Nat), s.dev.Talks ∧ (seq ≠ (s.dev.hop p).reqSeq ∨ (s.dev.hop p).reqAt = none)) ∧
  (∃ (s : State) (p : Fin 2), s.dev.Talks ∧ s.dev.inserted = true ∧ (s.dev.hop p).down = true) ∧
  (∃ (s : State), s.dev.Talks ∧ s.dev.inserted = false) ∧
  (∃ (s : State) (p : Fin 2) (a : Nat), s.dev.Talks ∧ (s.dev.hop p).down = true ∧ (s.dev.hop p).lockAt = some a ∧ a + 100000000 ≤ s.dev.now) ∧
  (∃ (s : State) (p : Fin 2) (a : Nat), s.dev.Talks ∧ (s.dev.hop p).down = true ∧ (s.dev.hop p).lockAt = some a ∧ s.dev.now < a + 100000000) :=
  ⟨(let s : State := idle; let r : RingTime := ⟨0, 0, 0, false, 0, 0, 0, 0⟩; let s := fRole 2 s; ⟨s, r, by decide +kernel +zetaReduce⟩),
   (let s : State := idle; let r : RingTime := ⟨0, 0, 0, false, 0, 0, 0, 0⟩; let s := fRole 2 s; let s := setN Obj.RING_STATE (0) s
    ⟨s, r, by decide +kernel +zetaReduce⟩),
   (let s : State := idle; let r : RingTime := ⟨0, 0, 0, false, 0, 0, 0, 0⟩; let s := fRole 2 s; let s := setN Obj.RING_STATE (2) s
    ⟨s, r, by decide +kernel +zetaReduce⟩),
   (let s : State := idle; let r : RingTime := ⟨0, 0, 0, false, 0, 0, 0, 0⟩; let s := fRole 2 s; let s := setN Obj.RING_STATE (2) s
    let s := up s fun d => { d with ring.timeFrames := 9 }; ⟨s, r, by decide +kernel +zetaReduce⟩),
   (let s : State := idle; let r : RingTime := ⟨0, 0, 0, false, 0, 0, 0, 0⟩; let s := fRole 2 s; let s := setN Obj.RING_STATE (2) s
    let s := up s fun d => { d with ring := { d.ring with rxSeq := [(1, 5)] } }; ⟨s, r, by decide +kernel +zetaReduce⟩),
   (let s : State := idle; let r : RingTime := ⟨0, 0, 0, false, 0, 0, 0, 0⟩; let s := fRole 2 s; let s := setN Obj.RING_STATE (4) s
    ⟨s, r, by decide +kernel +zetaReduce⟩),
   (let s : State := idle; let r : RingTime := ⟨0, 0, 0, false, 0, 0, 0, 0⟩; let s := fRole 2 s; let s := setN Obj.RING_STATE (4) s
    let s := up s fun d => { d with ring.offset := 1000000 }; let s := setNow (s.dev.ring.lastTime) s; ⟨s, r, by decide +kernel +zetaReduce⟩),
   (let s : State := idle; let r : RingTime := ⟨0, 0, 0, false, 0, 0, 0, 0⟩; let s := fRole 2 s; let s := setN Obj.RING_STATE (5) s
    ⟨s, r, by decide +kernel +zetaReduce⟩),
   (let s : State := idle; ⟨s, by decide +kernel +zetaReduce⟩),
   (let s : State := idle; let s := fRole 2 s; let s := setN Obj.RING_STATE (4) s; let s := setNow (s.dev.ring.lastTime + 100000) s
    ⟨s, by decide +kernel +zetaReduce⟩),
   (let s : State := idle; let s := fRole 2 s; let s := setN Obj.RING_STATE (4) s; ⟨s, by decide +kernel +zetaReduce⟩),
   (let s : State := idle; let p : Fin 2 := 0; let s := up (fRole 2 s) fun d => { d with ring.inserted := true }
    let s := setHop p (fun y => { y with down := false }) s; ⟨s, p, by decide +kernel +zetaReduce⟩),
   (let s : State := idle; let p : Fin 2 := 0; ⟨s, p, by decide +kernel +zetaReduce⟩),
   (let s : State := idle; let p : Fin 2 := 0; let t1 : Nat := 0; let s := setHop p (fun y => { y with reqAt := some t1 }) s
    ⟨s, p, t1, by decide +kernel +zetaReduce⟩),
   (let s : State := idle; let p : Fin 2 := 0; let seq : Nat := 9; ⟨s, p, seq, by decide +kernel +zetaReduce⟩),
   (let s : State := idle; let p : Fin 2 := 0; let s := up (fRole 2 s) fun d => { d with ring.inserted := true }
    let s := setHop p (fun y => { y with down := true }) s; ⟨s, p, by decide +kernel +zetaReduce⟩),
   (let s : State := idle; ⟨s, by decide +kernel +zetaReduce⟩),
   (let s : State := idle; let p : Fin 2 := 0; let a : Nat := 0; let s := setHop p (fun y => { y with down := true }) s
    let s := setHop p (fun y => { y with lockAt := some a }) s; let s := setNow (a + 100000000) s; ⟨s, p, a, by decide +kernel +zetaReduce⟩),
   (let s : State := idle; let p : Fin 2 := 0; let a : Nat := 0; let s := setHop p (fun y => { y with down := true }) s
    let s := setHop p (fun y => { y with lockAt := some a }) s; ⟨s, p, a, by decide +kernel +zetaReduce⟩)⟩

theorem witness_MemberHearsAndSends :
  (∃ (s : State) (q : Nat) (sg : Fin 32), s.dev.Talks ∧ s.dev.onRing = true ∧ s.dev.alive = true ∧ s.dev.sgUsed sg = true ∧ s.dev.nat (Obj.SG_RING sg) =
    1 ∧ s.dev.nat (Obj.SG_COMMIT_SEQ sg) ≠ q ∧ (∀ c ∈ (s.dev.sgp sg).commits, c.2.2 ≠ q)) ∧
  (∃ (s : State) (q : Nat) (sg : Fin 32), s.dev.Talks ∧ s.dev.onRing = true ∧ s.dev.alive = true ∧ s.dev.sgUsed sg = true ∧ s.dev.nat (Obj.SG_RING sg) =
    1 ∧ s.dev.nat (Obj.SG_COMMIT_SEQ sg) = q) ∧
  (∃ (s : State) (pos : Fin 16) (seq : Nat), s.dev.Talks ∧ s.dev.onRing = true ∧ pos.val = s.dev.ownPos ∧ s.dev.stokerRuns = true ∧ s.dev.rxFresh 0x20
    seq = true) ∧
  (∃ (s : State) (pos : Fin 16), s.dev.Talks ∧ s.dev.onRing = true ∧ pos.val ≠ s.dev.ownPos ∧ s.dev.inserted = true) ∧
  (∃ (s : State) (f : RingCommand) (ch : Fin 96), s.dev.Talks ∧ s.dev.onRing = true ∧ s.dev.op = .operating ∧ (s.dev.lc = .provision ∨ s.dev.lc =
    .service ∨ s.dev.lc = .maintenance) ∧ f.dst.val = s.dev.ownPos ∧ s.dev.rxFresh 0x10 f.seq = true ∧ f.first = true ∧ f.last = true ∧ f.nmt = none ∧
    f.key.val = Obj.DIM_LEVEL ch ∧ f.data.length = 2) ∧
  (∃ (s : State) (f : RingCommand), s.dev.Talks ∧ s.dev.onRing = true ∧ s.dev.op = .operating ∧ (s.dev.lc = .provision ∨ s.dev.lc = .service ∨ s.dev.lc
    = .maintenance) ∧ f.dst.val = s.dev.ownPos ∧ s.dev.rxFresh 0x10 f.seq = true ∧ f.first = true ∧ f.last = true ∧ f.nmt = some 1) ∧
  (∃ (s : State) (f : RingCommand), s.dev.Talks ∧ s.dev.onRing = true ∧ s.dev.op = .operating ∧ (s.dev.lc = .provision ∨ s.dev.lc = .service ∨ s.dev.lc
    = .maintenance) ∧ f.dst.val = s.dev.ownPos ∧ s.dev.rxFresh 0x10 f.seq = true ∧ f.first = true ∧ f.last = false) ∧
  (∃ (s : State) (f : RingCommand), s.dev.Talks ∧ s.dev.onRing = true ∧ s.dev.op = .operating ∧ (s.dev.lc = .provision ∨ s.dev.lc = .service ∨ s.dev.lc
    = .maintenance) ∧ f.dst.val = s.dev.ownPos ∧ s.dev.rxNext 0x10 ≠ 0 ∧ s.dev.rxNext 0x10 < f.seq) ∧
  (∃ (s : State) (f : RingCommand), s.dev.Talks ∧ s.dev.onRing = true ∧ s.dev.op = .operating ∧ (s.dev.lc = .provision ∨ s.dev.lc = .service ∨ s.dev.lc
    = .maintenance) ∧ f.dst.val ≠ s.dev.ownPos) ∧
  (∃ (s : State), s.dev.Talks ∧ s.dev.alive = true ∧ s.dev.onRing = true ∧ s.dev.ring.statusAt + 10000000 ≤ s.dev.now) ∧
  (∃ (s : State), s.dev.Talks ∧ s.dev.alive = true ∧ s.dev.onRing = true ∧ bit (s.dev.nat Obj.SHED_STATE) 1 = false ∧ s.dev.ring.telemetryAt + 1000000 ≤
    s.dev.now) ∧
  (∃ (s : State), s.dev.Talks ∧ s.dev.alive = true ∧ (s.dev.onRing = false ∨ s.dev.now < s.dev.ring.statusAt + 10000000)) ∧
  (∃ (s : State), s.dev.Talks ∧ s.dev.alive = true ∧ (s.dev.onRing = false ∨ bit (s.dev.nat Obj.SHED_STATE) 1 = true ∨ s.dev.now <
    s.dev.ring.telemetryAt + 1000000)) ∧
  (∃ (s : State), s.dev.Talks ∧ s.dev.alive = true ∧ s.dev.ringMaster = true ∧ s.dev.up = true ∧ s.dev.ring.grantSentAt + 100000000 ≤ s.dev.now) ∧
  (∃ (s : State), s.dev.Talks ∧ s.dev.alive = true ∧ s.dev.ringMaster = true ∧ s.dev.up = true ∧ s.dev.now < s.dev.ring.grantSentAt + 100000000) ∧
  (∃ (s : State) (p : Fin 16), s.dev.Talks ∧ s.dev.alive = true ∧ s.dev.onRing = true ∧ p.val = s.dev.ownPos) ∧
  (∃ (s : State) (a : Nat), s.dev.Talks ∧ s.dev.alive = true ∧ s.dev.isMember = true ∧ s.dev.ring.grantAt = some a ∧ a + 200000000 ≤ s.dev.now) ∧
  (∃ (s : State) (a : Nat), s.dev.Talks ∧ s.dev.alive = true ∧ s.dev.isMember = true ∧ s.dev.ring.grantAt = some a ∧ s.dev.now < a + 200000000) :=
  ⟨(let s : State := idle; let q : Nat := 1; let sg : Fin 32 := 0; let s := fRole 2 (setN Obj.RING_STATE 4 s); let s := setN (Obj.SG_RING sg) (1) s
    let s := setN (Obj.SG_COMMIT_SEQ sg) (q + 1) s; let s := setB (Obj.SG_CHANNELS sg) ([3] ++ List.replicate 11 0) s
    ⟨s, q, sg, by decide +kernel +zetaReduce⟩),
   (let s : State := idle; let q : Nat := 0; let sg : Fin 32 := 0; let s := fRole 2 (setN Obj.RING_STATE 4 s); let s := setN (Obj.SG_RING sg) (1) s
    let s := setN (Obj.SG_COMMIT_SEQ sg) (q) s; let s := setB (Obj.SG_CHANNELS sg) ([3] ++ List.replicate 11 0) s
    ⟨s, q, sg, by decide +kernel +zetaReduce⟩),
   (let s : State := idle; let pos : Fin 16 := 0; let seq : Nat := 0; let s := fRole 2 (setN Obj.RING_STATE 4 s)
    ⟨s, pos, seq, by decide +kernel +zetaReduce⟩),
   (let s : State := idle; let pos : Fin 16 := 1; let s := fRole 2 (setN Obj.RING_STATE 4 s)
    let s := up (fRole 2 s) fun d => { d with ring.inserted := true }; ⟨s, pos, by decide +kernel +zetaReduce⟩),
   (let s : State := idle; let f : RingCommand := ⟨0, 4, true, true, none, 0, 0, Fin.ofNat _ (Obj.DIM_LEVEL 0), [1, 2]⟩; let ch : Fin 96 := 0
    let s := fRole 2 (setN Obj.RING_STATE 4 s); let s := fOp .operating s; let s := fLc .provision s; ⟨s, f, ch, by decide +kernel +zetaReduce⟩),
   (let s : State := idle; let f : RingCommand := ⟨0, 4, true, true, some 1, 0, 0, 0, []⟩; let s := fRole 2 (setN Obj.RING_STATE 4 s)
    let s := fOp .operating s; let s := fLc .provision s; ⟨s, f, by decide +kernel +zetaReduce⟩),
   (let s : State := idle; let f : RingCommand := ⟨0, 4, true, false, none, 0, 0, 0, []⟩; let s := fRole 2 (setN Obj.RING_STATE 4 s)
    let s := fOp .operating s; let s := fLc .provision s; ⟨s, f, by decide +kernel +zetaReduce⟩),
   (let s : State := idle; let f : RingCommand := ⟨0, 4, true, true, none, 0, 0, 0, []⟩; let s := fRole 2 (setN Obj.RING_STATE 4 s)
    let s := fOp .operating s; let s := fLc .provision s; let s := up s fun d => { d with ring := { d.ring with rxSeq := [(0x10, 2)] } }
    ⟨s, f, by decide +kernel +zetaReduce⟩),
   (let s : State := idle; let f : RingCommand := ⟨3, 4, true, true, none, 0, 0, 0, []⟩; let s := fRole 2 (setN Obj.RING_STATE 4 s)
    let s := fOp .operating s; let s := fLc .provision s; ⟨s, f, by decide +kernel +zetaReduce⟩),
   (let s : State := idle; let s := fRole 2 (setN Obj.RING_STATE 4 s); let s := setNow (s.dev.ring.statusAt + 10000000) s
    ⟨s, by decide +kernel +zetaReduce⟩),
   (let s : State := idle; let s := fRole 2 (setN Obj.RING_STATE 4 s); let s := setNow (s.dev.ring.telemetryAt + 1000000) s
    ⟨s, by decide +kernel +zetaReduce⟩),
   (let s : State := idle; ⟨s, by decide +kernel +zetaReduce⟩),
   (let s : State := idle; ⟨s, by decide +kernel +zetaReduce⟩),
   (let s : State := idle; let s := fRole 1 s; let s := setNow (s.dev.ring.grantSentAt + 100000000) s; ⟨s, by decide +kernel +zetaReduce⟩),
   (let s : State := idle; let s := fRole 1 s; ⟨s, by decide +kernel +zetaReduce⟩),
   (let s : State := idle; let p : Fin 16 := 0; let s := fRole 2 (setN Obj.RING_STATE 4 s); ⟨s, p, by decide +kernel +zetaReduce⟩),
   (let s : State := idle; let a : Nat := 0; let s := fRole 2 s; let s := up s fun d => { d with ring.grantAt := some a }
    let s := setNow (a + 200000000) s; ⟨s, a, by decide +kernel +zetaReduce⟩),
   (let s : State := idle; let a : Nat := 0; let s := fRole 2 s; let s := up s fun d => { d with ring.grantAt := some a }
    ⟨s, a, by decide +kernel +zetaReduce⟩)⟩

theorem witness_MembershipChanges :
  (∃ (s : State), s.dev.alive = true ∧ s.dev.power.banked = false ∧ s.dev.isMember = true ∧ s.dev.nat Obj.RING_STATE = 1) ∧
  (∃ (s : State), s.dev.alive = true ∧ s.dev.power.banked = false ∧ s.dev.isMember = true ∧ s.dev.nat Obj.RING_STATE ≠ 1) ∧
  (∃ (s : State), s.dev.alive = true ∧ s.dev.power.banked = false ∧ s.dev.isMember = true ∧ s.dev.nat Obj.RING_STATE = 3 ∧ s.dev.ring.joinAt + 500000 ≤
    s.dev.now) ∧
  (∃ (s : State), s.dev.alive = true ∧ s.dev.power.banked = false ∧ s.dev.isMember = true ∧ s.dev.nat Obj.RING_STATE = 3 ∧ s.dev.now < s.dev.ring.joinAt
    + 500000) ∧
  (∃ (s : State) (p : Fin 16), s.dev.alive = true ∧ s.dev.power.banked = false ∧ s.dev.isMember = true ∧ s.dev.nat Obj.RING_STATE = 3 ∧ p.val =
    s.dev.ownPos ∧ s.dev.testState = false) ∧
  (∃ (s : State) (j : RingJoin), s.dev.Talks ∧ s.dev.alive = true ∧ s.dev.ringMaster = true ∧ s.dev.up = true ∧ s.dev.isAdmitted j.pos = false ∧
    s.dev.joinCause j = 0) ∧
  (∃ (s : State) (j : RingJoin), s.dev.Talks ∧ s.dev.alive = true ∧ s.dev.ringMaster = true ∧ s.dev.up = true ∧ s.dev.isAdmitted j.pos = false ∧
    s.dev.joinCause j ≠ 0 ∧ 0 < j.pos.val ∧ j.pos.val < s.dev.nat Obj.RING_SIZE) ∧
  (∃ (s : State) (p : Fin 16), s.dev.Talks ∧ s.dev.alive = true ∧ s.dev.ringMaster = true ∧ s.dev.up = true ∧ 0 < p.val ∧ p.val < s.dev.nat
    Obj.RING_SIZE ∧ s.dev.isAdmitted p = true ∧ s.dev.nat (Obj.POS_LAST_RX p) + 100000 ≤ s.dev.now) ∧
  (∃ (s : State) (serial : Nat), s.dev.Talks ∧ s.dev.alive = true ∧ s.dev.ringMaster = true ∧ s.dev.up = true ∧ s.dev.kindledPast = true ∧ serial <
    s.dev.nat Obj.SERIAL_NUMBER) ∧
  (∃ (s : State) (serial : Nat), s.dev.Talks ∧ s.dev.alive = true ∧ s.dev.ringMaster = true ∧ s.dev.up = true ∧ s.dev.kindledPast = true ∧ s.dev.nat
    Obj.SERIAL_NUMBER ≤ serial) :=
  ⟨(let s : State := idle; let s := up s fun d => { d with power.banked := false }; let s := fRole 2 s; let s := setN Obj.RING_STATE (1) s
    ⟨s, by decide +kernel +zetaReduce⟩),
   (let s : State := idle; let s := up s fun d => { d with power.banked := false }; let s := fRole 2 s; let s := setN Obj.RING_STATE (1 + 1) s
    let s := setN Obj.RING_STATE 4 s; ⟨s, by decide +kernel +zetaReduce⟩),
   (let s : State := idle; let s := up s fun d => { d with power.banked := false }; let s := fRole 2 s; let s := setN Obj.RING_STATE (3) s
    let s := setNow (s.dev.ring.joinAt + 500000) s; ⟨s, by decide +kernel +zetaReduce⟩),
   (let s : State := idle; let s := up s fun d => { d with power.banked := false }; let s := fRole 2 s; let s := setN Obj.RING_STATE (3) s
    ⟨s, by decide +kernel +zetaReduce⟩),
   (let s : State := idle; let p : Fin 16 := 0; let s := up s fun d => { d with power.banked := false }; let s := fRole 2 s
    let s := setN Obj.RING_STATE (3) s; ⟨s, p, by decide +kernel +zetaReduce⟩),
   (let s : State := idle; let j : RingJoin := ⟨1, 0, 1, 0, 0, 0, [], [], []⟩; let s := fRole 1 s
    let s := setN Obj.RING_ADMITTED 0 (setN Obj.RING_SIZE 16 s); let j : RingJoin := { j with active := (s.dev.bytesOf Obj.CFG_ACTIVE_DIGEST).take 8 }
    let j : RingJoin := { j with staged := (s.dev.bytesOf Obj.CFG_STAGED_DIGEST).take 8 }
    let j : RingJoin := { j with size := 16, serial := 1000, variant := 1 }; ⟨s, j, by decide +kernel +zetaReduce⟩),
   (let s : State := idle; let j : RingJoin := ⟨1, 0, 1, 0, 0, 0, [], [], []⟩; let s := fRole 1 s; let s := setN Obj.RING_SIZE 2 s
    ⟨s, j, by decide +kernel +zetaReduce⟩),
   (let s : State := idle; let p : Fin 16 := 3; let s := fRole 1 s; let s := setN Obj.RING_ADMITTED 0xFFFF s; let s := setN Obj.RING_SIZE 4 s
    let s := setNow (s.dev.nat (Obj.POS_LAST_RX p) + 100000) s; ⟨s, p, by decide +kernel +zetaReduce⟩),
   (let s : State := idle; let serial : Nat := 0; let s := fRole 1 s; let s := setN Obj.SERIAL_NUMBER 1 s; ⟨s, serial, by decide +kernel +zetaReduce⟩),
   (let s : State := idle; let serial : Nat := 0; let s := fRole 1 s; ⟨s, serial, by decide +kernel +zetaReduce⟩)⟩

theorem witness_RingFrame :
  ∃ (s : State) (t : State) (p : Fin 2) (pos : Fin 16) (cls : Fin 256) (r : RingTime) (j : RingJoin) (st : RingStatus) (a : Nat) (b : Nat) (c : Nat) (q
    : Nat) (l : List Nat) (key : Fin 16777216) (w : Option (List Byte)) (data : List Byte) (i : Instr), i ∈ [Instr.ringTimeSend, .ringTimeRx r,
    .delayReqPeriod p, .delayReqRx p pos a, .delayRespRx p a b c, .timeMapRx a b c, .commitRepeat, .nakRx pos cls q, .dictReqRx ⟨pos, q⟩ key w,
    .dictRespRx pos a b c data, .statusSend, .statusRx st, .telemetrySend, .telemetryRx pos q data, .insertionWindowStart, .insertionWindowEnd,
    .joinRx j, .joinRetry, .joinRefusalRx pos c, .ringTimeLoss, .bypassCheck l, .foreignRingTime q, .hopDown p c, .hopRestore p, .hopLockRegained p,
    .testGrantSend, .testGrantRx q pos, .testGrantMissing] ∧ exec i s = .next t ∧ s.dev.darkened = false :=
  ⟨idle, _, 1, 15, 255, ⟨0, 0, 0, false, 0, 0, 0, 0⟩, ⟨1, 0, 1, 0, 0, 0, [], [], []⟩, ⟨0, 0, []⟩, 0, 0, 0, 0, [], 0, none, [],
    .ringTimeSend, by
    decide, rfl, by decide +kernel⟩

theorem witness_SelfTestReports :
  (∃ (s : State) (r : SliceResult), s.dev.Serving ∧ s.dev.sliceStarts = true ∧ (r.granted = false ∨ s.dev.blockBusy = true)) ∧
  (∃ (s : State) (r : SliceResult), s.dev.Serving ∧ s.dev.sliceStarts = true ∧ r.granted = true ∧ s.dev.blockBusy = false ∧ r.burst = none ∧ s.dev.nat
    Obj.TT_TEST_NOW = 6 ∧ r.offered = false ∧ s.dev.test.item + 1 < testItems 6) ∧
  (∃ (s : State) (r : SliceResult), s.dev.Serving ∧ s.dev.sliceStarts = true ∧ r.granted = true ∧ s.dev.blockBusy = false ∧ r.burst = none ∧ (s.dev.nat
    Obj.TT_TEST_NOW ≠ 6 ∨ r.offered = true) ∧ r.ok = true ∧ s.dev.test.item + 1 < testItems (s.dev.nat Obj.TT_TEST_NOW)) ∧
  (∃ (s : State) (r : SliceResult), s.dev.Serving ∧ s.dev.sliceStarts = true ∧ r.granted = true ∧ s.dev.blockBusy = false ∧ r.burst = none ∧ (s.dev.nat
    Obj.TT_TEST_NOW ≠ 6 ∨ r.offered = true) ∧ r.ok = false ∧ s.dev.test.failed = none) ∧
  (∃ (s : State) (r : SliceResult), s.dev.Serving ∧ s.dev.sliceStarts = true ∧ r.granted = true ∧ s.dev.blockBusy = false ∧ r.burst = none ∧ (s.dev.nat
    Obj.TT_TEST_NOW ≠ 6 ∨ r.offered = true) ∧ r.ok = false ∧ s.dev.test.failed.isSome) ∧
  (∃ (s : State), s.dev.Serving ∧ s.dev.sliceStarts = false) ∧
  (∃ (s : State) (a : Nat), s.dev.Serving ∧ s.dev.test.asking = some a ∧ s.dev.now < a + 500) ∧
  (∃ (s : State) (a : Nat), s.dev.Serving ∧ s.dev.test.asking = some a ∧ a + 500 ≤ s.dev.now ∧ s.dev.nat Obj.TT_DEFERRED + 1 < counterMod
    Obj.TT_DEFERRED) ∧
  (∃ (s : State), s.dev.Serving ∧ s.dev.test.sliceEnd.isSome) ∧
  (∃ (s : State), s.dev.Serving ∧ s.dev.test.sliceEnd = none) ∧
  (∃ (s : State) (o : Origin) (n : Nat), s.seen.accepts o Obj.TT_ENGINE_CONTROL [1] = true ∧ n < 96) ∧
  (∃ (s : State) (o : Origin), s.seen.accepts o Obj.TT_ENGINE_CONTROL [2] = true) ∧
  (∃ (s : State) (o : Origin), s.seen.accepts o Obj.LK_CONTROL [1] = true) ∧
  (∃ (s : State) (o : Origin), s.seen.accepts o Obj.LK_CONTROL [2] = true) ∧
  (∃ (s : State), s.dev.alive = true ∧ s.dev.power.banked = false ∧ s.dev.nat Obj.TT_ENGINE_STATE = 2) ∧
  (∃ (s : State), s.dev.alive = true ∧ s.dev.power.banked = false ∧ s.dev.nat Obj.TT_ENGINE_STATE ≠ 2) ∧
  (∃ (s : State), s.dev.alive = true ∧ s.dev.power.banked = false ∧ s.dev.nat Obj.LK_STATE ≠ 2) ∧
  (∃ (s : State), s.dev.alive = true ∧ s.dev.power.banked = false ∧ s.dev.nat Obj.LK_STATE = 2 ∧ s.dev.test.lkAt + 100000 * s.dev.nat Obj.LK_DURATION_MS
    ≤ s.dev.now) ∧
  (∃ (s : State), s.dev.alive = true ∧ s.dev.power.banked = false ∧ s.dev.nat Obj.LK_STATE = 2 ∧ s.dev.now < s.dev.test.lkAt + 100000 * s.dev.nat
    Obj.LK_DURATION_MS) ∧
  (∃ (s : State) (i : Instr) (code : Nat), (i, code) ∈ [(Instr.jtagExtest, 0), (.jtagIdcode, 1), (.jtagSamplePreload, 2), (.jtagClamp, 4), (.jtagHighz,
    5), (.jtagExtestPulse, 6), (.jtagExtestTrain, 7), (.jtagBypass, 0xFF)] ∧ s.dev.power.inReset = false ∧ s.dev.power.banked = false ∧ (s.dev.lc =
    .factory ∨ s.dev.lc = .maintenance)) ∧
  (∃ (s : State) (i : Instr) (code : Nat), (i, code) ∈ [(Instr.jtagExtest, 0), (.jtagIdcode, 1), (.jtagSamplePreload, 2), (.jtagClamp, 4), (.jtagHighz,
    5), (.jtagExtestPulse, 6), (.jtagExtestTrain, 7), (.jtagBypass, 0xFF)] ∧ s.dev.power.inReset = false ∧ s.dev.power.banked = false ∧ s.dev.lc ≠
    .factory ∧ s.dev.lc ≠ .maintenance) :=
  ⟨(let s : State := idle; let r : SliceResult := ⟨false, true, true, 0, 0, 0, none⟩; let s := setNow (99000000 + 500000) s
    ⟨s, r, by decide +kernel +zetaReduce⟩),
   (let s : State := idle; let r : SliceResult := ⟨true, false, true, 0, 0, 0, none⟩; let s := setN Obj.TT_TEST_NOW (6) s
    let s := setNow (99000000 + 500000) s; ⟨s, r, by decide +kernel +zetaReduce⟩),
   (let s : State := idle; let r : SliceResult := ⟨true, true, true, 0, 0, 0, none⟩; let s := setN Obj.TT_TEST_NOW (6 + 1) s
    let s := setNow (99000000 + 500000) s; ⟨s, r, by decide +kernel +zetaReduce⟩),
   (let s : State := idle; let r : SliceResult := ⟨true, true, false, 0, 0, 0, none⟩; let s := setN Obj.TT_TEST_NOW (6 + 1) s
    let s := up s fun d => { d with test.failed := none }; let s := setNow (99000000 + 500000) s; ⟨s, r, by decide +kernel +zetaReduce⟩),
   (let s : State := idle; let r : SliceResult := ⟨true, true, false, 0, 0, 1, none⟩; let s := setN Obj.TT_TEST_NOW (6 + 1) s
    let s := setNow (99000000 + 500000) s; let s := up s fun d => { d with test := { d.test with failed := some 3 } }
    ⟨s, r, by decide +kernel +zetaReduce⟩),
   (let s : State := idle; ⟨s, by decide +kernel +zetaReduce⟩),
   (let s : State := idle; let a : Nat := 0; let s := up s fun d => { d with test.asking := some a }; ⟨s, a, by decide +kernel +zetaReduce⟩),
   (let s : State := idle; let a : Nat := 0; let s := up s fun d => { d with test.asking := some a }; let s := setNow (a + 500) s
    ⟨s, a, by decide +kernel +zetaReduce⟩),
   (let s : State := idle; let s := up s fun d => { d with test := { d.test with sliceEnd := some 3 } }; ⟨s, by decide +kernel +zetaReduce⟩),
   (let s : State := idle; let s := up s fun d => { d with test.sliceEnd := none }; ⟨s, by decide +kernel +zetaReduce⟩),
   (let s : State := idle; let o : Origin := .svc 4 0 6 []; let n : Nat := 95; let s := fSession (fLc .factory s)
    ⟨s, o, n, by decide +kernel +zetaReduce⟩),
   (let s : State := idle; let o : Origin := .svc 4 0 6 []; let s := setN Obj.TT_ENGINE_STATE 1 (fSession (fLc .factory s))
    ⟨s, o, by decide +kernel +zetaReduce⟩),
   (let s : State := idle; let o : Origin := .svc 4 0 6 []; let s := setN Obj.TT_ENGINE_STATE 1 (setN Obj.LK_STATE 0 (setN Obj.LK_PATH 3 s))
    ⟨s, o, by decide +kernel +zetaReduce⟩),
   (let s : State := idle; let o : Origin := .svc 4 0 6 []; let s := setN Obj.TT_ENGINE_STATE 1 (setN Obj.LK_STATE 2 (setN Obj.LK_PATH 3 s))
    ⟨s, o, by decide +kernel +zetaReduce⟩),
   (let s : State := idle; let s := up s fun d => { d with power.banked := false }; let s := setN Obj.TT_ENGINE_STATE (2) s
    ⟨s, by decide +kernel +zetaReduce⟩),
   (let s : State := idle; let s := up s fun d => { d with power.banked := false }; let s := setN Obj.TT_ENGINE_STATE (2 + 1) s
    ⟨s, by decide +kernel +zetaReduce⟩),
   (let s : State := idle; let s := up s fun d => { d with power.banked := false }; let s := setN Obj.LK_STATE (2 + 1) s
    ⟨s, by decide +kernel +zetaReduce⟩),
   (let s : State := idle; let s := up s fun d => { d with power.banked := false }; let s := setN Obj.LK_STATE (2) s
    let s := setNow (s.dev.test.lkAt + 100000 * s.dev.nat Obj.LK_DURATION_MS) s; ⟨s, by decide +kernel +zetaReduce⟩),
   (let s : State := idle; let s := up s fun d => { d with power.banked := false }; let s := setN Obj.LK_STATE (2) s
    ⟨s, by decide +kernel +zetaReduce⟩),
   (let s : State := idle; let i : Instr := .jtagBypass; let code : Nat := 255; let s := up s fun d => { d with power.inReset := false }
    let s := up s fun d => { d with power.banked := false }; let s := fLc .factory s; ⟨s, i, code, by decide +kernel +zetaReduce⟩),
   (let s : State := idle; let i : Instr := .jtagExtest; let code : Nat := 0; let s := up s fun d => { d with power.inReset := false }
    let s := up s fun d => { d with power.banked := false }; let s := fLc .service s; ⟨s, i, code, by decide +kernel +zetaReduce⟩)⟩

/-- A loaded extract of three sections, whose anchor names a firmware version: one empty configuration image, an empty record
image, one segment of zeros. -/
def smallExtract (version : List Byte) : List Byte :=
  (leBytes 4 0xA5E50E01 ++ leBytes 2 1 ++ leBytes 2 3 ++ List.replicate 16 0 ++ version ++ List.replicate 4068 0) ++
    ((leBytes 2 1 ++ leBytes 2 0 ++ leBytes 4 1 ++ leBytes 8 0 ++ List.replicate 4080 0) ++
    ((leBytes 2 2 ++ List.replicate 14 0 ++ List.replicate 4080 0) ++
    (leBytes 2 3 ++ leBytes 2 0 ++ leBytes 4 1 ++ leBytes 8 65536 ++ List.replicate 69616 0)))

theorem sectionAt_append (a h t : List Byte) (off : Nat) (ha : a.length = off) (hh : h.length = 16) :
    sectionAt (a ++ (h ++ t)) off = (leNat (h.take 2), leNat ((h.drop 4).take 4), t.take (leNat ((h.drop 8).take 8)),
      off + cdiv (16 + leNat ((h.drop 8).take 8)) 4096 * 4096) := by
  subst ha
  simp [-List.reduceReplicate, sectionAt, List.take_append, List.drop_append, hh, List.take_of_length_le]

theorem smallExtract_sections (v : List Byte) (hv : v.length = 4) : (extractSections (smallExtract v)).isSome := by
  have e1 : sectionAt (smallExtract v) 4096 = (1, 1, [], 8192) := by
    have := sectionAt_append (leBytes 4 0xA5E50E01 ++ leBytes 2 1 ++ leBytes 2 3 ++ List.replicate 16 0 ++ v ++ List.replicate 4068 0)
      (leBytes 2 1 ++ leBytes 2 0 ++ leBytes 4 1 ++ leBytes 8 0) (List.replicate 4080 0 ++ ((leBytes 2 2 ++ List.replicate 14 0 ++ List.replicate 4080 0) ++
    (leBytes 2 3 ++ leBytes 2 0 ++ leBytes 4 1 ++ leBytes 8 65536 ++ List.replicate 69616 0))) 4096 (by simp [-List.reduceReplicate, hv, leBytes]) rfl
    simp only [smallExtract, List.append_assoc] at this ⊢
    rw [this]; rfl
  have e2 : sectionAt (smallExtract v) 8192 = (2, 0, [], 12288) := by
    have := sectionAt_append ((leBytes 4 0xA5E50E01 ++ leBytes 2 1 ++ leBytes 2 3 ++ List.replicate 16 0 ++ v ++ List.replicate 4068 0) ++
       (leBytes 2 1 ++ leBytes 2 0 ++ leBytes 4 1 ++ leBytes 8 0 ++ List.replicate 4080 0))
      (leBytes 2 2 ++ List.replicate 14 0) (List.replicate 4080 0 ++
    (leBytes 2 3 ++ leBytes 2 0 ++ leBytes 4 1 ++ leBytes 8 65536 ++ List.replicate 69616 0)) 8192 (by simp [-List.reduceReplicate, hv, leBytes]) rfl
    simp only [smallExtract, List.append_assoc] at this ⊢
    rw [this]; rfl
  have e3 : sectionAt (smallExtract v) 12288 = (3, 1, (List.replicate 69616 0).take 65536, 81920) := by
    have := sectionAt_append (((leBytes 4 0xA5E50E01 ++ leBytes 2 1 ++ leBytes 2 3 ++ List.replicate 16 0 ++ v ++ List.replicate 4068 0) ++
       (leBytes 2 1 ++ leBytes 2 0 ++ leBytes 4 1 ++ leBytes 8 0 ++ List.replicate 4080 0)) ++ (leBytes 2 2 ++ List.replicate 14 0 ++ List.replicate 4080 0))
      (leBytes 2 3 ++ leBytes 2 0 ++ leBytes 4 1 ++ leBytes 8 65536) (List.replicate 69616 0) 12288 (by simp [-List.reduceReplicate, hv, leBytes]) rfl
    simp only [smallExtract, List.append_assoc] at this ⊢
    rw [this]
    have h : leNat (((leBytes 2 3 ++ (leBytes 2 0 ++ (leBytes 4 1 ++ leBytes 8 65536))).drop 8).take 8) = 65536 := by decide +kernel
    rw [h]; rfl
  have h1 : leNat ((smallExtract v).take 4) = 0xA5E50E01 := by simp [-List.reduceReplicate, smallExtract, leBytes, leNat]
  have h2 : leNat (((smallExtract v).drop 4).take 2) = 1 := by simp [-List.reduceReplicate, smallExtract, leBytes, leNat]
  have h3 : leNat (((smallExtract v).drop 6).take 2) = 3 := by simp [-List.reduceReplicate, smallExtract, leBytes, leNat]
  have hl : (smallExtract v).length = 81920 := by simp [-List.reduceReplicate, smallExtract, leBytes, hv]
  simp [-List.reduceReplicate, extractSections, e1, e2, e3, h1, h2, h3, hl]

theorem smallExtract_version (v : List Byte) (hv : v.length = 4) : ((anchorOf (smallExtract v)).drop 4).take 4 = v := by
  simp [-List.reduceReplicate, anchorOf, smallExtract, leBytes, List.take_append, List.drop_append, hv, List.take_of_length_le]

theorem replayStart_accepted : ∃ (s : State) (o : Origin) (i : Nat), s.seen.accepts o Obj.REPLAY_CONTROL [2] = true ∧
    ((s.seen.execAt o Obj.REPLAY_CONTROL [2])).replaySlot
      (leNat (((anchorOf ((s.seen.execAt o Obj.REPLAY_CONTROL [2])).replay.loaded).drop 4).take 4)) = some i ∧
    ((s.seen.execAt o Obj.REPLAY_CONTROL [2])).imageCause (((s.seen.execAt o Obj.REPLAY_CONTROL [2])).slot i) = 0 ∧
    (extractSections ((s.seen.execAt o Obj.REPLAY_CONTROL [2])).replay.loaded).isSome := by
  let x := smallExtract ((Slot.bytes { base := true }) 8 4)
  let s : State := up (setSlot 0 (fun y => { y with base := true }) (setN Obj.REPLAY_STATE 3 (fOp .replay (fSession (fLc .replay idle))))) fun d =>
    { d with replay := { d.replay with loaded := x } }
  let o : Origin := .svc 4 9 6 [248, 219, 210, 219, 167, 116, 22, 197, 62, 162, 242, 96, 121, 223, 42, 51]
  have hx : (s.seen.execAt o Obj.REPLAY_CONTROL [2]).replay.loaded = x := rfl
  refine ⟨s, o, 0, by decide +kernel +zetaReduce, ?_, by decide +kernel +zetaReduce, ?_⟩
  · rw [hx, smallExtract_version _ rfl]
    have h0 : (s.seen.execAt o Obj.REPLAY_CONTROL [2]).slot 0 = { s.dev.slot 0 with base := true } := by decide +kernel +zetaReduce
    have h1 : (s.seen.execAt o Obj.REPLAY_CONTROL [2]).nat Obj.FW_SEC_COUNTER = 0 := by decide +kernel +zetaReduce
    simp only [Dev.replaySlot, List.find?_cons, h0, h1]
    simp [Slot.version, Slot.bytes, Slot.byteAt]
  · rw [hx]; exact smallExtract_sections _ rfl

theorem witness_ReplayStatesAdvance :
  (∃ (s : State), s.dev.power.inReset = false ∧ s.dev.power.banked = false ∧ (s.dev.op ≠ .replay ∨ s.dev.nat Obj.REPLAY_STATE ≠ 4)) ∧
  (∃ (s : State), s.dev.power.inReset = false ∧ s.dev.power.banked = false ∧ s.dev.op = .replay ∧ s.dev.nat Obj.REPLAY_STATE = 4 ∧ s.dev.nextInput =
    none) ∧
  (∃ (s : State) (x : Nat × List Byte × JRec), s.dev.power.inReset = false ∧ s.dev.power.banked = false ∧ s.dev.op = .replay ∧ s.dev.nat
    Obj.REPLAY_STATE = 4 ∧ s.dev.nextInput = some x ∧ x.2.2.at' < s.dev.replay.clock ∧ x.2.2.ty ≠ 0x0C) ∧
  (∃ (s : State) (x : Nat × List Byte × JRec) (k : Fin 32) (on : Bool), s.dev.power.inReset = false ∧ s.dev.power.banked = false ∧ s.dev.op = .replay ∧
    s.dev.nat Obj.REPLAY_STATE = 4 ∧ s.dev.nextInput = some x ∧ x.2.2.at' = s.dev.replay.clock ∧ s.dev.replay.clock < s.dev.nat Obj.REPLAY_STOP_TIME ∧
    s.dev.replay.made = [] ∧ s.dev.nat Obj.REPLAY_END_REASON = 0 ∧ s.dev.replay.op = .operating ∧ s.dev.nat (Obj.FIN_USE k) ≠ 0 ∧ x.2.2.ty = 4 ∧
    x.2.2.fields = [(k.val : Int), (b2n on : Int)]) ∧
  (∃ (s : State) (o : Origin), s.seen.accepts o Obj.REPLAY_CONTROL [1] = true) ∧
  (∃ (s : State) (o : Origin) (i : Nat), s.seen.accepts o Obj.REPLAY_CONTROL [2] = true ∧ ((s.seen.execAt o Obj.REPLAY_CONTROL [2])).replaySlot (leNat
    (((anchorOf ((s.seen.execAt o Obj.REPLAY_CONTROL [2])).replay.loaded).drop 4).take 4)) = some i ∧ ((s.seen.execAt o Obj.REPLAY_CONTROL
    [2])).imageCause (((s.seen.execAt o Obj.REPLAY_CONTROL [2])).slot i) = 0 ∧ (extractSections ((s.seen.execAt o Obj.REPLAY_CONTROL
    [2])).replay.loaded).isSome) ∧
  (∃ (s : State) (o : Origin), s.seen.accepts o Obj.REPLAY_CONTROL [3] = true) ∧
  (∃ (s : State) (o : Origin), s.seen.accepts o Obj.XB_BUILD [1] = true) ∧
  (∃ (s : State), s.dev.power.inReset = false ∧ s.dev.power.banked = false ∧ s.dev.replay.building = false) ∧
  (∃ (s : State), s.dev.power.inReset = false ∧ s.dev.power.banked = false ∧ s.dev.replay.building = true) ∧
  (∃ (s : State) (peer : Nat) (req : Nat) (counter : Nat) (off : Nat) (tag : List Byte) (data : List Byte), s.dev.power.inReset = false ∧
    s.dev.power.banked = false ∧ s.dev.op = .replay ∧ s.dev.lc = .replay ∧ s.dev.portOn = true ∧ s.dev.portShed = false ∧ s.dev.sessionRepeat peer
    counter tag = none ∧ 1 ≤ data.length ∧ data.length ≤ 1024 ∧ (s.dev.nat Obj.REPLAY_STATE = 1 ∨ s.dev.nat Obj.REPLAY_STATE = 2) ∧ s.dev.sessionCheck
    peer counter tag (datagram 0x30 req counter (loadBytes off false data)) = 0 ∧ off = s.dev.replay.loaded.length) ∧
  (∃ (s : State) (peer : Nat) (req : Nat) (counter : Nat) (off : Nat) (tag : List Byte) (data : List Byte), s.dev.power.inReset = false ∧
    s.dev.power.banked = false ∧ s.dev.op = .replay ∧ s.dev.lc = .replay ∧ s.dev.portOn = true ∧ s.dev.portShed = false ∧ s.dev.sessionRepeat peer
    counter tag = none ∧ 1 ≤ data.length ∧ data.length ≤ 1024 ∧ (s.dev.nat Obj.REPLAY_STATE = 1 ∨ s.dev.nat Obj.REPLAY_STATE = 2) ∧ s.dev.sessionCheck
    peer counter tag (datagram 0x30 req counter (loadBytes off false data)) = 0 ∧ off ≠ s.dev.replay.loaded.length) ∧
  (∃ (s : State) (peer : Nat) (req : Nat) (counter : Nat) (off : Nat) (tag : List Byte) (data : List Byte), s.dev.power.inReset = false ∧
    s.dev.power.banked = false ∧ s.dev.op = .replay ∧ s.dev.lc = .replay ∧ s.dev.portOn = true ∧ s.dev.portShed = false ∧ s.dev.sessionRepeat peer
    counter tag = none ∧ 1 ≤ data.length ∧ data.length ≤ 1024 ∧ (s.dev.nat Obj.REPLAY_STATE = 1 ∨ s.dev.nat Obj.REPLAY_STATE = 2) ∧ s.dev.sessionCheck
    peer counter tag (datagram 0x30 req counter (loadBytes off true data)) = 0 ∧ off = s.dev.replay.loaded.length ∧ extractSections
    (s.dev.replay.loaded ++ data) = none) :=
  ⟨(let s : State := idle; let s := up s fun d => { d with power.inReset := false }; let s := up s fun d => { d with power.banked := false }
    ⟨s, by decide +kernel +zetaReduce⟩),
   (let s : State := idle; let s := up s fun d => { d with power.inReset := false }; let s := up s fun d => { d with power.banked := false }
    let s := fOp .replay s; let s := setN Obj.REPLAY_STATE (4) s; ⟨s, by decide +kernel +zetaReduce⟩),
   (let s : State := idle; let x : Nat × List Byte × JRec := (0, [], ⟨4, [], [], 2⟩); let s := up s fun d => { d with power.inReset := false }
    let s := up s fun d => { d with power.banked := false }; let s := fOp .replay s; let s := setN Obj.REPLAY_STATE (4) s
    let s := up s fun d => { d with replay := { d.replay with inputs := List.replicate d.replay.pos x ++ [x], clock := 100 } }
    ⟨s, x, by decide +kernel +zetaReduce⟩),
   (let s : State := idle; let x : Nat × List Byte × JRec := (0, [], ⟨4, [(0 : Int), (1 : Int)], [], 1000⟩); let k : Fin 32 := 0
    let on : Bool := true; let s := up s fun d => { d with power.inReset := false }; let s := up s fun d => { d with power.banked := false }
    let s := fOp .replay s; let s := setN Obj.REPLAY_STATE (4) s; let s := up s fun d => { d with replay.made := [] }
    let s := setN Obj.REPLAY_END_REASON (0) s; let s := up s fun d => { d with replay.op := .operating }; let s := setN (Obj.FIN_USE k) (0 + 1) s
    let s := up s fun d => { d with replay := { d.replay with inputs := List.replicate d.replay.pos x ++ [x], clock := 1000, own := some ⟨[], [], {}, {}⟩
      } }
    ⟨s, x, k, on, by decide +kernel +zetaReduce⟩),
   (let s : State := idle; let o : Origin := .svc 4 9 6 [119, 177, 126, 144, 218, 172, 162, 175, 136, 111, 128, 24, 250, 60, 200, 116]
    let s := fSession (fLc .maintenance s); ⟨s, o, by decide +kernel +zetaReduce⟩),
   replayStart_accepted,
   (let s : State := idle; let o : Origin := .svc 4 9 6 [146, 190, 67, 110, 152, 188, 164, 88, 224, 131, 176, 193, 124, 238, 191, 235]
    let s := setN Obj.REPLAY_STATE 3 (fOp .replay (fSession (fLc .replay s))); ⟨s, o, by decide +kernel +zetaReduce⟩),
   (let s : State := idle; let o : Origin := .svc 4 9 6 [210, 105, 251, 122, 24, 183, 142, 108, 99, 60, 95, 6, 190, 68, 175, 199]
    let s := setN Obj.REPLAY_STATE 3 (fOp .replay (fSession (fLc .replay s))); ⟨s, o, by decide +kernel +zetaReduce⟩),
   (let s : State := idle; let s := up s fun d => { d with power.inReset := false }; let s := up s fun d => { d with power.banked := false }
    let s := up s fun d => { d with replay.building := false }; ⟨s, by decide +kernel +zetaReduce⟩),
   (let s : State := idle; let s := up s fun d => { d with power.inReset := false }; let s := up s fun d => { d with power.banked := false }
    let s := up s fun d => { d with replay.building := true }; ⟨s, by decide +kernel +zetaReduce⟩),
   (let s : State := idle; let peer : Nat := 4; let req : Nat := 0; let counter : Nat := 6; let off : Nat := 0
    let tag : List Byte := [219, 82, 59, 183, 48, 86, 190, 108, 147, 45, 220, 18, 43, 223, 138, 122]; let data : List Byte := [1]
    let s := up s fun d => { d with power.inReset := false }; let s := up s fun d => { d with power.banked := false }; let s := fOp .replay s
    let s := fLc .replay s; let s := setN Obj.REPLAY_STATE (1) s; let s := setN Obj.REPLAY_STATE 1 (fSession s)
    ⟨s, peer, req, counter, off, tag, data, by decide +kernel +zetaReduce⟩),
   (let s : State := idle; let peer : Nat := 4; let req : Nat := 0; let counter : Nat := 6; let off : Nat := 1
    let tag : List Byte := [216, 96, 173, 182, 233, 205, 219, 227, 102, 70, 17, 192, 115, 253, 149, 156]; let data : List Byte := [1]
    let s := up s fun d => { d with power.inReset := false }; let s := up s fun d => { d with power.banked := false }; let s := fOp .replay s
    let s := fLc .replay s; let s := setN Obj.REPLAY_STATE (1) s; let s := setN Obj.REPLAY_STATE 1 (fSession s)
    ⟨s, peer, req, counter, off, tag, data, by decide +kernel +zetaReduce⟩),
   (let s : State := idle; let peer : Nat := 4; let req : Nat := 0; let counter : Nat := 6; let off : Nat := 0
    let tag : List Byte := [223, 65, 74, 45, 79, 159, 159, 137, 229, 98, 50, 220, 158, 110, 76, 107]; let data : List Byte := [1]
    let s := up s fun d => { d with power.inReset := false }; let s := up s fun d => { d with power.banked := false }; let s := fOp .replay s
    let s := fLc .replay s; let s := setN Obj.REPLAY_STATE (1) s; let s := setN Obj.REPLAY_STATE 1 (fSession s)
    ⟨s, peer, req, counter, off, tag, data, by decide +kernel +zetaReduce⟩)⟩

theorem witness_HaltedFrame :
  ∃ (s : State) (ch : Fin 96) (g : Fin 24) (k : Fin 32) (p : Fin 8) (sub : Fin 32) (v : Nat) (w : Nat) (z : Int) (b : Bool) (m : List (Option Nat)) (l :
    List Nat) (ev : PulseEv) (o : OpticalEv) (r : GwReturn) (i : Instr), i ∈ [Instr.groupFrameBoundary g b m, .pulseOnEdge ch, .pulseOffEdge ch,
    .inrushWindowEnd ch, .buckPeakCrossing ⟨ch, sub⟩, .buckOffTimeExpiry ch v, .buckPeakTimeout ch, .shortHiCrossing ⟨ch, sub⟩, .softOffComplete ch,
    .softOffTimeout ch, .latchRetryTimer ch, .retryPeriodClean ch, .evidenceClose ch ev, .dcEIntervalEnd ch ev, .darkOpenLoCrossing ⟨ch, sub⟩,
    .darkOpenLoFall ch, .darkDrainSample ch v w, .litWhenDarkDebounce ch, .isolationVerify g l, .probeDue ch, .probeEnd ch b, .warmingPulseJudge ch b
    v, .opticalWindowClose ch o, .lifeUpdateSecond, .deratingUpdate, .recalibrationDay, .ntcConversion g v, .kgndMeasurement g z, .gwFrameStart ⟨p,
    b⟩, .gwReturnJudge p r, .mxFrameStart, .mxSlotStart ⟨l, b⟩, .msyncEdge b, .msyncLoss, .finRawEdge k b, .finDebounceExpiry k, .finBreakEnter k,
    .finBreakExit k, .finUnknownEnd k] ∧ s.dev.alive = false :=
  (let s : State := idle; let ch : Fin 96 := 0; let g : Fin 24 := 0; let k : Fin 32 := 0; let p : Fin 8 := 0; let sub : Fin 32 := 0; let v : Nat := 0
   let w : Nat := 0; let z : Int := 0; let b : Bool := true; let m : List (Option Nat) := []; let l : List Nat := []; let ev : PulseEv := noEv
   let o : OpticalEv := noOpt; let r : GwReturn := .nothing; let i : Instr := .lifeUpdateSecond; let s := fOp .haltSafe s
   ⟨s, ch, g, k, p, sub, v, w, z, b, m, l, ev, o, r, i, by decide +kernel +zetaReduce⟩)

end Sys2Proof.Tests
end

section
/-! SUPPORT. What entry into HALT-SAFE and a reset that the device makes itself leave, each said once, and where a halt
leads once it is judged. -/
namespace Sys2Proof.Machine

/-! ### What decides where a halt leads -/

/-- Two blocks that agree in all that a halt and its judgement look at, which is the state, the supplies, the banks and the
probation, and in the counts of the tempo monitor. -/
structure Dev.SameGround (d t : Dev) : Prop where
  op : t.op = d.op
  window : t.guard.window = d.guard.window
  low : t.guard.low = d.guard.low
  power : t.power = d.power
  ember : t.ember = d.ember
  probation : t.nat Obj.FW_PROBATION = d.nat Obj.FW_PROBATION

namespace Dev.SameGround

variable {d t u : Dev}

theorem refl (d : Dev) : d.SameGround d := ⟨rfl, rfl, rfl, rfl, rfl, rfl⟩

theorem trans (h : d.SameGround t) (g : t.SameGround u) : d.SameGround u :=
  ⟨g.op.trans h.op, g.window.trans h.window, g.low.trans h.low, g.power.trans h.power, g.ember.trans h.ember,
    g.probation.trans h.probation⟩

theorem ite {c : Prop} [Decidable c] (ht : d.SameGround t) (hu : d.SameGround u) : d.SameGround (if c then t else u) := by
  by_cases h : c <;> simpa [h]

theorem aside (h : d.SameGround t) (g : t.Aside u) : d.SameGround u :=
  h.trans ⟨g.op, by rw [g.guard], by rw [g.guard], g.power, g.ember, g.nat (by unfold asideKey; decide)⟩

theorem put (h : d.SameGround t) {k : Nat} (v : Nat) (hk : Obj.FW_PROBATION ≠ k) : d.SameGround (t.put k v) :=
  h.trans ⟨rfl, rfl, rfl, rfl, rfl, Dev.nat_put_ne t k v hk⟩

theorem putIf (h : d.SameGround t) {k : Nat} (v : Nat) {c : Prop} [Decidable c] (hk : Obj.FW_PROBATION ≠ k) :
    d.SameGround (if c then t.put k v else t) := ite (h.put v hk) h

theorem count (h : d.SameGround t) {k : Nat} (hk : Obj.FW_PROBATION ≠ k) : d.SameGround (t.count k) := h.put _ hk

theorem setGood (h : d.SameGround t) (n : Nat) : d.SameGround { t with guard := { t.guard with good := n } } :=
  h.trans ⟨rfl, rfl, rfl, rfl, rfl, rfl⟩

end Dev.SameGround

/-! ### HALT-SAFE (R50, R204) -/

/-- A part of the block that a change keeps is kept by a fold of the change. -/
theorem foldl_keeps {β : Type} (p : Dev → β) (f : Dev → Nat → Dev) (l : List Nat) (h : ∀ t, ∀ n ∈ l, p (f t n) = p t) (d : Dev) :
    p (l.foldl f d) = p d :=
  List.foldlRecOn l f (motive := fun t => p t = p d) rfl fun t ht n hn => (h t n hn).trans ht

/-- The channels, isolators, pattern engines and effects of a block that enters HALT-SAFE. -/
def Dev.lampsHalted (d : Dev) : Dev :=
  ((List.range 16).foldl Dev.peIdle ((List.range 24).foldl (Dev.isoShow · 3)
    ((List.range 96).foldl Dev.haltChan d))).effectsDark

/-- Entry into HALT-SAFE from a state in which a halt can begin. -/
theorem Dev.haltSafe_eq {d : Dev} (h : d.Guarded) (cause detail : Nat) :
    d.haltSafe cause detail = ((({ d with
      op := .haltSafe, guard := { d.guard with tripped := true }
      test := { d.test with sliceEnd := none, hold := none, asking := none } }).put Obj.HALT_CAUSE cause).put
        Obj.HALT_DETAIL detail).lampsHalted := if_pos h

/-- A part of the block that every step of the lamps' halt keeps. -/
theorem Dev.lampsHalted_keeps {β : Type} (p : Dev → β) (chan : ∀ t n, p (Dev.haltChan t n) = p t)
    (iso : ∀ t, ∀ g < 24, p (Dev.isoShow t 3 g) = p t) (pe : ∀ t, ∀ e < 16, p (Dev.peIdle t e) = p t)
    (dark : ∀ t, p (Dev.effectsDark t) = p t) (d : Dev) : p d.lampsHalted = p d :=
  calc p d.lampsHalted
    _ = p ((List.range 24).foldl (Dev.isoShow · 3) ((List.range 96).foldl Dev.haltChan d)) :=
      (dark _).trans (foldl_keeps p _ _ (fun t e he => pe t e (List.mem_range.mp he)) _)
    _ = p ((List.range 96).foldl Dev.haltChan d) := foldl_keeps p _ _ (fun t g hg => iso t g (List.mem_range.mp hg)) _
    _ = p d := foldl_keeps p _ _ (fun t n _ => chan t n) d

theorem Dev.lampsHalted_op (d : Dev) : d.lampsHalted.op = d.op :=
  lampsHalted_keeps Dev.op (fun _ _ => by simp [Dev.haltChan]) (fun _ _ _ => by simp [Dev.isoShow])
    (fun _ _ _ => by simp [Dev.peIdle]) (fun _ => rfl) d

theorem Dev.lampsHalted_power (d : Dev) : d.lampsHalted.power = d.power :=
  lampsHalted_keeps Dev.power (fun _ _ => by simp [Dev.haltChan]) (fun _ _ _ => by simp [Dev.isoShow])
    (fun _ _ _ => by simp [Dev.peIdle]) (fun _ => rfl) d

theorem Dev.lampsHalted_ember (d : Dev) : d.lampsHalted.ember = d.ember :=
  lampsHalted_keeps Dev.ember (fun _ _ => by simp [Dev.haltChan]) (fun _ _ _ => by simp [Dev.isoShow])
    (fun _ _ _ => by simp [Dev.peIdle]) (fun _ => rfl) d

theorem Dev.isoShow_nat_ne (d : Dev) {c g k : Nat} (h : k / 256 ≠ 0x2900 + g) : (d.isoShow c g).nat k = d.nat k := by
  have state : k ≠ Obj.GRP_ISO_STATE g := by simp only [Obj.GRP_ISO_STATE]; omega
  have cause : k ≠ Obj.GRP_ISO_CAUSE g := by simp only [Obj.GRP_ISO_CAUSE]; omega
  simp only [Dev.isoShow, Dev.nat_put_ne _ _ _ cause, Dev.nat_put_ne _ _ _ state]

theorem Dev.peIdle_nat_ne (d : Dev) {e k : Nat} (h : k / 256 ≠ 0x2700 + e) : (d.peIdle e).nat k = d.nat k := by
  have state : k ≠ Obj.PE_STATE e := by simp only [Obj.PE_STATE]; omega
  have jump : k ≠ Obj.PE_JUMP_PENDING e := by simp only [Obj.PE_JUMP_PENDING]; omega
  have taps : k ≠ Obj.PE_TAP_LEVELS e := by simp only [Obj.PE_TAP_LEVELS]; omega
  simp only [Dev.peIdle, Dev.setEng_nat, Dev.nat_putBytes_ne _ _ _ taps, Dev.nat_put_ne _ _ _ jump, Dev.nat_put_ne _ _ _ state]

/-- A halted channel shows HALTED, and no other object changes. -/
theorem Dev.haltChan_nat (d : Dev) (n k : Nat) : (d.haltChan n).nat k = if k = Obj.DRV_STATE n then 7 else d.nat k := by
  by_cases h : k = Obj.DRV_STATE n <;> simp [Dev.haltChan, h]

theorem Dev.effectsDark_nat (d : Dev) (k : Nat) : d.effectsDark.nat k = d.nat k := rfl

/-- The lamps' halt leaves the objects below the pattern engines' as they were. -/
theorem Dev.lampsHalted_nat (d : Dev) {k : Nat} (hk : k / 256 < 0x2700) : d.lampsHalted.nat k = d.nat k := by
  refine lampsHalted_keeps (Dev.nat · k) (fun t n => ?_) (fun t g _ => t.isoShow_nat_ne (by omega))
    (fun t e _ => t.peIdle_nat_ne (by omega)) (fun t => t.effectsDark_nat k) d
  have key : k ≠ Obj.DRV_STATE n := by simp only [Obj.DRV_STATE]; omega
  simp only [Dev.haltChan_nat, if_neg key]

theorem foldl_haltChan_drv {n : Nat} (l : List Nat) (d : Dev) (h : n ∈ l ∨ d.drv n = 7) : (l.foldl Dev.haltChan d).drv n = 7 := by
  induction l generalizing d with
  | nil => simpa using h
  | cons m l ih =>
    have key : Obj.DRV_STATE n = Obj.DRV_STATE m ↔ n = m := by simp only [Obj.DRV_STATE]; omega
    have drv : (d.haltChan m).drv n = if n = m then 7 else d.drv n := by simp only [Dev.drv, Dev.haltChan_nat, key]
    refine ih _ ?_
    rcases h with h | h
    · rcases List.mem_cons.mp h with rfl | h
      · exact .inr (by simp [drv])
      · exact .inl h
    · exact .inr (by simp [drv, h])

/-- The lamps' halt leaves every channel HALTED. -/
theorem Dev.lampsHalted_drv (d : Dev) {n : Nat} (hn : n < 96) : d.lampsHalted.drv n = 7 := by
  have pe (t : Dev) : ((List.range 16).foldl Dev.peIdle t).drv n = t.drv n :=
    foldl_keeps (Dev.drv · n) _ _ (fun t e he => t.peIdle_nat_ne (by simp only [Obj.DRV_STATE, List.mem_range] at *; omega)) t
  have iso (t : Dev) : ((List.range 24).foldl (Dev.isoShow · 3) t).drv n = t.drv n :=
    foldl_keeps (Dev.drv · n) _ _ (fun t g hg => t.isoShow_nat_ne (by simp only [Obj.DRV_STATE, List.mem_range] at *; omega)) t
  rw [Dev.lampsHalted, Dev.drv, effectsDark_nat, ← Dev.drv, pe, iso]
  exact foldl_haltChan_drv _ d (.inl (List.mem_range.mpr hn))

theorem Dev.haltSafe_op {d : Dev} (h : d.Guarded) (cause detail : Nat) : (d.haltSafe cause detail).op = .haltSafe := by
  rw [haltSafe_eq h, lampsHalted_op, put_op, put_op]

theorem Dev.haltSafe_power {d : Dev} (h : d.Guarded) (cause detail : Nat) : (d.haltSafe cause detail).power = d.power := by
  rw [haltSafe_eq h, lampsHalted_power, put_power, put_power]

theorem Dev.haltSafe_ember {d : Dev} (h : d.Guarded) (cause detail : Nat) : (d.haltSafe cause detail).ember = d.ember := by
  rw [haltSafe_eq h, lampsHalted_ember, put_ember, put_ember]

theorem Dev.haltSafe_probation {d : Dev} (h : d.Guarded) (cause detail : Nat) :
    (d.haltSafe cause detail).nat Obj.FW_PROBATION = d.nat Obj.FW_PROBATION := by
  rw [haltSafe_eq h, lampsHalted_nat _ (by decide), nat_put_ne _ _ _ (by decide), nat_put_ne _ _ _ (by decide)]; rfl

theorem Dev.haltSafe_cause {d : Dev} (h : d.Guarded) (cause detail : Nat) :
    (d.haltSafe cause detail).nat Obj.HALT_CAUSE = cause := by
  rw [haltSafe_eq h, lampsHalted_nat _ (by decide), nat_put_ne _ _ _ (by decide), nat_put_same]

theorem Dev.haltSafe_detail {d : Dev} (h : d.Guarded) (cause detail : Nat) :
    (d.haltSafe cause detail).nat Obj.HALT_DETAIL = detail := by
  rw [haltSafe_eq h, lampsHalted_nat _ (by decide), nat_put_same]

theorem Dev.haltSafe_drv {d : Dev} (h : d.Guarded) (cause detail : Nat) {n : Nat} (hn : n < 96) :
    (d.haltSafe cause detail).drv n = 7 := by
  rw [haltSafe_eq h, lampsHalted_drv _ hn]

/-- In HALT-SAFE the output stage holds every gate low, every isolator at high impedance and both safe-state outputs
asserted. -/
theorem Dev.settled_haltSafe {d : Dev} (h : d.op = .haltSafe) :
    (∀ n, d.settled.gate n = .low) ∧ (∀ g, d.settled.iso g = .z) ∧ d.settled.outs.asserted := by
  have isolated : d.isolates = true := by simp [Dev.isolates, h]
  have dark : d.darkened = true := by simp [Dev.darkened, isolated]
  obtain ⟨levels, released, -⟩ := d.settled_safe
  refine ⟨fun n => d.settled_gate_low n dark, fun g => ?_, (levels (by simpa using dark)).2⟩
  have unlisted : d.settled.outs.iso = [] := released (.inl (by simpa using isolated))
  simp [Dev.iso, unlisted, lookD, look]

/-- A halt that stands leaves the block halted. -/
theorem Dev.haltSafe_settled {d : Dev} (h : d.Guarded) (cause detail : Nat) :
    (d.haltSafe cause detail).settled.Halted cause detail := by
  obtain ⟨low, released, asserted⟩ := settled_haltSafe (haltSafe_op h cause detail)
  refine ⟨?_, ?_, ?_, fun n hn => ⟨?_, low n⟩, fun g _ => released g, asserted⟩
  · rw [settled_op, haltSafe_op h]
  · rw [settled_nat, haltSafe_cause h]
  · rw [settled_nat, haltSafe_detail h]
  · exact (settled_nat _ _).trans (haltSafe_drv h cause detail hn)

/-! ### A reset the device makes itself (R52, R409, R455) -/

theorem Dev.afterReset_op (d : Dev) : d.afterReset.op = .kindling := by
  unfold Dev.afterReset
  simp only [apply_ite Dev.op, Dev.put_op, ite_self]

theorem Dev.afterReset_now (d : Dev) : d.afterReset.now = 0 := by
  unfold Dev.afterReset
  simp only [apply_ite Dev.now, Dev.put_now, ite_self]

theorem Dev.resetSelf_op (d : Dev) (cause : Nat) : (d.resetSelf cause).op = .kindling := by
  rw [Dev.resetSelf, Dev.released, count, put_op, put_op, afterReset_op]

theorem Dev.resetSelf_now (d : Dev) (cause : Nat) : (d.resetSelf cause).now = 0 := by
  rw [Dev.resetSelf, Dev.released, count, put_now, put_now, afterReset_now]

theorem Dev.resetSelf_cause (d : Dev) (cause : Nat) : (d.resetSelf cause).nat Obj.RESET_CAUSE = cause := by
  unfold Dev.resetSelf Dev.released
  rw [nat_count_ne _ _ _ (by decide), nat_put_same]

theorem Dev.rejectImage_op (d : Dev) (cause : Nat) : (d.rejectImage cause).op = .kindling := resetSelf_op _ 3

theorem Dev.rejectImage_now (d : Dev) (cause : Nat) : (d.rejectImage cause).now = 0 := resetSelf_now _ 3

theorem Dev.rejectImage_cause (d : Dev) (cause : Nat) : (d.rejectImage cause).nat Obj.RESET_CAUSE = 3 := resetSelf_cause _ 3

/-! ### The judgement of a halt (R455) -/

/-- Outside HALT-SAFE no image is judged. -/
theorem Dev.judged_of_guarded {d : Dev} (h : d.Guarded) : d.judged = d := by
  refine if_neg fun hj => ?_
  rcases h with h | h | h <;> simp [h] at hj

/-- A halt of a block leads where one of the block it came from leads. -/
theorem Dev.SameGround.haltsInto {d t : Dev} (g : d.SameGround t) (h : d.Guarded) (cause detail : Nat) :
    d.HaltsInto (t.haltSafe cause detail).judged.settled cause detail := by
  have ht : t.Guarded := by simpa only [Dev.Guarded, g.op] using h
  have rejects : ((t.haltSafe cause detail).op = .haltSafe ∧ (t.haltSafe cause detail).nat Obj.FW_PROBATION ≠ 0 ∧
      !((t.haltSafe cause detail).power.banked && (t.haltSafe cause detail).ember.bank.isSome)) ↔
      ¬ (d.nat Obj.FW_PROBATION = 0 ∨ (d.power.banked && d.ember.bank.isSome) = true) := by
    rw [haltSafe_op ht, haltSafe_probation ht, haltSafe_power ht, haltSafe_ember ht, g.probation, g.power, g.ember]
    simp only [ne_eq, true_and, not_or, Bool.not_eq_true', Bool.not_eq_true]
  unfold Dev.HaltsInto Dev.judged
  by_cases stands : d.nat Obj.FW_PROBATION = 0 ∨ (d.power.banked && d.ember.bank.isSome) = true
  · rw [if_pos stands, if_neg (mt rejects.mp (not_not_intro stands))]
    exact haltSafe_settled ht cause detail
  · rw [if_neg stands, if_pos (rejects.mpr stands), settled_op, settled_now, settled_nat]
    exact ⟨rejectImage_op _ 8, rejectImage_now _ 8, rejectImage_cause _ 8⟩

end Sys2Proof.Machine
end

section
/-! The tempo monitor (R26 to R34): what a window that closes does to the block, and the statement about two windows of low
tempo. -/
namespace Sys2Proof.Machine

theorem exec_tempoWindowClose (s : State) (e dm m : Nat) (r : s.dev.power.inReset = false) :
    exec (.tempoWindowClose e dm m) s = .next { s with dev := ((s.seen.tempoWindow e dm m).judged).settled } :=
  s.guarded_eq (fun d => (d.tempoWindow e dm m).judged) r

theorem Dev.SameGround.tempoShow {d t : Dev} (h : d.SameGround t) (e dm m : Nat) : d.SameGround (t.tempoShow e dm m) :=
  have index := h.put (k := Obj.TEMPO_INDEX) (min 1000 (e / 2400)) (by decide)
  have extremes := ((index.putIf _ (by decide)).putIf _ (by decide)).putIf _ (by decide)
  (extremes.put _ (by decide)).put _ (by decide)

theorem Dev.SameGround.decimate {d t : Dev} (h : d.SameGround t) : d.SameGround t.decimate :=
  ite (((h.put _ (by decide)).put _ (by decide)).aside (Dev.Aside.raiseOnce _ _ _ _ _ _)) h

theorem Dev.SameGround.tempoShed {d t : Dev} (h : d.SameGround t) (i : Nat) : d.SameGround (t.tempoShed i) :=
  have raised := ite (h.aside (Dev.Aside.raiseOnce _ _ _ _ _ _)) h
  have counted := ite (raised.count (by decide)) raised
  have shed := (ite counted.decimate counted).setGood _
  ite ((shed.put _ (by decide)).aside (Dev.Aside.clearC _ _ _)) (shed.put _ (by decide))

theorem Dev.nat_putIf_ne (d : Dev) {j k : Nat} (v : Nat) {c : Prop} [Decidable c] (h : j ≠ k) :
    (if c then d.put k v else d).nat j = d.nat j := by
  split
  · exact d.nat_put_ne k v h
  · rfl

theorem Dev.nat_putMax_ne (d : Dev) {j k : Nat} (v : Nat) (h : j ≠ k) : (d.putMax k v).nat j = d.nat j := d.nat_putIf_ne v h

theorem Dev.tempoShow_index (d : Dev) (e dm m : Nat) : (d.tempoShow e dm m).nat Obj.TEMPO_INDEX = min 1000 (e / 2400) := by
  unfold Dev.tempoShow
  rw [nat_put_ne _ _ _ (by decide), nat_put_ne _ _ _ (by decide), nat_putIf_ne _ _ (by decide), nat_putIf_ne _ _ (by decide),
    nat_putMax_ne _ _ (by decide), nat_put_same]

theorem Dev.tempoShow_mandatory (d : Dev) (e dm m : Nat) :
    (d.tempoShow e dm m).nat Obj.MANDATORY_DEMAND = min 1000 (m / 2400) := Dev.nat_put_same _ _ _

/-- The block with its tempo window closed. -/
def Dev.windowClosed (d : Dev) : Dev := { d with guard := { d.guard with window := d.ticks / 100000 } }

/-- The block with its run of low windows counted as n. -/
def Dev.setLow (d : Dev) (n : Nat) : Dev := { d with guard := { d.guard with low := n } }

/-- Shedding for an index, and the time for which TEMPO_LOW stands. -/
def Dev.tempoTimed (d : Dev) (i : Nat) : Dev :=
  if (d.tempoShed i).active 0x0604 0xFFFF then (d.tempoShed i).count Obj.TEMPO_LOW_TIME_MS else d.tempoShed i

/-- What follows in a closing window once its index and its mandatory demand are shown. -/
def Dev.tempoEnd (d : Dev) (i j : Nat) : Dev :=
  let d := d.tempoShed i
  let d := if d.active 0x0604 0xFFFF then d.count Obj.TEMPO_LOW_TIME_MS else d
  let low := if 4 * i < 5 * j then d.guard.low + 1 else 0
  let d := { d with guard := { d.guard with low := low } }
  if 2 ≤ low then d.haltSafe 0x0004 (65536 * i + j) else d

theorem Dev.tempoEnd_eq (d : Dev) {i j n : Nat} (hn : (if 4 * i < 5 * j then (d.tempoTimed i).guard.low + 1 else 0) = n) :
    d.tempoEnd i j = if 2 ≤ n then ((d.tempoTimed i).setLow n).haltSafe 0x0004 (65536 * i + j) else (d.tempoTimed i).setLow n := by
  subst hn
  rfl

/-- The block as a closing window leaves it where it does not halt, its run of low windows counted as n. -/
def Dev.tempoClosed (d : Dev) (e dm m n : Nat) : Dev :=
  ((d.windowClosed.tempoShow e dm m).tempoTimed (min 1000 (e / 2400))).setLow n

theorem Dev.SameGround.tempoTimed {d t : Dev} (h : d.SameGround t) (i : Nat) : d.SameGround (t.tempoTimed i) :=
  ite ((h.tempoShed i).count (by decide)) (h.tempoShed i)

theorem Dev.SameGround.setLow {d t : Dev} (h : d.SameGround t) (n : Nat) : (d.setLow n).SameGround (t.setLow n) :=
  ⟨h.op, h.window, rfl, h.power, h.ember, h.probation⟩

theorem Dev.SameGround.tempoClosed (d : Dev) (e dm m n : Nat) : (d.windowClosed.setLow n).SameGround (d.tempoClosed e dm m n) :=
  (((refl d.windowClosed).tempoShow e dm m).tempoTimed _).setLow n

/-- A window that is not due leaves the block as it was. -/
theorem Dev.tempoWindow_early {d : Dev} (early : d.ticks / 100000 ≤ d.guard.window) (e dm m : Nat) : d.tempoWindow e dm m = d :=
  if_pos (by simpa [Dev.tempoDue] using early)

/-- A window that is due closes and shows its index and its mandatory demand, which count to 1000, before it is judged. -/
theorem Dev.tempoWindow_shown {d : Dev} (due : d.guard.window < d.ticks / 100000) (e dm m : Nat) :
    d.tempoWindow e dm m =
      (d.windowClosed.tempoShow e dm m).tempoEnd (min 1000 (e / 2400)) (min 1000 (m / 2400)) := by
  rw [← d.windowClosed.tempoShow_index e dm m, ← d.windowClosed.tempoShow_mandatory e dm m]
  unfold Dev.windowClosed
  rw [Dev.tempoWindow, if_neg (by simpa [Dev.tempoDue] using due)]
  rfl

/-- A window below 1.25 times its mandatory demand counts, any other returns the run, and the second of a run halts. -/
theorem Dev.tempoWindow_due {d : Dev} (due : d.guard.window < d.ticks / 100000) {e dm m i j n : Nat}
    (he : min 1000 (e / 2400) = i) (hm : min 1000 (m / 2400) = j) (hn : (if 4 * i < 5 * j then d.guard.low + 1 else 0) = n) :
    d.tempoWindow e dm m =
      if 2 ≤ n then (d.tempoClosed e dm m n).haltSafe 0x0004 (65536 * i + j) else d.tempoClosed e dm m n := by
  have run : ((d.windowClosed.tempoShow e dm m).tempoTimed i).guard.low = d.guard.low :=
    (((SameGround.refl _).tempoShow e dm m).tempoTimed i).low
  rw [tempoWindow_shown due, he, hm, tempoEnd_eq _ (by rw [run, hn]), tempoClosed, he]

/-- A window that does not halt closes, with its run of low windows as it is counted. -/
theorem gives_tempoClosed {s : State} {e dm m n : Nat} (up : s.dev.Guarded) (r : s.dev.power.inReset = false)
    (h : s.seen.tempoWindow e dm m = s.seen.tempoClosed e dm m n) : Gives (.tempoWindowClose e dm m) s fun t =>
      t.op = s.dev.op ∧ t.guard.low = n ∧ t.guard.window = s.dev.ticks / 100000 := by
  have ground := Dev.SameGround.tempoClosed s.seen e dm m n
  have stays : (s.seen.tempoClosed e dm m n).judged = s.seen.tempoClosed e dm m n :=
    Dev.judged_of_guarded (by rw [Dev.Guarded, ground.op]; exact up)
  refine .intro _ (exec_tempoWindowClose s e dm m r) ?_
  rw [h, stays, Dev.settled_op, Dev.settled_guard]
  exact ⟨ground.op, ground.low, ground.window⟩

/-- A window that halts leads where a halt of the block leads. -/
theorem gives_tempoHalt {s : State} {e dm m n cause detail : Nat} (up : s.dev.Guarded) (r : s.dev.power.inReset = false)
    (h : s.seen.tempoWindow e dm m = (s.seen.tempoClosed e dm m n).haltSafe cause detail) :
    Gives (.tempoWindowClose e dm m) s fun t => s.dev.HaltsInto t cause detail := by
  refine .intro _ (exec_tempoWindowClose s e dm m r) ?_
  rw [h]
  exact (Dev.SameGround.tempoClosed s.seen e dm m n).haltsInto up cause detail

/-- Settles O23: the index and the demand of a window are within their range, so the window that is due closes with them as
they are; a low one counts as 1 or, with one before it, halts (R33, R455), and any other closes with no run. -/
theorem tempoHaltAfterTwo : Obligations.TempoHaltAfterTwo := by
  unfold Obligations.TempoHaltAfterTwo
  intro s e dm m up r he hm
  have index : min 1000 (e / 2400) = e / 2400 := by omega
  have demand : min 1000 (m / 2400) = m / 2400 := by omega
  refine ⟨fun due => ⟨fun below fresh => ?_, fun below second => ?_, fun enough => ?_⟩, fun early => ?_⟩
  · have low := Dev.tempoWindow_due (d := s.seen) due (dm := dm) index demand (if_pos below)
    rw [if_neg (by simp [fresh])] at low
    simpa [fresh] using gives_tempoClosed up r low
  · have low := Dev.tempoWindow_due (d := s.seen) due (dm := dm) index demand (if_pos below)
    rw [if_pos (by simpa using second)] at low
    exact gives_tempoHalt up r low
  · have low := Dev.tempoWindow_due (d := s.seen) due (dm := dm) index demand (if_neg (by omega))
    exact gives_tempoClosed up r (low.trans (if_neg (by decide)))
  · have still : (s.seen.tempoWindow e dm m).judged = s.seen := by
      rw [Dev.tempoWindow_early (d := s.seen) early]
      exact Dev.judged_of_guarded up
    refine .intro _ (exec_tempoWindowClose s e dm m r) ?_
    rw [still]
    exact Dev.Untouched.still s

end Sys2Proof.Machine
end

section
/-! The list of active conditions: what journalling, mutex grants and reports leave of it, which is all, and what a raise and
a clear make of it. -/
namespace Sys2Proof.Machine

/-! ### Journalling and grants leave the reporting state -/

@[simp] theorem Dev.jrec_rep (d : Dev) (ty : Nat) (fields : List Int) (data : List Byte) :
    (d.jrec ty fields data).rep = d.rep := by
  unfold Dev.jrec Dev.eventRate
  simp only [apply_ite Dev.rep, ite_self]

@[simp] theorem Dev.runRecord_rep (d : Dev) (p w : Nat) : (d.runRecord p w).rep = d.rep := by
  unfold Dev.runRecord
  simp only
  split
  · split
    · rfl
    · exact d.jrec_rep _ _ _
  · exact d.jrec_rep _ _ _

@[simp] theorem Dev.grantAt_rep (d : Dev) (p w : Nat) : (d.grantAt p w).rep = d.rep := by
  simp only [Dev.grantAt, apply_ite Dev.rep, countWrap_rep, runRecord_rep, ite_self]

@[simp] theorem Dev.askDuty_rep (d : Dev) (g r : Nat) : (d.askDuty g r).rep = d.rep := by
  simp only [Dev.askDuty, apply_ite Dev.rep, grantAt_rep, ite_self]

@[simp] theorem Dev.ringSend_rep (d : Dev) (cls dst : Nat) (payload : List Byte) (flags : Nat) :
    (d.ringSend cls dst payload flags).rep = d.rep := d.grantAt_rep 5 0

@[simp] theorem Dev.capTrigger_rep (d : Dev) (source : Nat) : (d.capTrigger source).rep = d.rep := by
  simp only [Dev.capTrigger, apply_ite Dev.rep, jrec_rep, put_rep, count_rep, ite_self]

@[simp] theorem Dev.laneSend_rep (d : Dev) (w l id : Nat) (data : List Byte) : (d.laneSend w l id data).rep = d.rep := by
  simp only [Dev.laneSend, apply_ite Dev.rep, emit_rep, grantAt_rep, ite_self]

/-! ### Reports leave the active conditions -/

/-- A fold of changes that leave the active conditions leaves them. -/
theorem Dev.foldl_conds {α : Type} (f : Dev → α → Dev) (h : ∀ t a, (f t a).rep.conds = t.rep.conds) (l : List α) (d : Dev) :
    (l.foldl f d).rep.conds = d.rep.conds :=
  List.foldlRecOn l f (motive := fun t => t.rep.conds = d.rep.conds) rfl fun t ht a _ => (h t a).trans ht

theorem Dev.emcySend_conds (d : Dev) (l : Nat) (e : Nat × Report) : (d.emcySend l e).rep.conds = d.rep.conds := by
  simp only [Dev.emcySend, laneSend_rep]

theorem Dev.emcyAdd_conds (d : Dev) (l : Nat) (e : Nat × Report) : (d.emcyAdd l e).rep.conds = d.rep.conds := by
  unfold Dev.emcyAdd
  simp only
  split
  · exact d.emcySend_conds l e
  · split <;> rfl

@[simp] theorem Dev.emcyAll_conds (d : Dev) (p : Nat) (rs : List Report) : (d.emcyAll p rs).rep.conds = d.rep.conds :=
  foldl_conds _ (fun t r => foldl_conds _ (fun t l => t.emcyAdd_conds l (p, r)) _ t) rs d

@[simp] theorem Dev.report_conds (d : Dev) (r : Report) (frames : List Report) : (d.report r frames).rep.conds = d.rep.conds := by
  have ring (t : Dev) : (frames.foldl (fun d f => d.ringSend 0x22 0 (emcyBytes d.errorRegister f)) t).rep.conds = t.rep.conds :=
    foldl_conds _ (fun t f => congrArg _ (t.ringSend_rep _ _ _ _)) frames t
  simp only [Dev.report, apply_ite Dev.rep, apply_ite Reporting.conds, ring, emcyAll_conds, count_rep, grantAt_rep, ite_self]

@[simp] theorem Dev.setSrc_conds (d : Dev) (s : Nat) (r : SrcRep) : (d.setSrc s r).rep.conds = d.rep.conds := rfl

@[simp] theorem Dev.setWin_conds (d : Dev) (code : Nat) (w : CoalWin) : (d.setWin code w).rep.conds = d.rep.conds := rfl

theorem Dev.summary_conds (d : Dev) (code n a : Nat) (group : Bool) (srcs : List Nat) :
    (d.summary code n a group srcs).rep.conds = d.rep.conds := by
  simp only [Dev.summary, apply_ite Dev.rep, apply_ite Reporting.conds, report_conds, count_rep, ite_self]

@[simp] theorem Dev.closeWin_conds (d : Dev) (code : Nat) : (d.closeWin code).rep.conds = d.rep.conds := by
  unfold Dev.closeWin
  simp only
  split
  · rfl
  · refine (foldl_conds _ (fun t s => t.setSrc_conds s _) _ _).trans ?_
    exact foldl_conds _ (fun t b => t.summary_conds _ _ _ _ _) _ _

@[simp] theorem Dev.reportRaise_conds (d : Dev) (code source detail : Nat) (map : List Nat) :
    (d.reportRaise code source detail map).rep.conds = d.rep.conds := by
  unfold Dev.reportRaise
  simp only
  split
  · split <;> simp
  · split <;> split <;> simp

@[simp] theorem Dev.reportClear_conds (d : Dev) (code source detail : Nat) :
    (d.reportClear code source detail).rep.conds = d.rep.conds := by
  simp only [Dev.reportClear, apply_ite Dev.rep, apply_ite Reporting.conds, setSrc_conds, report_conds, ite_self]

/-! ### What a raise and a clear make of the active conditions -/

/-- The active conditions without that of a code and source. -/
def Dev.condsBut (d : Dev) (code source : Nat) : List Cond :=
  d.rep.conds.filter fun c => !(c.code == code && c.source == source)

/-- A raise puts its condition at the end, in the place of the one of its code and source that was active. -/
theorem Dev.raiseC_conds (d : Dev) (code source detail : Nat) (latched : Bool) (map : List Nat) :
    (d.raiseC code source detail latched map).rep.conds =
      d.condsBut code source ++ [⟨code, source, detail, latched || d.latchedC code source, map, d.now⟩] := by
  have latch (t : Dev) (h : t.rep = d.rep) : t.latchedC code source = d.latchedC code source := by
    simp only [Dev.latchedC, Dev.cond, h]
  simp only [Dev.raiseC, reportRaise_conds, apply_ite Dev.rep, capTrigger_rep, ite_self, put_rep, count_rep, jrec_rep,
    latch _ (d.jrec_rep _ _ _), (Aside.jrec d _ _ _).now, condsBut]

/-- A clear takes out the condition of its code and source. -/
theorem Dev.clearC_conds (d : Dev) (code source : Nat) : (d.clearC code source).rep.conds = d.condsBut code source := by
  unfold Dev.clearC
  split
  · simp only [apply_ite Dev.rep, apply_ite Reporting.conds, report_conds, reportClear_conds, jrec_rep, ite_self, condsBut]
  next inactive =>
    refine (List.filter_eq_self.mpr fun c hc => ?_).symm
    simpa only [Bool.not_eq_true, Bool.not_eq_true'] using List.find?_eq_none.mp inactive c hc

/-- The conditions of another code or source are found where they were. -/
theorem Dev.find_condsBut (d : Dev) {code source c n : Nat} (h : c ≠ code ∨ n ≠ source) :
    (d.condsBut code source).find? (fun x => x.code == c && x.source == n) = d.cond c n := by
  unfold Dev.condsBut Dev.cond
  rw [List.find?_filter]
  congr 1
  funext x
  cases sought : x.code == c && x.source == n with
  | true =>
    obtain ⟨rfl, rfl⟩ : x.code = c ∧ x.source = n := by simpa only [Bool.and_eq_true, beq_iff_eq] using sought
    have kept : (x.code == code && x.source == source) = false := by
      simpa only [Bool.and_eq_false_iff, beq_eq_false_iff_ne] using h
    simp only [kept, Bool.not_false, and_self, decide_true]
  | false => simp only [Bool.false_eq_true, and_false, decide_false]

/-! ### What a change leaves of a condition -/

/-- Conditions are read from the reporting state alone. -/
theorem Dev.cond_congr {d t : Dev} (h : t.rep = d.rep) (c n : Nat) : t.cond c n = d.cond c n := by
  rw [Dev.cond, h, Dev.cond]

@[simp] theorem Dev.settled_cond (d : Dev) (c n : Nat) : d.settled.cond c n = d.cond c n := cond_congr d.settled_rep c n

@[simp] theorem State.seen_cond (s : State) (c n : Nat) : s.seen.cond c n = s.dev.cond c n := Dev.cond_congr s.seen_rep c n

@[simp] theorem Dev.put_cond (d : Dev) (k v c n : Nat) : (d.put k v).cond c n = d.cond c n := rfl

@[simp] theorem Dev.count_cond (d : Dev) (k v c n : Nat) : (d.count k v).cond c n = d.cond c n := rfl

@[simp] theorem Dev.setCh_cond (d : Dev) (m : Nat) (x : Chan) (c n : Nat) : (d.setCh m x).cond c n = d.cond c n := rfl

section
variable (d : Dev) {code source c n : Nat} (h : c ≠ code ∨ n ≠ source)
include h

/-- A raise leaves every condition of another code or source. -/
theorem Dev.raiseC_cond_ne (detail : Nat) (latched : Bool) (map : List Nat) :
    (d.raiseC code source detail latched map).cond c n = d.cond c n := by
  have other : ¬ (code = c ∧ source = n) := by omega
  rw [Dev.cond, raiseC_conds, List.find?_append, find_condsBut d h]
  simp [other]

theorem Dev.raiseOnce_cond_ne (detail : Nat) (latched : Bool) (map : List Nat) :
    (d.raiseOnce code source detail latched map).cond c n = d.cond c n := by
  simp only [Dev.raiseOnce, apply_ite (Dev.cond · c n), raiseC_cond_ne d h, ite_self]

/-- A clear leaves every condition of another code or source. -/
theorem Dev.clearC_cond_ne : (d.clearC code source).cond c n = d.cond c n := by
  rw [Dev.cond, clearC_conds, find_condsBut d h]

theorem Dev.clearFree_cond_ne : (d.clearFree code source).cond c n = d.cond c n := by
  simp only [Dev.clearFree, apply_ite (Dev.cond · c n), clearC_cond_ne d h, ite_self]

end

end Sys2Proof.Machine
end

section
/-! Optical windows (R160 to R165): the only conditions that a closing window can change are OPTICAL_DISAGREE, 0x0107, and
DARK_FAULT, 0x0101, so that LIT_FAULT is out of its reach. -/
namespace Sys2Proof.Machine

/-! ### The life side of a window -/

@[simp] theorem Dev.calWindow_rep (d : Dev) (n na iMean : Nat) : (d.calWindow n na iMean).rep = d.rep := by
  simp only [Dev.calWindow, apply_ite Dev.rep, setLf_rep, ite_self]

@[simp] theorem Dev.lifeSubmit_rep (d : Dev) (n : Nat) : (d.lifeSubmit n).rep = d.rep := by
  simp only [Dev.lifeSubmit, apply_ite Dev.rep, askDuty_rep, setLf_rep, ite_self]

@[simp] theorem Dev.colState_rep (d : Dev) (g st : Nat) : (d.colState g st).rep = d.rep := by
  unfold Dev.colState
  exact foldl_keeps Dev.rep _ _ (fun t k _ => t.put_rep _ _) d

@[simp] theorem Dev.colourLoop_rep (d : Dev) (g : Nat) (a : List Int) : (d.colourLoop g a).rep = d.rep := by
  unfold Dev.colourLoop
  extract_lets p vr vg vb vw sx sy sz sum xt yt shown rhs den nums turned atLimit dx dy tol
  have shown_rep : shown.rep = d.rep := by
    unfold shown
    split
    · rfl
    · exact foldl_keeps Dev.rep _ _ (fun t k _ => (t.putInt _ _).putInt_rep _ _) d
  have turned_rep : turned.rep = shown.rep := foldl_keeps Dev.rep _ _ (fun t k _ => t.putInt_rep _ _) shown
  split
  · rw [colState_rep, shown_rep]
  · rw [colState_rep, turned_rep, shown_rep]

/-! ### What a window does to the conditions -/

theorem Dev.darkFault_cond_ne (d : Dev) (m reason latch : Nat) {c : Nat} (dark : c ≠ 0x0101) (n : Nat) :
    (d.darkFault m reason latch).cond c n = d.cond c n := by
  simp only [Dev.darkFault, apply_ite (Dev.cond · c n), count_cond, raiseC_cond_ne _ (.inl dark), ite_self]

/-- The verdicts of optical windows leave every condition but OPTICAL_DISAGREE and DARK_FAULT. -/
theorem Dev.optFuse_cond_ne (d : Dev) (m st : Nat) {c : Nat} (disagree : c ≠ 0x0107) (dark : c ≠ 0x0101) (n : Nat) :
    (d.optFuse m st).cond c n = d.cond c n := by
  simp only [Dev.optFuse, apply_ite (Dev.cond · c n), put_cond, setCh_cond, darkFault_cond_ne _ _ _ _ dark,
    raiseOnce_cond_ne _ (.inl disagree), clearFree_cond_ne _ (.inl disagree), clearFree_cond_ne _ (.inl dark), ite_self]

/-- A window that closes leaves every condition but OPTICAL_DISAGREE and DARK_FAULT: its verdicts do, and what else it brings,
the calibration, the colour loop and the life factors, raises and clears nothing. -/
theorem Dev.optWindow_cond_ne (d : Dev) (m : Nat) (ev : OpticalEv) {c : Nat} (disagree : c ≠ 0x0107) (dark : c ≠ 0x0101)
    (n : Nat) : (d.optWindow m ev).cond c n = d.cond c n := by
  have fused (t : Dev) (st : Nat) : (t.optFuse m st).cond c n = t.cond c n := t.optFuse_cond_ne m st disagree dark n
  have calibrated (t : Dev) (na i : Nat) : (t.calWindow m na i).cond c n = t.cond c n :=
    cond_congr (t.calWindow_rep m na i) c n
  have coloured (t : Dev) (g : Nat) (a : List Int) (l : List Nat) :
      (l.foldl Dev.lifeSubmit (t.colourLoop g a)).cond c n = t.cond c n := by
    refine cond_congr ?_ c n
    rw [foldl_keeps Dev.rep _ _ (fun u k _ => u.lifeSubmit_rep k), colourLoop_rep]
  have stated (t : Dev) (g st : Nat) : (t.colState g st).cond c n = t.cond c n :=
    cond_congr (t.colState_rep g st) c n
  simp only [Dev.optWindow, apply_ite (Dev.cond · c n), coloured, stated, setCh_cond, calibrated, fused, put_cond, ite_self]

theorem exec_opticalWindowClose (s : State) (ch : Fin 96) (ev : OpticalEv) :
    exec (.opticalWindowClose ch ev) s = s.live fun d => d.optWindow ch ev := rfl

/-- Settles O14: the conditions a closing window can change are 0x0107 and 0x0101, and LIT_FAULT is 0x0102; where the block is
not alive no window closes. -/
theorem opticalNeverTouchesLitFault : Obligations.OpticalNeverTouchesLitFault := by
  unfold Obligations.OpticalNeverTouchesLitFault
  intro s t ch ev n step
  rw [exec_opticalWindowClose] at step
  cases alive : s.dev.alive with
  | true =>
    rw [s.live_eq _ alive] at step
    cases step
    rw [Dev.settled_cond, Dev.optWindow_cond_ne _ _ _ (by decide) (by decide), State.seen_cond]
  | false =>
    rw [s.live_still _ alive] at step
    cases step
    rw [Dev.settled_cond, State.seen_cond]

end Sys2Proof.Machine
end
